-- ==== Sys2Proof/Word.lean ====
section
/-! DEFINITION. Words, bytes, bit fields, saturating and signed arithmetic, and the sparse tables that hold every
repeated unit of the block in one canonical form (R7, R8, R9). -/

namespace Sys2Proof

/-- A word is 32 bits (R8). -/
abbrev Word := BitVec 32
/-- A halfword is 16 bits (R8). -/
abbrev Half := BitVec 16
/-- A byte is 8 bits (R8). -/
abbrev Byte := BitVec 8

/-- Bits [lo + n - 1 : lo] of a word, as a number. -/
def field (w : Word) (lo n : Nat) : Nat := (w.toNat / 2 ^ lo) % 2 ^ n

/-- A word with bits [lo + n - 1 : lo] replaced by the low n bits of v. -/
def setField (w : Word) (lo n v : Nat) : Word :=
  BitVec.ofNat 32 (w.toNat - field w lo n * 2 ^ lo + (v % 2 ^ n) * 2 ^ lo)

/-- Bit b of a word. -/
def wbit (w : Word) (b : Nat) : Bool := field w b 1 == 1

/-- A number whose bit b is 1 exactly when the flag holds. -/
def flag (b : Bool) : Nat := if b then 1 else 0

/-- A sum that saturates at 2^n - 1. -/
def satAdd (n a k : Nat) : Nat := min (a + k) (2 ^ n - 1)

/-- A number modulo 2^n. -/
def wrap (n a : Nat) : Nat := a % 2 ^ n

/-- Two's complement reading of an n-bit number. -/
def signed (n a : Nat) : Int := if a % 2 ^ n < 2 ^ (n - 1) then (a % 2 ^ n : Nat) else (a % 2 ^ n : Nat) - (2 ^ n : Nat)

/-- An integer kept to n bits, two's complement. -/
def unsigned (n : Nat) (a : Int) : Nat := (a % (2 ^ n : Nat)).toNat

/-- An integer limited to [-m, m]. -/
def clampInt (m : Nat) (a : Int) : Int := max (-(m : Int)) (min a m)

/-- Division rounded up. -/
def ceilDiv (a b : Nat) : Nat := (a + b - 1) / b

/-- Division of integers rounded towards zero. -/
def truncDiv (a : Int) (b : Nat) : Int := Int.tdiv a b

/-- Division of integers rounded to nearest, halves away from zero. -/
def roundDiv (a : Int) (b : Nat) : Int :=
  if a < 0 then -(((-a).toNat * 2 + b) / (2 * b) : Nat) else ((a.toNat * 2 + b) / (2 * b) : Nat)

/-- The low word of a 64-bit number. -/
def lo32 (n : Nat) : Word := BitVec.ofNat 32 n
/-- The high word of a 64-bit number. -/
def hi32 (n : Nat) : Word := BitVec.ofNat 32 (n / 2 ^ 32)
/-- A word from a number. -/
def word (n : Nat) : Word := BitVec.ofNat 32 n

/-- A word made of (shift, value) fields. -/
def pack (fs : List (Nat × Nat)) : Word := BitVec.ofNat 32 (fs.foldl (fun a f => a + f.2 * 2 ^ f.1) 0)

/-- The four bytes of a word, least significant first (R9). -/
def wordBytes (w : Word) : List Byte :=
  [w.extractLsb' 0 8, w.extractLsb' 8 8, w.extractLsb' 16 8, w.extractLsb' 24 8]

/-- The bytes of a list of words, each least significant byte first. -/
def bytesOf (ws : List Word) : List Byte := ws.flatMap wordBytes

/-- A number from bytes, least significant first (R9). -/
def leNat : List Byte → Nat
  | [] => 0
  | b :: bs => b.toNat + 256 * leNat bs

/-- The n low bytes of a number, least significant first (R9). -/
def leBytes : Nat → Nat → List Byte
  | 0, _ => []
  | k + 1, n => BitVec.ofNat 8 n :: leBytes k (n / 256)

/-- The words of a byte list, k words, missing bytes 0. -/
def wordsOf : Nat → List Byte → List Word
  | 0, _ => []
  | k + 1, bs => BitVec.ofNat 32 (leNat (bs.take 4)) :: wordsOf k (bs.drop 4)

/-- The number of flags that hold. -/
def countTrue (l : List Bool) : Nat := (l.filter id).length

/-- The bits of a list of flags as a number, element 0 in bit 0. -/
def bitsOf : List Bool → Nat
  | [] => 0
  | b :: bs => flag b + 2 * bitsOf bs

/-- The positions i < n at which a test holds. -/
def idxs (n : Nat) (f : Nat → Bool) : List Nat := (List.range n).filter f

/-- The first position i < n at which a test holds. -/
def firstIdx (n : Nat) (f : Nat → Bool) : Option Nat := (List.range n).find? f

/-- An element put before the first element it precedes. -/
def insertBy {α : Type} (lt : α → α → Bool) (x : α) : List α → List α
  | [] => [x]
  | y :: ys => if lt y x then y :: insertBy lt x ys else x :: y :: ys

/-- A list in the order of lt; equal elements keep their order. -/
def sortBy {α : Type} (lt : α → α → Bool) (l : List α) : List α := l.reverse.foldl (fun a x => insertBy lt x a) []

/-- A sparse table: (index, value) pairs, indices strictly rising, no value equal to what an unlisted index reads. -/
abbrev Tab (α : Type) := List (Nat × α)

namespace Tab

/-- What a table reads at an index; unlisted indices read the default d. -/
def get {α : Type} (d : Nat → α) : Tab α → Nat → α
  | [], k => d k
  | (j, v) :: t, k => if j = k then v else get d t k

/-- A table without the entries of one index. -/
def erase {α : Type} (t : Tab α) (k : Nat) : Tab α := t.filter (fun e => e.1 != k)

/-- A value listed before the first greater index. -/
def enter {α : Type} : Tab α → Nat → α → Tab α
  | [], k, v => [(k, v)]
  | (j, w) :: t, k, v => if j < k then (j, w) :: enter t k v else (k, v) :: (j, w) :: t

/-- A table with one index written, in canonical form: a value equal to the default removes the entry. -/
def put {α : Type} [DecidableEq α] (d : Nat → α) (t : Tab α) (k : Nat) (v : α) : Tab α :=
  if v = d k then t.erase k else enter (t.erase k) k v

/-- Every listed index is at least lo, indices rise strictly, and no value equals the default. -/
def wfFrom {α : Type} [DecidableEq α] (d : Nat → α) : Nat → Tab α → Bool
  | _, [] => true
  | lo, (k, v) :: t => decide (lo ≤ k) && decide (v ≠ d k) && wfFrom d (k + 1) t

/-- The canonical form of a table. -/
def wf {α : Type} [DecidableEq α] (d : Nat → α) (t : Tab α) : Bool := wfFrom d 0 t

/-- A table without the entries whose index satisfies the test. -/
def without {α : Type} (t : Tab α) (p : Nat → Bool) : Tab α := t.filter (fun e => !p e.1)

/-- Every listed value changed by f, in canonical form. -/
def mapVals {α : Type} [DecidableEq α] (d : Nat → α) (t : Tab α) (f : Nat → α → α) : Tab α :=
  t.filterMap (fun e => if f e.1 (e.2) = d e.1 then none else some (e.1, f e.1 e.2))

end Tab

/-- CRC register step: the register of `n` bits is shifted left by one bit with input bit b, polynomial poly. -/
def crcBit (n poly r : Nat) (b : Bool) : Nat :=
  if (r / 2 ^ (n - 1) % 2 == 1) != b then ((r * 2) % 2 ^ n) ^^^ poly else (r * 2) % 2 ^ n

/-- The bits of a byte, most significant first. -/
def byteBits (b : Byte) : List Bool := (List.range 8).reverse.map (fun i => b.getLsbD i)

/-- A CRC of n bits over bytes taken most significant bit first, no reflection, no final XOR. -/
def crc (n poly init : Nat) (bs : List Byte) : Nat := (bs.flatMap byteBits).foldl (crcBit n poly) init

/-- The CRC-8 of command frames: polynomial 0x07, initial value 0 (R107). -/
def crc8 (bs : List Byte) : Nat := crc 8 0x07 0 bs

/-- The CRC-16 of return frames, log entries and the UART: polynomial 0x1021, initial value 0xFFFF (R120). -/
def crc16 (bs : List Byte) : Nat := crc 16 0x1021 0xFFFF bs

/-- The bits of a byte, least significant first. -/
def byteBitsRev (b : Byte) : List Bool := (List.range 8).map (fun i => b.getLsbD i)

/-- An n-bit number with its bits in the opposite order. -/
def reflect (n a : Nat) : Nat := bitsOf ((List.range n).reverse.map (fun i => a / 2 ^ i % 2 == 1))

/-- The CRC-32 of IEEE 802.3: reflected, initial value and final XOR 0xFFFFFFFF. -/
def crc32 (bs : List Byte) : Nat :=
  reflect 32 ((bs.flatMap byteBitsRev).foldl (crcBit 32 0x04C11DB7) 0xFFFFFFFF) ^^^ 0xFFFFFFFF

end Sys2Proof
end

