-- ==== Sys2Proof/Syntax/Operands.lean ====
section
/-! DEFINITION. The operand types of the commands: command packets, interfaces, observations that an event carries. -/

namespace Sys2Proof

/-- A command packet (R297, R298) as fetched: `src` is the queue it was fetched from (0 to 31, or 255 for the UART),
`sqhead` the SQ head after its fetch (R291), the rest the header fields; `words` are parameter words 0 to 11. -/
structure Packet where
  src : Nat
  sqhead : Nat
  tag : Byte
  queue : Byte
  len : Half
  flags : Half
  ptr : BitVec 64
  words : List Word
  deriving DecidableEq, Repr

/-- The host access interfaces that read and write registers: Fast Port and PCIe. -/
inductive Port where
  | fast | pcie
  deriving DecidableEq, Repr

/-- Where a write of the host lands (R275, R280, R286, R287): the Fast Port (word offsets), BAR0, BAR2, BAR4, the Command
register of configuration space (bit 2: Bus Master Enable), the Message Control word of the MSI-X capability (bit 15:
enable, bit 14: function mask), Device Control (bits 7:5: max payload size), the power management control and status register (bits 1:0:
the D state) and the AER uncorrectable error status register (write 1 to clear). -/
inductive Space where
  | fast | bar0 | bar2 | bar4 | command | msixControl | deviceControl | powerState | aerStatus
  deriving DecidableEq, Repr

/-- What the lamp die sees of a lit interval at its sample (R128, R129): the position voltage in mV, or an interval that
was too short to sample. -/
inductive LitObs where
  | volts (mv : Nat)
  | tooShort
  deriving DecidableEq, Repr

/-- A lit sample as the lamp die sends it (R128, R156): the epoch in force when its interval began, and what was seen. -/
structure LitSample where
  tag : Half
  obs : LitObs
  deriving DecidableEq, Repr

/-- A rail as measured (R61): its voltage in mV, and for how many ticks it has stayed within its accuracy. -/
structure RailReading where
  mv : Nat
  stay : Nat
  deriving DecidableEq, Repr

/-- A pin of an output that is off, found above half VFLD (R327): the output, and the output that its pin is wired to, if any (R332). -/
structure OffPin where
  out : Fin 16
  wired : Option (Fin 16)
  deriving DecidableEq, Repr

/-- A symbol at a return input (R116, R121): a control or data character, or a code violation or disparity error. -/
inductive RetSym where
  | ctrl (b : Byte)
  | data (b : Byte)
  | bad
  deriving DecidableEq, Repr

/-- What a die link check found (R22); `fresh`: a word with good parity has passed since the die's last control-bus parity error. -/
inductive LinkError where
  | control (fresh : Bool) | status | readback (lamp : Fin 512)
  deriving DecidableEq, Repr

/-- Who met an SRAM ECC error (R256): the scrubber, the task of an engine, or hardware that reads the word. -/
inductive SramReader where
  | scrubber
  | engine (e : Fin 18)
  | hardware
  deriving DecidableEq, Repr

/-- An SRAM word read with an ECC error (R256): who met it, and the staged recorder records in it, as (stream, place in its queue). -/
structure SramRead where
  reader : SramReader
  struck : List (Fin 16 × Nat)
  deriving DecidableEq, Repr

/-- The operand that a firmware timer deposits (R241): its slot and its 8 bytes. -/
structure SlotOperand where
  slot : Fin 4
  data : Nat
  deriving DecidableEq, Repr

/-- An operand that a running task deposits for a follow-on task (R241, producer ENGINE). -/
structure Deposit where
  template : Fin 256
  key : Nat
  slot : Fin 4
  data : Nat
  deriving DecidableEq, Repr

/-- What the firmware of a task does before it completes, beyond what the spec gives its template (R237, R241, R253, R260): operands
deposited, bytes written to the firmware's shared SRAM and to the engine's local memory, pages of the firmware event log taken and given
back; and, for FLT_POST, whether a mirror write fails its verification (R388). -/
structure TaskWork where
  deposits : List Deposit
  shared : List (Nat × Byte)
  scratch : List (Nat × Byte)
  logTake : Nat
  logGive : Nat
  mirrorBad : Bool
  deriving DecidableEq, Repr

/-- The end of a task (R243): the engine that ran it, and what its firmware has done. -/
structure TaskEnd where
  engine : Fin 18
  work : TaskWork
  deriving DecidableEq, Repr

/-- The boundary-scan instructions (R313). -/
inductive TapIns where
  | bypass | idcode | sample | extest | clamp | highz
  deriving DecidableEq, Repr

/-- How a PCIe link was lost (R289, R480). -/
inductive LinkLoss where
  | down | hotReset | perst
  deriving DecidableEq, Repr

/-- Where a DMA error struck (R296, R303): an SQ fetch or a CQ write of a queue, or the PTR area of the running command
of a queue, after some bytes of it had been transferred. -/
inductive DmaSite where
  | sqFetch (q : Fin 32)
  | cqWrite (q : Fin 32)
  | ptr (q : Fin 32) (bytes : Nat)
  deriving DecidableEq, Repr

/-- How a DMA transfer failed (R303). -/
inductive DmaError where
  | timeout | unsupported | abort | poisoned
  deriving DecidableEq, Repr

/-- A DMA transfer that failed (R303): where and how. -/
structure DmaFailure where
  site : DmaSite
  how : DmaError
  deriving DecidableEq, Repr

/-- What the boundary register holds for the output pins that it covers (R313). -/
structure ScanCells where
  fpD : Word
  irqN : BitVec 4
  uartTx : Bool
  ready : Bool
  fltP : Bool
  fltN : Bool
  deriving DecidableEq, Repr

/-- What the test access port is given (R313): the instruction, whether TRST_N is low, and the boundary cells of the outputs. -/
structure TapScan where
  ins : TapIns
  trstLow : Bool
  cells : ScanCells
  deriving DecidableEq, Repr

/-- A Tributary frame (R209): header bytes D1 to D7 of its start block, its data blocks, the CRC-32 of its terminate block, and how many
blocks of other types came between the frame before and this one, and in it (R202). -/
structure TribFrame where
  hdr : List Byte
  data : List (BitVec 64)
  crc : BitVec 32
  strayBefore : Nat
  strayIn : Nat
  deriving DecidableEq, Repr

/-- What a boot finds (R432): the calibration pairs (converter, channel, gain) whose block fails its CRC (R359), whether the keep record's
CRC fails (R426), the SEQ of mirror entries whose CRC fails (R389), whether the MRAM copy of the boot record fails, and the SEQ of the
ring entries that fail (R449), the slots whose image can no longer be read (R451), and the DRAM pages that training finds, 0 when it fails
(R258, R259). -/
structure BootObs where
  calLost : List (Nat × Nat × Nat)
  keepBad : Bool
  mirrorBad : List Nat
  mramBad : Bool
  ringBad : List Nat
  imageBad : List Nat
  dramPages : Nat
  deriving DecidableEq, Repr

end Sys2Proof
end

