-- ==== Sys2Proof/Syntax.lean ====
section
/-! DEFINITION. The commands of the block: one constructor for each row of the table of operations and events. -/

namespace Sys2Proof

/-- The commands: what the host, the board, the chain and the block's own timers do to it. -/
inductive Instr where
  /-- Command that returns the device time at execution (R306). -/
  | genNop (p : Packet)
  /-- Command that returns GEN_ID, firmware version, running image, states, chain role and position, and serial (R306). -/
  | genIdentify (p : Packet)
  /-- Command that sets the base state to RUN or MAINT, subject to its ordered row checks (R466). -/
  | genSetState (p : Packet)
  /-- Command that returns, and optionally clears, the counters of one queue or the UART (R306). -/
  | genQueueStats (p : Packet)
  /-- Command that cancels the oldest fetched, not-started packet of a queue with a given TAG (R306). -/
  | genAbort (p : Packet)
  /-- Command that raises one MSI-X vector once (R306). -/
  | genVectorTest (p : Packet)
  /-- Command that starts an LMP configuration commit through the shared commit engine (R64). -/
  | lmpCommit (p : Packet)
  /-- Write of 1 to LMP_CFGCMT.COMMIT that starts an LMP configuration commit (R64). -/
  | lmpCfgcmtCommit
  /-- Once every raised rail has reached its target, all string and position settings take effect in one CCLK and lowered rails start to
  slew down (R66). -/
  | lmpCommitApply
  /-- A rail has not reached its target 10 ms after the checks, so the commit is abandoned with RAIL_TIMEOUT (R66). -/
  | lmpCommitTimeout
  /-- Command that clears a stuck-lit cut of a string when the shunt readback shows the shunt closed (R140). -/
  | lmpStringRestore (p : Packet) (closed : Bool)
  /-- Command that runs checks 2 to 9 and returns the power estimate of the staged values (R86). -/
  | lmpEstimate (p : Packet)
  /-- Write of string enable bits that starts or interrupts ramps at once (R71). -/
  | lmpSenWrite (n : Fin 4) (v : Word)
  /-- Command that starts an ASP configuration commit (R94). -/
  | aspCommit (p : Packet)
  /-- Write of 1 to ASP_CFGCMT.COMMIT that starts an ASP configuration commit (R94). -/
  | aspCfgcmtCommit
  /-- Command that applies aspects and duties to up to 11 lamps, all or nothing (R124). -/
  | aspSet (p : Packet)
  /-- Write of ASP_LCMD with GO = 1 that commands one lamp directly (R124). -/
  | aspLcmdGo (l : Fin 512) (v : Word)
  /-- Command that returns, and optionally clears, the counters of one lamp or one return lane (R125). -/
  | aspLaneStats (p : Packet)
  /-- Write of ASP_RCFG that takes effect at once and restarts the return input in HUNT (R116). -/
  | aspRcfgWrite (n : Fin 512) (v : Word)
  /-- At each start of an insertion interval during a fade, the generator takes the next d_ins, or ends the fade (R100). -/
  | fadeStep (l : Fin 512)
  /-- At a symbol boundary with no frame in transmission, the serialiser starts the highest-priority item present (R110). -/
  | frameTransmitStart (l : Fin 512)
  /-- A framed lane that has sent no frame for REFRESH µs queues an IDLE strike (R111). -/
  | idleStrikeRefresh (l : Fin 512)
  /-- An idle framed lane with FLASH = 1 sends a lit flash after half a trickle interval without a lit verdict (R149). -/
  | provingFlash (l : Fin 512)
  /-- An eight-symbol return frame is taken whole, checked, and written to its SMT entry or counted by outcome (R121). -/
  | returnFrame (n : Fin 512) (syms : List RetSym)
  /-- A pending rank update of a submodule takes effect in its arm unit's rank list (R42). -/
  | rankUpdate (sm : Fin 4096)
  /-- Two commas at one alignment take a return input from HUNT to SYNC (R116). -/
  | returnSyncAcquire (n : Fin 512)
  /-- Four code or disparity errors within 16 symbols take a return input back to HUNT (R116). -/
  | syncLoss (n : Fin 512) (inFrame : Bool)
  /-- An enabled return input sees no transition for 32 bit times and shows LOS (R116). -/
  | returnLos (n : Fin 512)
  /-- Command that re-admits a retired lamp whose last trickle verdict is PASS (R158). -/
  | prvReadmit (p : Packet)
  /-- Once the rail has reached its raised target, the re-admitted lamp takes its role in one CCLK and the command completes (R158). -/
  | readmitComplete (l : Fin 512)
  /-- The rail has not reached its target within 10 ms, so re-admission is abandoned with STATE (R158). -/
  | readmitTimeout (l : Fin 512)
  /-- Command that returns, and optionally clears, the proving counters of a lamp (R164). -/
  | prvLampStats (p : Packet)
  /-- Command that requests a trickle test of a lamp at its next opportunity (R163). -/
  | prvTrickleNow (p : Packet)
  /-- No opportunity arose within one trickle interval, so PRV_TRICKLE_NOW completes UNPROVABLE (R163). -/
  | trickleNowTimeout (l : Fin 512)
  /-- Command that retires a lamp or spare with cause HOST (R159). -/
  | prvRetire (p : Packet)
  /-- A lit sample taken DLY after a lit edge, or every 1,024 TCLK while lit, is judged against the lit window (R128). -/
  | litSample (l : Fin 512) (o : LitSample)
  /-- The string's compliance-loss detector fires, and the lamp die identifies, retires and shunts any open position (R132). -/
  | complianceLoss (s : Fin 128) (v0 v1 v2 v3 : Nat)
  /-- The lamp die reports the end of a sibling disturbance, and framed lanes it touched get repeats (R134). -/
  | siblingDisturbanceEnd (s : Fin 128)
  /-- A position commanded closed stays above 0.45 V for 16 TCLK and is detected as stuck-lit (R137). -/
  | stuckLitDetect (l : Fin 512) (mv : Nat)
  /-- The scheduler starts a trickle test of a dark position within its trickle interval (R144). -/
  | trickleStart (l : Fin 512)
  /-- A trickle test is judged at 1,875 ns and gives PASS, OPEN or SHORT, or is not judged (R143). -/
  | trickleJudge (l : Fin 512) (mv : Nat) (guard : Bool)
  /-- A lit edge or takeover falls due, or the shunt stops steering, and the test ends ABORTED (R500). -/
  | trickleAbort (l : Fin 512)
  /-- A whole trickle interval passes without cover, and PROVE_STARVED is reported (R152). -/
  | proveStarved (l : Fin 512)
  /-- A retirement reported on the status bus takes its effects on spare, availability, rail and bitmap (R154). -/
  | retirementReport
  /-- A ramping string's present current reaches its effective target or zero, and the string enters STEADY or DISABLED (R69). -/
  | stringRampEnd (s : Fin 128)
  /-- Once per millisecond, the derating factor and effective target of each group are computed (R79). -/
  | deratingUpdate
  /-- Every 10 µs, the rail setpoint moves 50 mV towards its target (R61). -/
  | railSlewStep (g : Fin 8)
  /-- The rail has stayed within accuracy for 50 µs at its target, and WAIT_RAIL strings start their ramps (R61). -/
  | railTargetReached (g : Fin 8) (r : RailReading)
  /-- The rail stays below target × 0.95 − 100 mV for 20 µs (R63). -/
  | railUv (g : Fin 8) (mv : Nat)
  /-- The rail is above its overvoltage limit for 2 µs, and the drive is held low (R63). -/
  | railOv (g : Fin 8) (mv : Nat)
  /-- The rail falls below setpoint × 1.05, and the drive resumes from the measured rail (R499). -/
  | railOvEnd (g : Fin 8) (mv : Nat)
  /-- CS is at CSLIM in 64 consecutive periods, and the drive is held low for 10 ms (R63). -/
  | railOc (g : Fin 8)
  /-- The 10 ms hold ends, and the controller soft-restarts (R499). -/
  | railOcHoldEnd (g : Fin 8) (mv : Nat)
  /-- 64 consecutive periods after the soft restart pass without CS at CSLIM, and the cause of RAIL_OC ends (R499). -/
  | railOcEnd (g : Fin 8)
  /-- The NTC reading stays outside −50 to +150 °C for 10 ms, and the substitute temperature is used (R63). -/
  | ntcFault (g : Fin 8)
  /-- Write of WEIR_ACOMMIT that commits the masked arms, each taken or not by the ordered table (R179). -/
  | weirAcommit (v : Word)
  /-- Write of WEIR_ACFG whose AUTH takes effect in the CCLK of the write (R168). -/
  | weirAcfgWrite (a : Fin 8) (v : Word)
  /-- Write that copies one SMT entry coherently to WEIR_SNAP (R175). -/
  | weirSnapselWrite (v : Word)
  /-- Write of GO that writes WEIR_WRBUF to an SMT entry under the entry-write checks (R173). -/
  | weirWrselGo (v : Word)
  /-- Command that writes one SMT entry under the entry-write checks (R173). -/
  | weirSmtWrite (p : Packet)
  /-- Command that writes SMT entries from host memory in SM id order until the first refusal (R200). -/
  | weirSmtLoad (p : Packet)
  /-- Command that writes coherent SMT entry images to host memory (R175). -/
  | weirSmtRead (p : Packet)
  /-- Command that sets the pins of up to 11 submodules in one CCLK, all or nothing (R189). -/
  | weirPin (p : Packet)
  /-- Command that returns, and optionally clears, an arm's commit and change counters (R200). -/
  | weirArmStats (p : Packet)
  /-- An entry made valid, invalid or moved takes effect in the rank lists within 1,024 CCLK (R174). -/
  | smtRankMove (sm : Fin 4096)
  /-- An arm unit's parity or order checker finds an error, and the spare takes the role (R194). -/
  | auFault (u : Fin 9)
  /-- The substitute arm unit has rebuilt the rank list and is ready (R194). -/
  | auRebuildDone (u : Fin 9)
  /-- A write from an arm unit under an old epoch is discarded and counted (R195). -/
  | auRevenant (u : Fin 9)
  /-- Command that sets the chain role and position (R236). -/
  | tribSetRole (p : Packet)
  /-- Command that admits the members whose join requests the HEAD holds (R208). -/
  | tribForm (p : Packet)
  /-- Command that admits one member, incrementing the epoch (R208). -/
  | tribAdmit (p : Packet)
  /-- No join request arrives from the position within 1 ms, so the command completes with STATE (R236). -/
  | tribAdmitTimeout
  /-- Command that declares a member dead without misses (R230). -/
  | tribExpel (p : Packet)
  /-- Command that returns a linear chain to ring mode (R216). -/
  | tribRing (p : Packet)
  /-- Command that returns, and optionally clears, a port's frame counters (R236). -/
  | tribStats (p : Packet)
  /-- A port loses block lock or signal, and the chain reconfigures (R215). -/
  | tribPortDown (p : Fin 2) (los : Bool)
  /-- A port regains block lock and carries chain traffic once its neighbour is judged (R206). -/
  | tribPortUp (p : Fin 2)
  /-- A BREAK fault summary reaches the HEAD, which publishes the linear topology (R215). -/
  | fsumBreak (p : Fin 2) (f : TribFrame)
  /-- A reference forward frame arrives at a member, which snapshots its spanned arms (R222). -/
  | refFrame (p : Fin 2) (f : TribFrame)
  /-- A histogram frame passes a member, which adds its counts or forwards it unchanged (R222). -/
  | histFrame (p : Fin 2) (f : TribFrame)
  /-- A returned histogram reaches the HEAD, which merges the arm and sends the threshold reply (R224). -/
  | histReturn (p : Fin 2) (f : TribFrame)
  /-- A histogram has not returned by the merge deadline, and its branch is treated as stale (R223). -/
  | histMergeDeadline (a : Fin 8)
  /-- A threshold reply reaches a device, which decides its own part of the arm (R225). -/
  | thrFrame (p : Fin 2) (f : TribFrame)
  /-- Every TSYNC µs, the HEAD sends a time sync frame (R217). -/
  | timeSyncSend (sub : Fin 16)
  /-- A member receives a time sync frame, computes its offset and corrects its counter (R218). -/
  | timeSyncFrame (p : Fin 2) (f : TribFrame) (sub : Fin 16) (res : Nat)
  /-- A joined member receives no time sync frame for 100 µs (R218). -/
  | timeSyncTimeout
  /-- Once per millisecond, each port sends a peer-delay request (R219). -/
  | pdreqSend (p : Fin 2) (sub : Fin 16)
  /-- A peer-delay request is received and answered, and the neighbour's position is judged (R219). -/
  | pdreqFrame (p : Fin 2) (f : TribFrame) (sub : Fin 16) (res : Nat)
  /-- A peer-delay response is received and the link delay is computed (R219). -/
  | pdrespFrame (p : Fin 2) (f : TribFrame) (sub : Fin 16)
  /-- Each control cycle, or at once on a change, a member sends a fault summary (R210). -/
  | fsumSend (event : Bool)
  /-- The HEAD accepts a member's fault summary and resets its miss count (R230). -/
  | fsumFrame (p : Fin 2) (f : TribFrame)
  /-- The HEAD sends an epoch notice after an increment and every 1 ms (R228). -/
  | epnNoticeSend
  /-- A member accepts a newer epoch notice and adopts its epoch and topology (R229). -/
  | epnNoticeFrame (p : Fin 2) (f : TribFrame)
  /-- Every 100 µs, an unjoined member sends a join request (R207). -/
  | joinReqSend
  /-- The HEAD receives a join request, holds it, or declares a live sender dead (R230). -/
  | joinReqFrame (p : Fin 2) (f : TribFrame)
  /-- A control cycle ends without a fault summary from a live member, and a miss is counted (R230). -/
  | controlCycleEnd
  /-- A joined member accepts no current-epoch frame from the HEAD for 3 × CYC and enters LOST (R231). -/
  | memberContactTimeout
  /-- A received Tributary frame is checked and forwarded, dropped or stomped (R212). -/
  | tribFrameForward (p : Fin 2) (f : TribFrame)
  /-- Command that returns, and optionally clears, an engine's counters (R272). -/
  | fabEngineStats (p : Packet)
  /-- Command that returns, and optionally clears, a producer's counters (R272). -/
  | fabProducerStats (p : Packet)
  /-- Write that copies one matching store entry coherently to FAB_MSSNAP (R245). -/
  | fabMsselWrite (v : Word)
  /-- An idle engine takes the head of the lowest non-empty ready list (R244). -/
  | taskDispatch
  /-- A task completes, writing any completion and releasing its queue (R243). -/
  | taskComplete (e : TaskEnd)
  /-- An engine's watchdog reaches 4 × budget, and the task has overrun (R249). -/
  | taskOverrun (e : Fin 18)
  /-- A RESTARTING engine returns to IN_SERVICE (R252). -/
  | engineRestartDone (e : Fin 18)
  /-- A DEAD engine is halted at its next bus access, or 1 ms after the declaration, and handed to Riffle (R251). -/
  | deadEngineHalt (e : Fin 18) (access : Bool)
  /-- A firmware timer expires and deposits its operand (R241). -/
  | timerExpiry (t : Fin 64) (template : Fin 256) (key : Nat) (op : SlotOperand)
  /-- A refused timer expiry is retried every 1 µs until it is accepted (R247). -/
  | timerRetry (t : Fin 64)
  /-- A list head has waited longer than LAGLIM (R244). -/
  | fabLag (l : Fin 8)
  /-- An SRAM read or scrub finds an ECC error, which is corrected or handled by region (R256). -/
  | sramEccError (off : Nat) (corrected : Bool) (read : SramRead)
  /-- Command that arms, disarms or flushes a recorder stream (R267). -/
  | recArm (p : Packet)
  /-- Command that triggers the masked streams, as a write of REC_TRIG (R266). -/
  | recTrigger (p : Packet)
  /-- Write of REC_TRIG that triggers the streams whose bits are set (R266). -/
  | recTrigWrite (v : Word)
  /-- Write of REC_CTL; EN = 0 disarms every stream and keeps the captures (R267). -/
  | recCtlWrite (v : Word)
  /-- Command that copies a capture or ring pages to host memory (R268). -/
  | recRead (p : Packet)
  /-- Command that returns a capture's pages to the free list (R268). -/
  | recRelease (p : Packet)
  /-- Command that writes a stream's capture list to host memory (R268). -/
  | recList (p : Packet)
  /-- A recorder page fills, is closed, and the next page is opened (R264). -/
  | recPageFull (s : Fin 16)
  /-- POST pages are closed after the trigger page, the capture ends, and the stream re-arms or holds (R265). -/
  | captureEnd (s : Fin 16)
  /-- After drops, a GAP record is written at the next point at which the stream can write (R262). -/
  | recDrop (s : Fin 16)
  /-- Command that commits the sequences of the masked converters (R347). -/
  | msrCommit (p : Packet)
  /-- Write of COMMIT that starts a sequence commit of one converter (R347). -/
  | msrCvctlCommit (ad : Fin 4) (v : Word)
  /-- Write of START that makes one SINGLE pass (R345). -/
  | msrCvctlStart (ad : Fin 4) (v : Word)
  /-- Write of RUN that starts the sequence at entry 0, or aborts and stops it (R345). -/
  | msrCvctlRun (ad : Fin 4) (v : Word)
  /-- Command that queues an urgent measurement request (R353). -/
  | msrUrgent (p : Packet)
  /-- Write of GO that queues an urgent request (R352). -/
  | msrUrgaGo (ad : Fin 4) (v : Word)
  /-- Write that clears one accumulator set, or all sets of a converter (R354). -/
  | msrAclrWrite (v : Word)
  /-- Command that measures the zero of a pair and holds the offset pending (R357). -/
  | msrCalZero (p : Packet)
  /-- Command that measures the span and stores OFF and GAIN_CAL (R357). -/
  | msrCalSpan (p : Packet)
  /-- Command that removes stored calibration pairs (R358). -/
  | msrCalClear (p : Packet)
  /-- Command that returns, and optionally clears, a converter's counters (R363). -/
  | msrStats (p : Packet)
  /-- A conversion completes, and its sample feeds the decimator or is offered to a set (R345). -/
  | conversionDone (ad : Fin 4) (u : BitVec 16) (clipped : Bool)
  /-- No Vf capture occurs within VFTO, so the sample is invalid and the run ends (R344). -/
  | vfCaptureTimeout (ad : Fin 4)
  /-- 250 µs after the previous round's start, a house round falls due (R349). -/
  | houseRoundDue (die : Fin 2)
  /-- At the first entry boundary or urgent end after it falls due, the house round runs (R349). -/
  | houseRoundStart (die : Fin 2)
  /-- A house round completes and delivers temperatures and VCORE to their consumers (R349). -/
  | houseRoundDone (die : Fin 2) (codes : List (BitVec 16 × Bool))
  /-- No house round starts on AD1 or AD3 for 2 ms (R362). -/
  | msrHouseLate (die : Fin 2)
  /-- Every SUMPER ms, summary records of the sets are written and the sets are optionally cleared (R356). -/
  | msrSum
  /-- Command that returns field diagnostic words and optionally clears the latched copies (R334). -/
  | fioDiag (p : Packet)
  /-- Command that ends LATCHED_OFF for the masked outputs (R340). -/
  | fioOutRestore (p : Packet) (overloads : BitVec 16)
  /-- Command that returns, and optionally clears, the counters of a field channel (R340). -/
  | fioStats (p : Packet)
  /-- Write of a kick key that restarts the host-silence interval or counts a key error (R330). -/
  | fioKickWrite (v : Word)
  /-- Write of FIO_KCFG whose EN = 1 starts the first interval and whose EN = 0 ends HOST_SILENT (R330). -/
  | fioKcfgWrite (v : Word)
  /-- Write of an input filter configuration that acts at the input's next tick (R319). -/
  | fioFcfgWrite (n : Fin 32) (v : Word)
  /-- Write of the output commands, which take effect under rank 8 (R331). -/
  | fioOcmdWrite (v : Word)
  /-- Write of FIO_FLTCFG, not taken as a whole with FORCE = 1 outside MAINT (R338). -/
  | fioFltcfgWrite (v : Word)
  /-- At each filter clock tick, an input's counter and filtered state are updated (R317). -/
  | filterTick (clkB : Bool) (raw : BitVec 32)
  /-- An input's state stays 1 longer than MAXACT × 10 ms (R321). -/
  | stuck (k : Fin 32)
  /-- A chatter window ends, and CHATTER is judged to start or end (R322). -/
  | chatterWindowEnd (k : Fin 32)
  /-- An output in current limit for 1 ms, or over 165 °C, is switched off (R325). -/
  | overload (k : Fin 16)
  /-- Every 10 ms, an overloaded output retries (R325). -/
  | overloadRetry (k : Fin 16) (again : Bool)
  /-- The clamp current falls below 10 mA, or 20 ms pass, and a pending output switches on (R326). -/
  | demagEnd (k : Fin 16) (limit : Bool)
  /-- An off output's pin stays above half VFLD for 10 ms, giving SHORT_TO_SUPPLY or EXTERNAL_VOLTAGE (R327). -/
  | offstateVoltage (pin : OffPin)
  /-- An on output carries less than 5 mA for 10 ms (R328). -/
  | openLoad (k : Fin 16)
  /-- VFLD stays below 16.0 V for 10 µs (R329). -/
  | fldLow
  /-- VFLD stays above 16.5 V for 10 ms (R329). -/
  | fldLowEnd
  /-- VFLD stays below 11.0 V for 10 µs, and every output is switched off (R329). -/
  | fldUv
  /-- VFLD stays above 15.0 V for 10 ms, and outputs return or latch off (R329). -/
  | fldUvEnd
  /-- A kick interval ends without a valid kick, and outputs take their safe values (R330). -/
  | hostSilent
  /-- The readback of FLT_P or FLT_N differs from its drive for 10 µs, and both are released (R339). -/
  | fltPin (p n : Bool)
  /-- Command that clears a fault code, or all codes, in QUIET or LATCHED (R375). -/
  | fltClear (p : Packet) (pinsHealthy : Bool)
  /-- Command that writes coherent log entries from the SRAM log or the mirror (R393). -/
  | fltLogRead (p : Packet)
  /-- Command that arms a checker to receive inverted check bits (R391). -/
  | fltInject (p : Packet)
  /-- Command that returns, and optionally clears, a code's counters (R393). -/
  | fltCodeStats (p : Packet)
  /-- Write of FFCLR that clears the first-fault register (R386). -/
  | fltFfclr
  /-- Write of FLT_HOLD that holds or releases a device or arm husk (R380). -/
  | fltHoldWrite (v : Word)
  /-- The collector samples a detector assertion and logs it, reacts and signals (R364). -/
  | faultReport (wires : List (Nat × Nat))
  /-- The last cause of a code ends, and it goes to QUIET or LATCHED (R371). -/
  | faultCauseEnd (code inst : Nat)
  /-- A quiet period passes without assertion, and the code recovers to IDLE (R372). -/
  | quietExpiry (code : Nat)
  /-- Re-initialisation plus the guard time ends, and a reaction shadow closes (R390). -/
  | shadowClose (k : Nat)
  /-- Command that requests a Riffle slice of one block at the next slot (R414). -/
  | bistSliceNow (p : Packet)
  /-- Command that starts full BIST (R407). -/
  | bistFull (p : Packet)
  /-- Command that returns the Riffle status and block verdicts (R414). -/
  | bistResults (p : Packet)
  /-- Command that returns a nonce and the device serial (R412). -/
  | bistLcsChallenge (p : Packet)
  /-- Command that delivers one half of a signed token (R412). -/
  | bistLcsToken (p : Packet)
  /-- Command that changes the life-cycle state (R411). -/
  | bistLcsSet (p : Packet)
  /-- Within 1 ms of entry to RETIRED, an internal reset follows (R411). -/
  | lcsRetiredReset
  /-- A nonce expires 10 minutes after its challenge (R412). -/
  | nonceExpiry
  /-- The 60 s lockout after three AUTH_FAIL results ends (R412). -/
  | challengeLockoutEnd
  /-- Every PERIOD ms, the Riffle controller starts at most one slice (R396). -/
  | riffleSlot
  /-- Once PREPARE is done and the class allows it, the block's requests go to the stand-in (R398). -/
  | riffleHandover
  /-- TEST ends, and the MISR and pattern count are captured (R399). -/
  | riffleTestEnd (misr : BitVec 64) (count : BitVec 32)
  /-- After REINIT, requests go back to the block and the stand-in returns to spare (R398). -/
  | riffleReturn
  /-- At the first house round after RETURN, the slice's verdict is given (R400). -/
  | riffleVerdict
  /-- Within 1 ms of the reply, the device enters full BIST (R408). -/
  | fullBistStart
  /-- Full BIST ends with an internal reset that keeps its results (R409). -/
  | fullBistEnd (fails : List (Fin 512)) (aborted : Bool)
  /-- Command that starts a download and allocates staging pages (R444). -/
  | updBegin (p : Packet)
  /-- Command that delivers a package chunk or piece, stored when its CRC matches (R444). -/
  | updChunk (p : Packet)
  /-- Command that starts applying the deltas into the inactive slot (R445). -/
  | updApply (p : Packet)
  /-- The apply operation ends, and the slot is APPLIED or the failure is reported (R445). -/
  | updApplyDone (flashError : Bool)
  /-- Command that starts verification of the inactive slot (R446). -/
  | updVerify (p : Packet)
  /-- The verify operation ends, and the slot becomes VERIFIED or stays APPLIED (R446). -/
  | updVerifyDone
  /-- Command that writes a boot record naming the new slot on trial (R450). -/
  | updActivate (p : Packet) (flashError : Bool)
  /-- Command that confirms the trial image (R453). -/
  | updConfirm (p : Packet)
  /-- Command that abandons the update stage (R458). -/
  | updAbort (p : Packet)
  /-- Command that writes the settings into the other half of the running slot's settings (R455). -/
  | updSettingsSave (p : Packet)
  /-- Command that returns the settings of the running or the other slot (R461). -/
  | updSettingsRead (p : Packet)
  /-- Command that falls back to the PREVIOUS slot with cause HOST (R461). -/
  | updRevert (p : Packet)
  /-- One minute before a confirm window ends, source 39 is raised (R461). -/
  | confirmWindowWarning
  /-- The confirm window ends without a confirm, and the device falls back with cause WINDOW (R453). -/
  | confirmWindowEnd
  /-- Command that returns the device from SAVED to service (R429). -/
  | pwrWarmRestart (p : Packet) (hold30 : Bool) (lost : List (Nat × Nat)) (rails : List Nat)
  /-- Command that writes the keep record region to host memory (R437). -/
  | pwrKeepRead (p : Packet)
  /-- Command that returns, and optionally clears, the power counters (R437). -/
  | pwrStats (p : Packet)
  /-- Command that runs the sag sequence as for a real sag (R437). -/
  | pwrSaveTest (p : Packet) (vin hold : BitVec 16)
  /-- VIN crosses below VSAG, qualification starts, and HOLD_GATE turns on (R422). -/
  | vinSagCrossing
  /-- VIN rises above VSAG + 0.5 V within 10 µs, and the qualification is abandoned as a glitch (R422). -/
  | sagQualifyAbandon
  /-- The sag is qualified at t0, lamps are commanded BLOCK, READY falls and the save starts (R423). -/
  | vinSag (vin hold : BitVec 16)
  /-- At t0 + 5 µs, every string enters SAG_CUT and every rail drive is held low (R423). -/
  | sagCut
  /-- At t0 + 100 µs, unfinished packets are abandoned or cancelled with BUSY (R423). -/
  | sagPacketDeadline
  /-- The save completes and the device enters SAVED (R427). -/
  | saveComplete (hold : BitVec 16) (above back mirrorBad : Bool)
  /-- HOLD falls below 8.0 V with VIN low, and the device powers down into reset (R427). -/
  | holdEnd
  /-- VIN rises above VSAG + 0.5 V during SAVED, HOLD_GATE goes off and the boost recharges (R421). -/
  | vinReturnSaved
  /-- VIN has been above VSAG + 0.5 V for 10 ms, and the boost runs (R420). -/
  | vinok
  /-- HOLD crosses 33.0 V, and HOLDOK changes (R420). -/
  | holdokChange (ok : Bool)
  /-- HOLD stays below 30.0 V for 1 ms (R502). -/
  | holdLow
  /-- HOLD reaches 33.0 V, and HOLD_LOW ends (R502). -/
  | holdLowEnd
  /-- VIN exceeds 50 V, which is flagged and counted (R436). -/
  | vinhi
  /-- VAON falls below 4.2 V or first rises, and the device resets with cause POR (R428). -/
  | powerOnReset
  /-- RST_N held low for 1 µs or longer resets the device (R428). -/
  | rstN
  /-- A PG input stays low for 2 µs after sequencing, causing reset or PG_FAULT (R419). -/
  | pgLoss (k : Fin 5)
  /-- A die reaches 150 °C, and the analogue shutdown resets the device (R428). -/
  | thermalShutdown
  /-- 200 µs after PG{k − 1}, or 1 ms after POR, the next SEQ_EN is raised (R417). -/
  | seqEnableStep
  /-- A PG input is not high within 10 ms of its enable, and the enables are lowered (R417). -/
  | seqPgTimeout
  /-- After 100 ms, rail sequencing starts again at k = 0 (R417). -/
  | seqRetry
  /-- Reset is released, the straps are sampled and boot starts (R431). -/
  | resetRelease (chainId : Fin 8) (bootSel : Fin 4) (hostSel : Bool)
  /-- PLL-A has not locked 2 ms after reset release, and acquisition is retried (R28). -/
  | pllaLockRetry
  /-- PLL-A locks, the clocks start and the device time counter starts from 0 (R34). -/
  | pllaLock
  /-- Boot completes, READY goes high and the service state becomes RUN (R432). -/
  | runReady (o : BootObs)
  /-- The watch sees CCLK or REFCLK missing, or PLL-A out of lock, and asserts the husk line (R30). -/
  | clkLoss (ref : Bool)
  /-- A 128 µs watch window ends, and the CCLK deviation is judged (R29). -/
  | clkWindowEnd (edges : Nat)
  /-- PLL-B goes out of lock (R29). -/
  | dramClk
  /-- Clocks return after CLK_LOSS, PLL-A re-locks and the time counter restarts under the device husk (R32). -/
  | pllaRelock
  /-- After 1 µs of husk-aspect drive following re-lock, the watch releases the husk line (R33). -/
  | huskLineRelease (rails : List Nat)
  /-- A die-link parity or shunt readback mismatch is reported, and after three control-bus errors the lamp die applies its husk values
  (R22). -/
  | dieLinkError (die : Fin 2) (e : LinkError)
  /-- Every 10 µs during DIE_LINK, a resynchronisation word is sent and may release the die's husk (R33). -/
  | dieResyncWord (die : Fin 2) (good : Nat) (rails : List Nat)
  /-- The device fetches a command packet from a submission queue and deposits it (R291). -/
  | sqFetch
  /-- A completion is written at the CQ tail once there is room (R292). -/
  | cqCompletionWrite (q : Fin 32)
  /-- The oldest unsignalled completion reaches CTIME µs, and the queue source is raised (R295). -/
  | interruptCoalesceTimeout (q : Fin 32)
  /-- Write of an SQ tail doorbell (R291). -/
  | hostSqtdbWrite (q : Fin 32) (v : Word)
  /-- Write of a CQ head doorbell that frees CQ entries (R292). -/
  | hostCqhdbWrite (q : Fin 32) (v : Word)
  /-- Write of EN = 1 that brings a queue pair into use (R290). -/
  | hostQctlEnable (q : Fin 32) (v : Word)
  /-- Write of EN = 0 that stops fetching and cancels fetched packets (R293). -/
  | hostQctlDisable (q : Fin 32) (v : Word)
  /-- A PCIe hot reset or link down resets the endpoint and its queue state (R289). -/
  | hostLink (how : LinkLoss)
  /-- A DMA error on a queue stops the queue, or at PTR ends the command (R296). -/
  | hostDma (x : DmaFailure)
  /-- A UART frame is received, checked, and its command packet queued (R311). -/
  | uartFrame (line : List Byte)
  /-- A console line ending in CR is answered in text (R312). -/
  | consoleLine (line : List Byte)
  /-- No FP_CLK edge is seen for 10 µs after FP_CLK has been seen (R314). -/
  | hostFpclk
  /-- A boundary-scan instruction is selected, and EXTEST, CLAMP or HIGHZ may husk the device (R313). -/
  | tapInstruction (x : TapScan)
  /-- A read of GEN_TIME_LO returns the low word and latches the high word (R35). -/
  | genTimeLoRead
  /-- A read of GEN_TIME_HI returns the shadow, or the live word with TORN set (R35). -/
  | genTimeHiRead
  /-- A read of the low word of a 64-bit pair latches its high word (R282). -/
  | pairLowRead (port : Port) (off : Nat)
  /-- A read of the high word returns the shadow, or the live word with TORN set (R282). -/
  | pairHighRead (port : Port) (off : Nat)
  /-- A read of SUM_LO latches the set's shadows together (R283). -/
  | accSumLoRead (port : Port) (ad : Fin 4) (k : Fin 128)
  /-- Write of a register that has no row of its own, by its access codes (R12). -/
  | registerWrite (space : Space) (off : Nat) (data : List Word) (full : Bool)
  /-- During a ramp, or in STEADY after a derating change, the string's present current moves by one 62.5 µA LSB, and its lamps may become
  lit or dark as it crosses 2.0 mA (R70). -/
  | presentCurrentStep (s : Fin 128)
  /-- An escalation window of ESCW seconds runs out, and its recovery count ends with it (R373). -/
  | escalationWindowEnd (code : Nat)
  /-- An OPEN_LOAD output carries 5 mA or more for 10 ms, and the condition ends (R328). -/
  | openLoadEnd (k : Fin 16)
  /-- An off output's pin stays below 50 % of VFLD for 10 ms, and SHORT_TO_SUPPLY or EXTERNAL_VOLTAGE ends (R327). -/
  | offstateVoltageEnd (k : Fin 16)
  /-- After a thermal shutdown, every die falls below 130 °C, and the rail sequence runs again (R428). -/
  | thermalShutdownEnd
  /-- PCIe link training completes, whether after reset or after PE_PERST_N or a link loss, and the endpoint's link is up (R273). -/
  | pcieLinkUp (speed width : Fin 4)
  /-- The host sets Bus Master Enable, and completions held while it was 0 are written and packet fetching resumes (R289). -/
  | busMasterEnable
  /-- The 1 ms of TRIB_FORM runs out, and the command completes with the positions admitted (R236). -/
  | tribFormDone
  /-- The Tributary transmit PLL goes out of lock, and TRIB_LINK is reported within 1 µs (R29). -/
  | tribPllLoss
  /-- The PCIe reference synthesiser goes out of lock, and HOST_LINK is reported within 1 µs (R29). -/
  | pcieRefclkLoss
  deriving DecidableEq, Repr

end Sys2Proof
end

