-- ==== Sys2Proof/Decode.lean ====
section
/-! DEFINITION. The decoder of table words. The rows of this block's table give no bits: its commands are packets, register accesses and
events, not words of an instruction memory. -/

namespace Sys2Proof

/-- The command that a word spells by the bits of the table: no row gives bits. -/
def decodeTableWord (_nbits _w : Nat) : Option Instr := none

end Sys2Proof
end

