-- ==== Sys2Proof/Config.lean ====
section
/-! DEFINITION. The free values: what the spec leaves open after an effect it does give. Nothing in Lean can evaluate
them or prove a value of them. -/

namespace Sys2Proof.Config

/-- A fresh free number for each value of the state's counter. -/
opaque freeNat : Nat → Nat

/-- A fresh free word for each value of the state's counter. -/
opaque freeWord : Nat → BitVec 32

/-- The measured delay beyond 10 ns, in 1/256 ns, of the link between chain positions l and l + 1 where this device measures no
delay of that link itself (R232: the spec does not say how the HEAD learns it). -/
opaque linkExcess : Nat → Nat

/-- The NTC temperature in 1/4 °C that a ratio (in 1/32,768 of NTC_REF) and a β value give where the β formula gives none: a ratio of 0
or less, or so small that the formula diverges (R80 states no result there). -/
opaque ntcBeyond : Int → Nat → Int

/-- Whether the NTC temperature of a ratio and a β value is rounded up to the next 0.25 °C rather than down (R79, R80 state no rounding). -/
opaque ntcRoundsUp : Int → Nat → Bool

/-- How many operand slots beyond the first the template of an update step needs (R240, R242 give no NEED): the slots from 0 on. -/
opaque stepSlots : Nat

/-- The golden MISR value that OTP holds for a block class (R399). -/
opaque goldenMisr : Nat → Nat

/-- The golden pattern count that OTP holds for a block class (R399). -/
opaque goldenCount : Nat → Nat

/-- The text that the console answers (R312: its output format is informative and may change between firmware versions). -/
opaque consoleText : List (BitVec 8) → List (BitVec 32) → List (BitVec 8)

/-- What DRAM holds at an address where the spec fixes no content (R260, R264, R268). -/
opaque dramByte : Nat → BitVec 8

/-- The Seed ROM's own version, fixed for each stepping (R306). -/
opaque seedVersion : Nat → BitVec 32

/-- SHA-256 (R439, R446): the spec names the function by its standard. -/
opaque sha256 : List (BitVec 8) → List (BitVec 8)

/-- ECDSA P-256 verification (R412, R439): a key of OTP, the digest signed, r and s. -/
opaque ecdsaVerify : Nat → List (BitVec 8) → List (BitVec 8) → List (BitVec 8) → Bool

/-- The conversion of a settings record under a SCHEMA part (R456): schema bytes, the old settings version, the tag and the words;
none where the record fails conversion. The spec gives the SCHEMA part no content. -/
opaque migrateRecord : List (BitVec 8) → Nat → Nat → List (BitVec 32) → Option (List (BitVec 32))

/-- The lamp trim words (LMP_LTRIM.DLY by lamp) of a TRIM part, none where the part is not valid (R53: the spec does not give the part's
layout). -/
opaque trimWords : List (BitVec 8) → Option (List (BitVec 32))

/-- The size of a flash device in bytes, a property of the board (R438: 16 to 128 MB); a use limits it to that range. -/
opaque flashSize : Nat → Nat

/-- A byte of the keep record's body that a save cut short, or a failed CRC, leaves unknown (R425): by draw and offset. -/
opaque tornKeep : Nat → Nat → Byte

end Sys2Proof.Config
end

