-- ==== Sys2Proof/Machine/Codes.lean ====
section
/-! DEFINITION. The fault codes with their default severity, class, kind and scope (R367, R368, R369), the status codes of
replies (R302), the detail codes, and the opcodes with the service states that accept them (R304, R476). -/

namespace Sys2Proof.Machine

/-- What INSTANCE of a code names, and so which reactions the code may take (R368, R376). -/
inductive Scope where
  | device | die | group | string | lamp | submodule | arm | other
  deriving DecidableEq, Repr

/-- One row of the fault code table (R369). `condition`: the cause is present while the detector asserts; `lasting`: an
event code whose rule names a lasting cause. -/
structure CodeRow where
  code : Nat
  sev : Nat
  device : Bool
  condition : Bool
  lasting : Bool
  scope : Scope
  deriving DecidableEq, Repr

namespace Code
def clkLoss : Nat := 0x0001
def clkDrift : Nat := 0x0002
def dramClk : Nat := 0x0003
def dieLink : Nat := 0x0004
def timeUnaligned : Nat := 0x0005
def timeRestart : Nat := 0x0006
def timeStep : Nat := 0x0007
def vinSag : Nat := 0x1001
def holdLow : Nat := 0x1002
def pgFault : Nat := 0x1003
def dieOtWarn : Nat := 0x1004
def dieOt : Nat := 0x1005
def hostLink : Nat := 0x2001
def hostDma : Nat := 0x2002
def hostFpclk : Nat := 0x2003
def fltMirror : Nat := 0x3001
def fltInject : Nat := 0x3002
def railUv : Nat := 0x4001
def railOv : Nat := 0x4002
def railOc : Nat := 0x4003
def ntcFault : Nat := 0x4004
def compliance : Nat := 0x4005
def lampOpen : Nat := 0x6001
def lampShort : Nat := 0x6002
def lampVfHigh : Nat := 0x6003
def stuckLit : Nat := 0x6004
def stuckLitNone : Nat := 0x6005
def spareFail : Nat := 0x6006
def proveStarved : Nat := 0x6007
def laneEcho : Nat := 0x6008
def lampRevenant : Nat := 0x6009
def auFault : Nat := 0x7001
def auNospare : Nat := 0x7002
def auRevenant : Nat := 0x7003
def armShortfall : Nat := 0x7004
def smStale : Nat := 0x7005
def smGate : Nat := 0x7006
def tribLink : Nat := 0x8001
def tribWiring : Nat := 0x8002
def tribCrc : Nat := 0x8003
def chainLinear : Nat := 0x8004
def memberStale : Nat := 0x8005
def memberDead : Nat := 0x8006
def memberRevenant : Nat := 0x8007
def chainLost : Nat := 0x8008
def engineDead : Nat := 0x9001
def engineNospare : Nat := 0x9002
def engineRevenant : Nat := 0x9003
def taskAbandon : Nat := 0x9004
def fabLag : Nat := 0x9005
def fabRefuseFlt : Nat := 0x9006
def sramUeTables : Nat := 0x9010
def sramUeEngine : Nat := 0x9011
def sramUeRec : Nat := 0x9012
def sramUeOther : Nat := 0x9013
def dramFail : Nat := 0x9020
def allocEmpty : Nat := 0x9021
def msrHouseLate : Nat := 0xA001
def msrCalLost : Nat := 0xA002
def fioFault : Nat := 0xB001
def fltPin : Nat := 0xB002
def riffleFail : Nat := 0xC001
def riffleIncomplete : Nat := 0xC002
def riffleVoid : Nat := 0xC003
def updFallback : Nat := 0xD001
def updSlotDirty : Nat := 0xD002
def recDrop : Nat := 0xE001
end Code

/-- The fault code table (R369): code, default severity, device class, condition kind, lasting cause, scope. -/
def codeTable : List CodeRow := [
  ⟨0x0001, 4, true, true, false, .device⟩, ⟨0x0002, 2, false, false, false, .device⟩,
  ⟨0x0003, 2, false, true, false, .device⟩, ⟨0x0004, 2, true, false, true, .die⟩,
  ⟨0x0005, 1, false, true, false, .device⟩, ⟨0x0006, 0, false, false, false, .device⟩,
  ⟨0x0007, 0, false, false, false, .device⟩, ⟨0x1001, 4, true, false, true, .device⟩,
  ⟨0x1002, 2, false, true, false, .device⟩, ⟨0x1003, 4, true, true, false, .device⟩,
  ⟨0x1004, 1, false, true, false, .die⟩, ⟨0x1005, 4, true, true, false, .die⟩,
  ⟨0x2001, 1, false, false, false, .device⟩, ⟨0x2002, 2, false, false, false, .other⟩,
  ⟨0x2003, 1, false, true, false, .device⟩, ⟨0x3001, 1, false, false, false, .device⟩,
  ⟨0x3002, 0, false, true, false, .other⟩, ⟨0x4001, 2, false, true, false, .group⟩,
  ⟨0x4002, 2, false, true, false, .group⟩, ⟨0x4003, 2, false, true, false, .group⟩,
  ⟨0x4004, 1, false, true, false, .group⟩, ⟨0x4005, 2, false, false, false, .string⟩,
  ⟨0x6001, 2, false, false, false, .lamp⟩, ⟨0x6002, 2, false, false, false, .lamp⟩,
  ⟨0x6003, 1, false, false, false, .lamp⟩, ⟨0x6004, 3, true, false, true, .submodule⟩,
  ⟨0x6005, 2, true, false, true, .string⟩, ⟨0x6006, 1, false, false, false, .lamp⟩,
  ⟨0x6007, 1, false, false, false, .lamp⟩, ⟨0x6008, 2, false, false, false, .submodule⟩,
  ⟨0x6009, 0, false, false, false, .lamp⟩, ⟨0x7001, 2, true, false, false, .arm⟩,
  ⟨0x7002, 3, true, false, true, .arm⟩, ⟨0x7003, 0, false, false, false, .arm⟩,
  ⟨0x7004, 1, false, false, false, .arm⟩, ⟨0x7005, 1, false, false, false, .submodule⟩,
  ⟨0x7006, 2, false, false, false, .submodule⟩, ⟨0x8001, 1, false, true, false, .other⟩,
  ⟨0x8002, 2, true, true, false, .other⟩, ⟨0x8003, 1, false, false, false, .other⟩,
  ⟨0x8004, 1, false, true, false, .device⟩, ⟨0x8005, 1, false, false, false, .other⟩,
  ⟨0x8006, 2, true, false, false, .other⟩, ⟨0x8007, 0, false, false, false, .other⟩,
  ⟨0x8008, 4, true, false, true, .device⟩, ⟨0x9001, 2, true, false, false, .other⟩] ++ [
  ⟨0x9002, 2, true, false, true, .other⟩, ⟨0x9003, 0, false, false, false, .other⟩,
  ⟨0x9004, 2, false, false, false, .other⟩, ⟨0x9005, 1, false, false, false, .other⟩,
  ⟨0x9006, 1, false, false, false, .device⟩, ⟨0x9010, 4, true, false, false, .other⟩,
  ⟨0x9011, 2, true, false, false, .other⟩, ⟨0x9012, 1, false, false, false, .other⟩,
  ⟨0x9013, 2, true, false, false, .other⟩, ⟨0x9020, 2, true, true, false, .device⟩,
  ⟨0x9021, 1, false, false, false, .other⟩, ⟨0xA001, 2, false, true, false, .other⟩,
  ⟨0xA002, 1, false, false, false, .device⟩, ⟨0xB001, 1, false, true, false, .device⟩,
  ⟨0xB002, 2, true, true, false, .device⟩, ⟨0xC001, 2, true, false, false, .other⟩,
  ⟨0xC002, 1, false, false, false, .other⟩, ⟨0xC003, 0, false, false, false, .other⟩,
  ⟨0xD001, 2, false, false, false, .device⟩, ⟨0xD002, 1, false, false, false, .other⟩,
  ⟨0xE001, 1, false, false, false, .other⟩]

/-- The row of a fault code, none for a code the ZT512 never issues (R367). -/
def codeRow (c : Nat) : Option CodeRow := codeTable.find? (fun r => r.code == c)

/-- The default reaction of a severity (R376). -/
def defaultReact (sev : Nat) : Nat := if sev ≤ 2 then 1 else if sev = 3 then 3 else 4

/-- Whether a main reaction is allowed for a scope (R376). -/
def reactAllowed (sc : Scope) (react : Nat) : Bool :=
  match react with
  | 0 | 1 | 4 => true
  | 2 => sc == .lamp || sc == .submodule
  | 3 => sc == .submodule || sc == .arm
  | _ => false

/-- The code of a code index c = 256·B + d (R367). -/
def codeOfIdx (c : Nat) : Nat := (c / 256) * 0x1000 + c % 256

/-- The code index c of a code, 256·B + d. -/
def idxOfCode (code : Nat) : Nat := (code / 0x1000) * 256 + code % 256

namespace Status
def ok : Nat := 0
def busy : Nat := 1
def queueFull : Nat := 2
def badOpcode : Nat := 3
def badParam : Nat := 4
def state : Nat := 5
def budget : Nat := 6
def causeActive : Nat := 7
def authFail : Nat := 8
def verifyFail : Nat := 9
def migrationFail : Nat := 0xA
def fenced : Nat := 0xB
def unprovable : Nat := 0xC
end Status

/-- How an opcode uses the header pointer (R298, R301): not at all, for the ZT512 to read host memory, to write it, to write
reply data longer than 20 bytes, or to read it when the packet gives one. -/
inductive PtrUse where
  | none | read | write | long | optRead
  deriving DecidableEq, Repr

/-- What R476 says of one opcode: accepted with base state RUN, with base state MAINT, in HUSK on top, in SAVED, in SEED. -/
structure Accept where
  run : Bool
  maint : Bool
  husk : Bool
  saved : Bool
  seed : Bool
  deriving DecidableEq, Repr

/-- One opcode: its code, its use of the pointer, where it is accepted, and the parameter bits that its table names, word by
word (R298: every other bit must be 0). -/
structure Op where
  code : Nat
  ptr : PtrUse
  acc : Accept
  named : List Nat
  deriving DecidableEq, Repr

/-- Accepted in RUN, MAINT and HUSK only. -/
def Accept.serving : Accept := ⟨true, true, true, false, false⟩
/-- Accepted in every state but SEED. -/
def Accept.alsoSaved : Accept := ⟨true, true, true, true, false⟩
/-- Accepted with the base state MAINT only. -/
def Accept.maintOnly : Accept := ⟨false, true, true, false, false⟩
/-- Accepted in every state but SAVED. -/
def Accept.alsoSeed : Accept := ⟨true, true, true, false, true⟩
/-- Accepted in every state. -/
def Accept.always : Accept := ⟨true, true, true, true, true⟩
/-- Accepted in SAVED only. -/
def Accept.savedOnly : Accept := ⟨false, false, false, true, false⟩

/-- A parameter word of which every bit is named. -/
def allBits : Nat := 0xFFFFFFFF

namespace Op
def genNop : Op := ⟨0x0101, .none, .always, []⟩
def genIdentify : Op := ⟨0x0102, .none, .always, []⟩
def genSetState : Op := ⟨0x0103, .none, .serving, [3]⟩
def genQueueStats : Op := ⟨0x0104, .none, .alsoSaved, [0x100FF]⟩
def genAbort : Op := ⟨0x0105, .none, .alsoSaved, [0xFFFF]⟩
def genVectorTest : Op := ⟨0x0106, .none, .alsoSaved, [0x3F]⟩
def lmpCommit : Op := ⟨0x0201, .none, .serving, []⟩
def lmpStringRestore : Op := ⟨0x0202, .none, .serving, [0xFFFF]⟩
def lmpEstimate : Op := ⟨0x0203, .none, .alsoSaved, []⟩
def aspCommit : Op := ⟨0x0301, .none, .serving, []⟩
def aspSet : Op := ⟨0x0302, .none, ⟨true, true, false, false, false⟩, (List.replicate 12 allBits)⟩
def aspLaneStats : Op := ⟨0x0303, .none, .alsoSaved, [0x301FF]⟩
def prvReadmit : Op := ⟨0x0401, .none, .serving, [0x1FF]⟩
def prvLampStats : Op := ⟨0x0402, .long, .alsoSaved, [0x101FF]⟩
def prvTrickleNow : Op := ⟨0x0403, .none, .serving, [0x1FF]⟩
def prvRetire : Op := ⟨0x0404, .none, .serving, [0x1FF]⟩
def weirSmtWrite : Op := ⟨0x0501, .none, .serving, [0xFFF, allBits, allBits, allBits, allBits]⟩
def weirSmtLoad : Op := ⟨0x0502, .read, .serving, [0x1FFF0FFF]⟩
def weirSmtRead : Op := ⟨0x0503, .write, .alsoSaved, [0x9FFF0FFF]⟩
def weirPin : Op := ⟨0x0504, .none, .serving, (List.replicate 12 allBits)⟩
def weirArmStats : Op := ⟨0x0505, .long, .alsoSaved, [0x10007]⟩
def tribSetRole : Op := ⟨0x0601, .none, .maintOnly, [0xF0F03]⟩
def tribForm : Op := ⟨0x0602, .none, .serving, [0xFE]⟩
def tribAdmit : Op := ⟨0x0603, .none, .serving, [7]⟩
def tribExpel : Op := ⟨0x0604, .none, .serving, [7]⟩
def tribRing : Op := ⟨0x0605, .none, .serving, []⟩
def tribStats : Op := ⟨0x0606, .long, .serving, [0x10001]⟩
def fabEngineStats : Op := ⟨0x0701, .none, .alsoSaved, [0x1001F]⟩
def recArm : Op := ⟨0x0703, .none, .serving, [0x30F]⟩
def recTrigger : Op := ⟨0x0704, .none, .serving, [0xFFFF]⟩
def recRead : Op := ⟨0x0705, .write, .alsoSaved, [0xFF0F, allBits, allBits]⟩
def recRelease : Op := ⟨0x0706, .none, .alsoSaved, [0xFF0F]⟩
def recList : Op := ⟨0x0707, .write, .alsoSaved, [0xF]⟩
def msrCommit : Op := ⟨0x0801, .none, .serving, [0xF]⟩
def msrUrgent : Op := ⟨0x0802, .none, .serving, [3, allBits, allBits]⟩
def msrCalZero : Op := ⟨0x0803, .none, .maintOnly, [0x30003, 0x3FF]⟩
def msrCalSpan : Op := ⟨0x0804, .none, .maintOnly, [0x30003, 0x3FF, allBits]⟩
def msrCalClear : Op := ⟨0x0805, .none, .maintOnly, [0x80030003, 0x3FF]⟩
def msrStats : Op := ⟨0x0806, .long, .alsoSaved, [0x10003]⟩
def fioDiag : Op := ⟨0x0901, .long, .alsoSaved, [0x10000]⟩
def fioOutRestore : Op := ⟨0x0902, .none, .serving, [0xFFFF]⟩
def fioStats : Op := ⟨0x0903, .none, .alsoSaved, [0x1003F]⟩
def fltClear : Op := ⟨0x0A01, .none, .serving, [0x1FFFF]⟩
def fltLogRead : Op := ⟨0x0A02, .write, .alsoSaved, [1, 0xFFFF, allBits]⟩
def fltInject : Op := ⟨0x0A03, .none, .maintOnly, [0xFF03FF, 0xFFFF]⟩
def fltCodeStats : Op := ⟨0x0A04, .long, .alsoSaved, [0x1FFFF]⟩
def bistSliceNow : Op := ⟨0x0B01, .none, .serving, [0x1FF]⟩
def bistFull : Op := ⟨0x0B02, .none, .maintOnly, [0xFFFF]⟩
def bistResults : Op := ⟨0x0B03, .long, .alsoSaved, [0x10000]⟩
def bistLcsChallenge : Op := ⟨0x0B04, .none, .serving, []⟩
def bistLcsToken : Op := ⟨0x0B05, .none, .serving, (1 :: List.replicate 8 allBits)⟩
def updBegin : Op := ⟨0x0C01, .none, .alsoSeed, [allBits, 1]⟩
def updChunk : Op := ⟨0x0C02, .optRead, .alsoSeed, ([0xFFFF, 0x1FFF, allBits, 0xFFF] ++ List.replicate 8 allBits)⟩
def updApply : Op := ⟨0x0C03, .none, .serving, []⟩
def updVerify : Op := ⟨0x0C04, .none, .alsoSeed, []⟩
def updActivate : Op := ⟨0x0C05, .none, .alsoSeed, []⟩
def updConfirm : Op := ⟨0x0C06, .none, .serving, []⟩
def updAbort : Op := ⟨0x0C07, .none, .alsoSeed, []⟩
def updSettingsSave : Op := ⟨0x0C08, .none, .serving, [1]⟩
def updSettingsRead : Op := ⟨0x0C09, .write, .serving, [1]⟩
def updRevert : Op := ⟨0x0C0A, .none, .serving, []⟩
def pwrWarmRestart : Op := ⟨0x0D01, .none, .savedOnly, []⟩
def pwrKeepRead : Op := ⟨0x0D02, .write, .alsoSaved, []⟩
def pwrStats : Op := ⟨0x0D03, .long, .alsoSaved, [0x10000]⟩
def pwrSaveTest : Op := ⟨0x0D04, .none, .maintOnly, [0xFFFF]⟩
/-- FAB_PRODUCER_STATS: only the reply for RETURN exceeds 20 bytes. -/
def fabProducerStats (ret : Bool) : Op := ⟨0x0702, if ret then .long else .none, .alsoSaved, [0x10007]⟩
/-- BIST_LCS_SET: with base state RUN only from SERVICE to FIELD (R476). -/
def bistLcsSet (serviceToField : Bool) : Op := ⟨0x0B06, .none, ⟨serviceToField, true, true, false, false⟩, [7]⟩
end Op

end Sys2Proof.Machine
end

