-- ==== Sys2Proof/Machine/RegMap.lean ====
section
/-! DEFINITION. The register map of BAR0 (R12, R13, R280): every register of the spec's register tables, its offset, its
fields with their access codes, the encodings its fields take (R16) and its reset value, and the Fast Port window. -/

namespace Sys2Proof.Machine

/-- The access codes of register fields (R12). -/
inductive Access where
  | rw | ro | w1c | w1s | wo
  deriving DecidableEq, Repr

/-- A field: lowest bit, width, access code, and the values it takes as inclusive ranges (none listed: every value). -/
structure Fld where
  lo : Nat
  len : Nat
  acc : Access
  ok : List (Nat × Nat)
  deriving DecidableEq, Repr

/-- A register, or a row of equal registers: offset of the first, distance, count, reset value, fields. -/
structure RegRow where
  base : Nat
  stride : Nat
  count : Nat
  reset : Nat
  fields : List Fld
  deriving DecidableEq, Repr

namespace Reg

/-- GEN_ID. -/
def genId : Nat := 0x00000
/-- GEN_CLKSTAT. -/
def genClkstat : Nat := 0x00020
/-- GEN_TIME_LO. -/
def genTimeLo : Nat := 0x00040
/-- GEN_TIME_HI. -/
def genTimeHi : Nat := 0x00044
/-- GEN_TSYNC. -/
def genTsync : Nat := 0x00048
/-- LMP_CTL. -/
def lmpCtl : Nat := 0x40000
/-- LMP_CFGCMT. -/
def lmpCfgcmt : Nat := 0x40004
/-- LMP_CFGSTAT. -/
def lmpCfgstat : Nat := 0x40008
/-- LMP_PEST. -/
def lmpPest : Nat := 0x4000C
/-- LMP_DRT. -/
def lmpDrt : Nat := 0x40010
/-- LMP_NTCCFG. -/
def lmpNtccfg : Nat := 0x40014
/-- LMP_SEN [i]. -/
def lmpSen (i : Nat) : Nat := 0x40020 + 4 * i
/-- LMP_SCUR [i]. -/
def lmpScur (i : Nat) : Nat := 0x40100 + 4 * i
/-- LMP_SPOS [i]. -/
def lmpSpos (i : Nat) : Nat := 0x40300 + 4 * i
/-- LMP_SSTAT [i]. -/
def lmpSstat (i : Nat) : Nat := 0x40500 + 4 * i
/-- LMP_GRAIL [i]. -/
def lmpGrail (i : Nat) : Nat := 0x40700 + 4 * i
/-- LMP_GSTAT [i]. -/
def lmpGstat (i : Nat) : Nat := 0x40720 + 4 * i
/-- LMP_GTEMP [i]. -/
def lmpGtemp (i : Nat) : Nat := 0x40740 + 4 * i
/-- LMP_LTRIM [i]. -/
def lmpLtrim (i : Nat) : Nat := 0x40800 + 4 * i
/-- ASP_CTL. -/
def aspCtl : Nat := 0x50000
/-- ASP_CFGCMT. -/
def aspCfgcmt : Nat := 0x50004
/-- ASP_CFGSTAT. -/
def aspCfgstat : Nat := 0x50008
/-- ASP_LCFG [i]. -/
def aspLcfg (i : Nat) : Nat := 0x50400 + 4 * i
/-- ASP_LPHASE [i]. -/
def aspLphase (i : Nat) : Nat := 0x50C00 + 4 * i
/-- ASP_LCMD [i]. -/
def aspLcmd (i : Nat) : Nat := 0x51400 + 4 * i
/-- ASP_LSTAT [i]. -/
def aspLstat (i : Nat) : Nat := 0x51C00 + 4 * i
/-- ASP_RCFG [i]. -/
def aspRcfg (i : Nat) : Nat := 0x52400 + 4 * i
/-- ASP_RSTAT [i]. -/
def aspRstat (i : Nat) : Nat := 0x52C00 + 4 * i
/-- PRV_CTL. -/
def prvCtl : Nat := 0x60000
/-- PRV_STAT. -/
def prvStat : Nat := 0x60004
/-- PRV_LFAULT [i]. -/
def prvLfault (i : Nat) : Nat := 0x60040 + 4 * i
/-- PRV_LCFG [i]. -/
def prvLcfg (i : Nat) : Nat := 0x60400 + 4 * i
/-- PRV_LWIN [i]. -/
def prvLwin (i : Nat) : Nat := 0x60C00 + 4 * i
/-- PRV_LSTAT [i]. -/
def prvLstat (i : Nat) : Nat := 0x61400 + 4 * i
/-- WEIR_ACOMMIT. -/
def weirAcommit : Nat := 0x70000
/-- WEIR_CSTAT. -/
def weirCstat : Nat := 0x70004
/-- WEIR_AREF0 [i]. -/
def weirAref0 (i : Nat) : Nat := 0x70100 + 8 * i
/-- WEIR_AREF1 [i]. -/
def weirAref1 (i : Nat) : Nat := 0x70104 + 8 * i
/-- WEIR_ACFG [i]. -/
def weirAcfg (i : Nat) : Nat := 0x70200 + 8 * i
/-- WEIR_ABAND [i]. -/
def weirAband (i : Nat) : Nat := 0x70204 + 8 * i
/-- WEIR_ASTAT [i]. -/
def weirAstat (i : Nat) : Nat := 0x70300 + 8 * i
/-- WEIR_ASTAT2 [i]. -/
def weirAstat2 (i : Nat) : Nat := 0x70304 + 8 * i
/-- WEIR_AUSTAT [i]. -/
def weirAustat (i : Nat) : Nat := 0x70400 + 4 * i
/-- WEIR_SNAPSEL. -/
def weirSnapsel : Nat := 0x70800
/-- WEIR_SNAP [i]. -/
def weirSnap (i : Nat) : Nat := 0x70840 + 4 * i
/-- WEIR_WRBUF [i]. -/
def weirWrbuf (i : Nat) : Nat := 0x70880 + 4 * i
/-- WEIR_WRSEL. -/
def weirWrsel : Nat := 0x70890
/-- WEIR_WRSTAT. -/
def weirWrstat : Nat := 0x70894
/-- TRIB_CFG. -/
def tribCfg : Nat := 0x80000
/-- TRIB_ROLE. -/
def tribRole : Nat := 0x80004
/-- TRIB_STAT. -/
def tribStat : Nat := 0x80008
/-- TRIB_LAT. -/
def tribLat : Nat := 0x8000C
/-- TRIB_PSTAT [i]. -/
def tribPstat (i : Nat) : Nat := 0x80020 + 4 * i
/-- TRIB_MSTAT [i]. -/
def tribMstat (i : Nat) : Nat := 0x80040 + 4 * i
/-- TRIB_ACFG [i]. -/
def tribAcfg (i : Nat) : Nat := 0x80100 + 4 * i
/-- TRIB_ASTAT [i]. -/
def tribAstat (i : Nat) : Nat := 0x80140 + 4 * i
/-- FAB_CTL. -/
def fabCtl : Nat := 0x90000
/-- FAB_STAT. -/
def fabStat : Nat := 0x90004
/-- FAB_CANCEL. -/
def fabCancel : Nat := 0x90008
/-- FAB_MSSEL. -/
def fabMssel : Nat := 0x9000C
/-- FAB_LIST [i]. -/
def fabList (i : Nat) : Nat := 0x90020 + 4 * i
/-- FAB_PCFG [i]. -/
def fabPcfg (i : Nat) : Nat := 0x90040 + 4 * i
/-- FAB_PSTAT [i]. -/
def fabPstat (i : Nat) : Nat := 0x90060 + 4 * i
/-- FAB_MSSNAP [i]. -/
def fabMssnap (i : Nat) : Nat := 0x90080 + 4 * i
/-- FAB_ESTAT [i]. -/
def fabEstat (i : Nat) : Nat := 0x90100 + 4 * i
/-- FAB_SRAM. -/
def fabSram : Nat := 0x90200
/-- FAB_DSTAT. -/
def fabDstat : Nat := 0x90300
/-- FAB_AQUOTA [i]. -/
def fabAquota (i : Nat) : Nat := 0x90310 + 4 * i
/-- FAB_AUSE [i]. -/
def fabAuse (i : Nat) : Nat := 0x90320 + 4 * i
/-- REC_CTL. -/
def recCtl : Nat := 0xE0000
/-- REC_STAT. -/
def recStat : Nat := 0xE0004
/-- REC_TRIG. -/
def recTrig : Nat := 0xE0008
/-- REC_SCFG [i]. -/
def recScfg (i : Nat) : Nat := 0xE0100 + 32 * i
/-- REC_SFLT [i]. -/
def recSflt (i : Nat) : Nat := 0xE0104 + 32 * i
/-- REC_SDEP [i]. -/
def recSdep (i : Nat) : Nat := 0xE0108 + 32 * i
/-- REC_STRG [i]. -/
def recStrg (i : Nat) : Nat := 0xE010C + 32 * i
/-- REC_SQUOTA [i]. -/
def recSquota (i : Nat) : Nat := 0xE0110 + 32 * i
/-- REC_SSTAT [i]. -/
def recSstat (i : Nat) : Nat := 0xE0114 + 32 * i
/-- REC_SDROP [i]. -/
def recSdrop (i : Nat) : Nat := 0xE0118 + 32 * i
/-- HOST_FPID. -/
def hostFpid : Nat := 0x20000
/-- HOST_FPSTAT. -/
def hostFpstat : Nat := 0x20004
/-- HOST_CTL. -/
def hostCtl : Nat := 0x20008
/-- HOST_STAT. -/
def hostStat : Nat := 0x2000C
/-- HOST_B2WIN. -/
def hostB2win : Nat := 0x20010
/-- HOST_IPEND0. -/
def hostIpend0 : Nat := 0x20020
/-- HOST_IPEND1. -/
def hostIpend1 : Nat := 0x20024
/-- HOST_SRCCFG [i]. -/
def hostSrccfg (i : Nat) : Nat := 0x20100 + 4 * i
/-- HOST_QSQBL [i]. -/
def hostQsqbl (i : Nat) : Nat := 0x21000 + 32 * i
/-- HOST_QSQBH [i]. -/
def hostQsqbh (i : Nat) : Nat := 0x21004 + 32 * i
/-- HOST_QCQBL [i]. -/
def hostQcqbl (i : Nat) : Nat := 0x21008 + 32 * i
/-- HOST_QCQBH [i]. -/
def hostQcqbh (i : Nat) : Nat := 0x2100C + 32 * i
/-- HOST_QCTL [i]. -/
def hostQctl (i : Nat) : Nat := 0x21010 + 32 * i
/-- HOST_QSTAT [i]. -/
def hostQstat (i : Nat) : Nat := 0x21014 + 32 * i
/-- HOST_SQTDB [i]. -/
def hostSqtdb (i : Nat) : Nat := 0x22000 + 8 * i
/-- HOST_CQHDB [i]. -/
def hostCqhdb (i : Nat) : Nat := 0x22004 + 8 * i
/-- FIO_CTL. -/
def fioCtl : Nat := 0xB0000
/-- FIO_STAT. -/
def fioStat : Nat := 0xB0004
/-- FIO_KICK. -/
def fioKick : Nat := 0xB0008
/-- FIO_KCFG. -/
def fioKcfg : Nat := 0xB000C
/-- FIO_IN. -/
def fioIn : Nat := 0xB0010
/-- FIO_OCMD. -/
def fioOcmd : Nat := 0xB0014
/-- FIO_OSTAT. -/
def fioOstat : Nat := 0xB0018
/-- FIO_FLTCFG. -/
def fioFltcfg : Nat := 0xB0020
/-- FIO_INIRQ. -/
def fioInirq : Nat := 0xB0024
/-- FIO_ONIRQ. -/
def fioOnirq : Nat := 0xB0028
/-- FIO_FCFG [i]. -/
def fioFcfg (i : Nat) : Nat := 0xB0100 + 4 * i
/-- FIO_MCFG [i]. -/
def fioMcfg (i : Nat) : Nat := 0xB0200 + 4 * i
/-- FIO_OCFG [i]. -/
def fioOcfg (i : Nat) : Nat := 0xB0300 + 4 * i
/-- MSR_CTL. -/
def msrCtl : Nat := 0xA0000
/-- MSR_ACLR. -/
def msrAclr : Nat := 0xA0008
/-- MSR_CALSTAT. -/
def msrCalstat : Nat := 0xA000C
/-- MSR_CVCTL [i]. -/
def msrCvctl (i : Nat) : Nat := 0xA0010 + 4 * i
/-- MSR_CVSTAT [i]. -/
def msrCvstat (i : Nat) : Nat := 0xA0020 + 4 * i
/-- MSR_CVRUN [i]. -/
def msrCvrun (i : Nat) : Nat := 0xA0030 + 4 * i
/-- MSR_URGA [i]. -/
def msrUrga (i : Nat) : Nat := 0xA0040 + 8 * i
/-- MSR_URGB [i]. -/
def msrUrgb (i : Nat) : Nat := 0xA0044 + 8 * i
/-- MSR_SEQA [i]. -/
def msrSeqa (i : Nat) : Nat := 0xA0100 + 8 * i
/-- MSR_SEQB [i]. -/
def msrSeqb (i : Nat) : Nat := 0xA0104 + 8 * i
/-- MSR_ENTCNT [i]. -/
def msrEntcnt (i : Nat) : Nat := 0xA0900 + 4 * i
/-- MSR_ACFG [i]. -/
def msrAcfg (i : Nat) : Nat := 0xA0D00 + 4 * i
/-- MSR_ASET [i]. -/
def msrAset (i : Nat) : Nat := 0xA4000 + 4 * i
/-- FLT_CTL. -/
def fltCtl : Nat := 0x30000
/-- FLT_SUM. -/
def fltSum : Nat := 0x30004
/-- FLT_LOGPTR. -/
def fltLogptr : Nat := 0x30008
/-- FLT_HOLD. -/
def fltHold : Nat := 0x3000C
/-- FLT_HUSK. -/
def fltHusk : Nat := 0x30018
/-- FLT_STAT. -/
def fltStat : Nat := 0x30010
/-- FLT_INJ. -/
def fltInj : Nat := 0x30014
/-- FLT_FIRST [i]. -/
def fltFirst (i : Nat) : Nat := 0x30040 + 4 * i
/-- FLT_NEWEST [i]. -/
def fltNewest (i : Nat) : Nat := 0x30060 + 4 * i
/-- FLT_ACTMAP [i]. -/
def fltActmap (i : Nat) : Nat := 0x30200 + 4 * i
/-- FLT_CCFG0 [i]. -/
def fltCcfg0 (i : Nat) : Nat := 0x31000 + 8 * i
/-- FLT_CCFG1 [i]. -/
def fltCcfg1 (i : Nat) : Nat := 0x31004 + 8 * i
/-- FLT_CSTAT [i]. -/
def fltCstat (i : Nat) : Nat := 0x39000 + 4 * i
/-- FLT_LOGWIN [i]. -/
def fltLogwin (i : Nat) : Nat := 0x3D000 + 4 * i
/-- GEN_LCS. -/
def genLcs : Nat := 0x00010
/-- BIST_CTL. -/
def bistCtl : Nat := 0xC0000
/-- BIST_STAT. -/
def bistStat : Nat := 0xC0004
/-- BIST_RSTAT. -/
def bistRstat : Nat := 0xC0008
/-- BIST_LSIG_LO. -/
def bistLsigLo : Nat := 0xC0010
/-- BIST_LSIG_HI. -/
def bistLsigHi : Nat := 0xC0014
/-- BIST_LCNT. -/
def bistLcnt : Nat := 0xC0018
/-- BIST_FRES. -/
def bistFres : Nat := 0xC0020
/-- BIST_BSTAT [i]. -/
def bistBstat (i : Nat) : Nat := 0xC0800 + 4 * i
/-- PWR_CTL. -/
def pwrCtl : Nat := 0x10000
/-- PWR_STAT. -/
def pwrStat : Nat := 0x10004
/-- PWR_SAGCNT. -/
def pwrSagcnt : Nat := 0x10008
/-- PWR_SAGT_LO. -/
def pwrSagtLo : Nat := 0x10010
/-- PWR_SAGT_HI. -/
def pwrSagtHi : Nat := 0x10014
/-- PWR_KEEPSTAT. -/
def pwrKeepstat : Nat := 0x10018
/-- PWR_RESET. -/
def pwrReset : Nat := 0x1001C
/-- PWR_SEQ. -/
def pwrSeq : Nat := 0x10020
/-- UPD_CTL. -/
def updCtl : Nat := 0xD0000
/-- UPD_STAT. -/
def updStat : Nat := 0xD0004
/-- UPD_PROG. -/
def updProg : Nat := 0xD0008
/-- UPD_PLEN. -/
def updPlen : Nat := 0xD000C
/-- UPD_SLOT [i]. -/
def updSlot (i : Nat) : Nat := 0xD0010 + 4 * i
/-- UPD_BOOT. -/
def updBoot : Nat := 0xD0018
/-- UPD_BSEQ. -/
def updBseq : Nat := 0xD001C
/-- UPD_TRIALT. -/
def updTrialt : Nat := 0xD0020
/-- UPD_SETSTAT. -/
def updSetstat : Nat := 0xD0024

end Reg

/-- The GEN registers, as the tables of their chapter give them. -/
def genRows : List RegRow := [
  ⟨0x00000, 4, 1, 0x4D000512, [⟨24, 8, .ro, []⟩, ⟨20, 4, .ro, []⟩, ⟨16, 4, .ro, []⟩, ⟨0, 16, .ro, []⟩]⟩,
  ⟨0x00020, 4, 1, 0x00000000, [⟨8, 8, .ro, []⟩, ⟨6, 1, .w1c, []⟩, ⟨5, 1, .w1c, []⟩, ⟨4, 1, .ro, []⟩, ⟨3, 1, .ro, []⟩, ⟨2, 1, .ro, []⟩, ⟨1, 1, .ro, []⟩, ⟨0, 1, .ro, []⟩]⟩,
  ⟨0x00040, 4, 1, 0x00000000, [⟨0, 32, .ro, []⟩]⟩,
  ⟨0x00044, 4, 1, 0x00000000, [⟨0, 32, .ro, []⟩]⟩,
  ⟨0x00048, 4, 1, 0x00000000, [⟨16, 16, .ro, []⟩, ⟨8, 8, .ro, []⟩, ⟨3, 1, .w1c, []⟩, ⟨2, 1, .w1c, []⟩, ⟨1, 1, .w1c, []⟩, ⟨0, 1, .ro, []⟩]⟩,
  ⟨0x00010, 4, 1, 0x00000000, [⟨24, 8, .ro, []⟩, ⟨16, 2, .ro, []⟩, ⟨8, 1, .ro, []⟩, ⟨0, 3, .ro, []⟩]⟩]

/-- The PWR registers, as the tables of their chapter give them. -/
def pwrRows : List RegRow := [
  ⟨0x10000, 4, 1, 0x00020000, [⟨17, 1, .rw, []⟩, ⟨0, 9, .rw, [(0, 355)]⟩]⟩,
  ⟨0x10004, 4, 1, 0xFFC00000, [⟨27, 5, .ro, []⟩, ⟨22, 5, .ro, []⟩, ⟨15, 1, .w1c, []⟩, ⟨14, 1, .ro, []⟩, ⟨13, 1, .ro, []⟩, ⟨12, 1, .ro, []⟩, ⟨11, 1, .ro, []⟩, ⟨10, 1, .ro, []⟩, ⟨9, 1, .ro, []⟩, ⟨0, 2, .ro, []⟩]⟩,
  ⟨0x10008, 4, 1, 0x00000000, [⟨16, 16, .ro, []⟩, ⟨0, 16, .ro, []⟩]⟩,
  ⟨0x10010, 4, 1, 0x00000000, [⟨0, 32, .ro, []⟩]⟩,
  ⟨0x10014, 4, 1, 0x00000000, [⟨0, 32, .ro, []⟩]⟩,
  ⟨0x10018, 4, 1, 0x00000000, [⟨16, 16, .ro, []⟩, ⟨3, 1, .ro, []⟩, ⟨2, 1, .ro, []⟩, ⟨1, 1, .ro, []⟩, ⟨0, 1, .ro, []⟩]⟩,
  ⟨0x1001C, 4, 1, 0x00000000, [⟨8, 3, .ro, []⟩, ⟨6, 1, .ro, []⟩, ⟨4, 2, .ro, []⟩, ⟨0, 3, .ro, []⟩]⟩,
  ⟨0x10020, 4, 1, 0x00000007, [⟨16, 16, .ro, []⟩, ⟨0, 3, .ro, []⟩]⟩]

/-- The HOST registers, as the tables of their chapter give them. -/
def hostRows : List RegRow := [
  ⟨0x20000, 4, 1, 0x5A540512, [⟨16, 16, .ro, []⟩, ⟨0, 16, .ro, []⟩]⟩,
  ⟨0x20004, 4, 1, 0x00000000, [⟨16, 16, .ro, []⟩, ⟨2, 1, .w1c, []⟩, ⟨1, 1, .w1c, []⟩, ⟨0, 1, .ro, []⟩]⟩,
  ⟨0x20008, 4, 1, 0x00000003, [⟨2, 1, .rw, []⟩, ⟨1, 1, .rw, []⟩, ⟨0, 1, .rw, []⟩]⟩,
  ⟨0x2000C, 4, 1, 0x00000000, [⟨16, 16, .ro, []⟩, ⟨8, 1, .ro, []⟩, ⟨7, 1, .w1c, []⟩, ⟨6, 1, .ro, []⟩, ⟨4, 2, .ro, []⟩, ⟨2, 2, .ro, []⟩, ⟨1, 1, .ro, []⟩, ⟨0, 1, .ro, []⟩]⟩,
  ⟨0x20010, 4, 1, 0x00000000, [⟨0, 3, .rw, []⟩]⟩,
  ⟨0x20020, 4, 1, 0x00000000, [⟨0, 32, .w1c, []⟩]⟩,
  ⟨0x20024, 4, 1, 0x00000000, [⟨0, 10, .w1c, []⟩]⟩,
  ⟨0x20100, 4, 42, 0x00001000, [⟨12, 1, .rw, []⟩, ⟨8, 4, .rw, []⟩, ⟨0, 6, .rw, []⟩]⟩,
  ⟨0x21000, 32, 32, 0x00000000, [⟨12, 20, .rw, []⟩]⟩,
  ⟨0x21004, 32, 32, 0x00000000, [⟨0, 32, .rw, []⟩]⟩,
  ⟨0x21008, 32, 32, 0x00000000, [⟨12, 20, .rw, []⟩]⟩,
  ⟨0x2100C, 32, 32, 0x00000000, [⟨0, 32, .rw, []⟩]⟩,
  ⟨0x21010, 32, 32, 0x00000000, [⟨24, 8, .rw, []⟩, ⟨16, 8, .rw, []⟩, ⟨5, 11, .rw, []⟩, ⟨0, 1, .rw, []⟩]⟩,
  ⟨0x21014, 32, 32, 0x00000022, [⟨22, 10, .ro, []⟩, ⟨12, 10, .ro, []⟩, ⟨5, 1, .ro, []⟩, ⟨4, 1, .ro, []⟩, ⟨3, 1, .ro, []⟩, ⟨2, 1, .w1c, []⟩, ⟨1, 1, .ro, []⟩, ⟨0, 1, .ro, []⟩]⟩,
  ⟨0x22000, 8, 32, 0x00000000, [⟨0, 10, .wo, []⟩]⟩,
  ⟨0x22004, 8, 32, 0x00000000, [⟨0, 10, .wo, []⟩]⟩]

/-- The FLT registers, as the tables of their chapter give them. -/
def fltRows : List RegRow := [
  ⟨0x30000, 4, 1, 0x0C800201, [⟨22, 10, .rw, [(0, 1000)]⟩, ⟨16, 1, .wo, []⟩, ⟨8, 3, .rw, [(0, 4), (7, 7)]⟩, ⟨0, 3, .rw, [(0, 4), (7, 7)]⟩]⟩,
  ⟨0x30004, 4, 1, 0x00000027, [⟨16, 16, .ro, []⟩, ⟨8, 8, .ro, []⟩, ⟨5, 1, .ro, []⟩, ⟨4, 1, .ro, []⟩, ⟨3, 1, .w1c, []⟩, ⟨0, 3, .ro, []⟩]⟩,
  ⟨0x30008, 4, 1, 0x01000000, [⟨31, 1, .ro, []⟩, ⟨24, 1, .ro, []⟩, ⟨16, 8, .ro, []⟩, ⟨0, 16, .ro, []⟩]⟩,
  ⟨0x3000C, 4, 1, 0x00000000, [⟨8, 1, .rw, []⟩, ⟨0, 8, .rw, []⟩]⟩,
  ⟨0x30018, 4, 1, 0x00000000, [⟨24, 8, .ro, []⟩, ⟨11, 1, .ro, []⟩, ⟨10, 1, .ro, []⟩, ⟨9, 1, .ro, []⟩, ⟨8, 1, .ro, []⟩]⟩,
  ⟨0x30010, 4, 1, 0x00000000, [⟨16, 16, .ro, []⟩, ⟨8, 8, .ro, []⟩, ⟨0, 8, .ro, []⟩]⟩,
  ⟨0x30014, 4, 1, 0x00000000, [⟨24, 8, .ro, []⟩, ⟨8, 8, .ro, []⟩, ⟨0, 1, .ro, []⟩]⟩,
  ⟨0x30040, 4, 8, 0x00000000, [⟨0, 32, .ro, []⟩]⟩,
  ⟨0x30060, 4, 8, 0x00000000, [⟨0, 32, .ro, []⟩]⟩,
  ⟨0x30200, 4, 128, 0x00000000, [⟨0, 32, .ro, []⟩]⟩,
  ⟨0x31000, 8, 3840, 0x00000000, [⟨12, 4, .rw, []⟩, ⟨10, 1, .rw, []⟩, ⟨9, 1, .rw, []⟩, ⟨8, 1, .rw, []⟩, ⟨4, 3, .rw, [(0, 4)]⟩, ⟨0, 3, .rw, [(0, 4)]⟩]⟩,
  ⟨0x31004, 8, 3840, 0x3C0A03E8, [⟨24, 8, .rw, [(1, 255)]⟩, ⟨16, 8, .rw, []⟩, ⟨0, 16, .rw, [(1, 60000)]⟩]⟩,
  ⟨0x39000, 4, 3840, 0x00000000, [⟨16, 16, .ro, []⟩, ⟨14, 1, .ro, []⟩, ⟨13, 1, .ro, []⟩, ⟨12, 1, .ro, []⟩, ⟨4, 8, .ro, []⟩, ⟨3, 1, .ro, []⟩, ⟨2, 1, .ro, []⟩, ⟨0, 2, .ro, []⟩]⟩,
  ⟨0x3D000, 4, 2048, 0x00000000, [⟨0, 32, .ro, []⟩]⟩]

/-- The LMP registers, as the tables of their chapter give them. -/
def lmpRows : List RegRow := [
  ⟨0x40000, 4, 1, 0x0000012C, [⟨16, 1, .rw, []⟩, ⟨0, 9, .rw, []⟩]⟩,
  ⟨0x40004, 4, 1, 0x00000000, [⟨0, 1, .w1s, []⟩]⟩,
  ⟨0x40008, 4, 1, 0x00000000, [⟨31, 1, .ro, []⟩, ⟨25, 6, .ro, []⟩, ⟨16, 9, .ro, []⟩, ⟨8, 8, .ro, []⟩, ⟨0, 8, .ro, []⟩]⟩,
  ⟨0x4000C, 4, 1, 0x00000000, [⟨16, 16, .ro, []⟩, ⟨0, 16, .ro, []⟩]⟩,
  ⟨0x40010, 4, 1, 0x64280855, [⟨24, 8, .rw, [(0, 150)]⟩, ⟨16, 7, .rw, [(0, 100)]⟩, ⟨8, 6, .rw, []⟩, ⟨0, 8, .rw, [(0, 150)]⟩]⟩,
  ⟨0x40014, 4, 1, 0x00FF0D6B, [⟨16, 8, .rw, []⟩, ⟨0, 13, .rw, [(2500, 5000)]⟩]⟩,
  ⟨0x40020, 4, 4, 0x00000000, [⟨0, 32, .rw, []⟩]⟩,
  ⟨0x40100, 4, 128, 0x00000000, [⟨16, 8, .rw, []⟩, ⟨0, 10, .rw, []⟩]⟩,
  ⟨0x40300, 4, 128, 0x00000055, [⟨6, 2, .rw, []⟩, ⟨4, 2, .rw, []⟩, ⟨2, 2, .rw, []⟩, ⟨0, 2, .rw, []⟩]⟩,
  ⟨0x40500, 4, 128, 0x00000000, [⟨24, 4, .ro, []⟩, ⟨20, 4, .ro, []⟩, ⟨17, 1, .ro, []⟩, ⟨16, 1, .ro, []⟩, ⟨15, 1, .ro, []⟩, ⟨12, 3, .ro, []⟩, ⟨0, 10, .ro, []⟩]⟩,
  ⟨0x40700, 4, 8, 0xA1180000, [⟨28, 4, .rw, []⟩, ⟨24, 2, .rw, []⟩, ⟨16, 6, .rw, []⟩, ⟨15, 1, .rw, []⟩, ⟨0, 9, .rw, []⟩]⟩,
  ⟨0x40720, 4, 8, 0xC8000000, [⟨25, 7, .ro, []⟩, ⟨16, 9, .ro, []⟩, ⟨14, 1, .ro, []⟩, ⟨13, 1, .ro, []⟩, ⟨12, 1, .ro, []⟩, ⟨11, 1, .ro, []⟩, ⟨10, 1, .ro, []⟩, ⟨9, 1, .ro, []⟩, ⟨0, 9, .ro, []⟩]⟩,
  ⟨0x40740, 4, 8, 0x00000000, [⟨16, 12, .ro, []⟩, ⟨0, 12, .ro, []⟩]⟩,
  ⟨0x40800, 4, 512, 0x00000000, [⟨6, 1, .ro, []⟩, ⟨0, 6, .ro, []⟩]⟩]

/-- The ASP registers, as the tables of their chapter give them. -/
def aspRows : List RegRow := [
  ⟨0x50000, 4, 1, 0x00000014, [⟨0, 8, .rw, []⟩]⟩,
  ⟨0x50004, 4, 1, 0x00000000, [⟨0, 1, .w1s, []⟩]⟩,
  ⟨0x50008, 4, 1, 0x00000000, [⟨16, 9, .ro, []⟩, ⟨8, 8, .ro, []⟩, ⟨0, 8, .ro, []⟩]⟩,
  ⟨0x50400, 4, 512, 0x00005000, [⟨16, 16, .rw, []⟩, ⟨15, 1, .rw, []⟩, ⟨13, 2, .rw, []⟩, ⟨8, 5, .rw, []⟩, ⟨4, 4, .rw, []⟩, ⟨3, 1, .rw, []⟩, ⟨1, 2, .rw, []⟩, ⟨0, 1, .rw, []⟩]⟩,
  ⟨0x50C00, 4, 512, 0x00000000, [⟨0, 16, .rw, []⟩]⟩,
  ⟨0x51400, 4, 512, 0x00020000, [⟨31, 1, .wo, []⟩, ⟨16, 2, .rw, []⟩, ⟨0, 16, .rw, []⟩]⟩,
  ⟨0x51C00, 4, 512, 0x00000000, [⟨30, 2, .ro, []⟩, ⟨29, 1, .ro, []⟩, ⟨28, 1, .ro, []⟩, ⟨24, 4, .ro, []⟩, ⟨23, 1, .ro, []⟩, ⟨22, 1, .ro, []⟩, ⟨21, 1, .ro, []⟩, ⟨20, 1, .w1c, []⟩, ⟨0, 17, .ro, []⟩]⟩,
  ⟨0x52400, 4, 512, 0x00000004, [⟨1, 2, .rw, [(0, 2)]⟩, ⟨0, 1, .rw, []⟩]⟩,
  ⟨0x52C00, 4, 512, 0x00000000, [⟨24, 8, .ro, []⟩, ⟨16, 8, .ro, []⟩, ⟨8, 8, .ro, []⟩, ⟨3, 1, .w1c, []⟩, ⟨2, 1, .w1c, []⟩, ⟨1, 1, .ro, []⟩, ⟨0, 1, .ro, []⟩]⟩]

/-- The PRV registers, as the tables of their chapter give them. -/
def prvRows : List RegRow := [
  ⟨0x60000, 4, 1, 0x04204010, [⟨24, 8, .rw, []⟩, ⟨20, 4, .rw, [(1, 15)]⟩, ⟨12, 7, .rw, [(1, 64)]⟩, ⟨0, 8, .rw, [(8, 255)]⟩]⟩,
  ⟨0x60004, 4, 1, 0x00000000, [⟨16, 10, .ro, []⟩, ⟨0, 10, .ro, []⟩]⟩,
  ⟨0x60040, 4, 16, 0x00000000, [⟨0, 32, .ro, []⟩]⟩,
  ⟨0x60400, 4, 512, 0x00000002, [⟨1, 1, .rw, []⟩, ⟨0, 1, .rw, []⟩]⟩,
  ⟨0x60C00, 4, 512, 0x00060A28, [⟨16, 7, .rw, []⟩, ⟨8, 7, .rw, []⟩, ⟨0, 7, .rw, []⟩]⟩,
  ⟨0x61400, 4, 512, 0x00000000, [⟨16, 16, .ro, []⟩, ⟨12, 3, .ro, []⟩, ⟨11, 1, .w1c, []⟩, ⟨10, 1, .w1c, []⟩, ⟨9, 1, .w1c, []⟩, ⟨8, 1, .w1c, []⟩, ⟨5, 3, .ro, []⟩, ⟨3, 2, .ro, []⟩, ⟨0, 3, .ro, []⟩]⟩]

/-- The WEIR registers, as the tables of their chapter give them. -/
def weirRows : List RegRow := [
  ⟨0x70000, 4, 1, 0x00000000, [⟨0, 8, .wo, []⟩]⟩,
  ⟨0x70004, 4, 1, 0x00000000, [⟨24, 8, .ro, []⟩, ⟨16, 8, .ro, []⟩, ⟨8, 8, .ro, []⟩, ⟨0, 8, .ro, []⟩]⟩,
  ⟨0x70100, 8, 8, 0x00000000, [⟨16, 8, .rw, []⟩, ⟨15, 1, .rw, []⟩, ⟨0, 11, .rw, []⟩]⟩,
  ⟨0x70104, 8, 8, 0x00000000, [⟨0, 16, .rw, []⟩]⟩,
  ⟨0x70200, 8, 8, 0x00000200, [⟨16, 10, .rw, []⟩, ⟨8, 8, .rw, [(1, 255)]⟩, ⟨4, 1, .rw, []⟩, ⟨2, 1, .rw, []⟩, ⟨0, 2, .rw, [(0, 2)]⟩]⟩,
  ⟨0x70204, 8, 8, 0x00000000, [⟨0, 16, .rw, []⟩]⟩,
  ⟨0x70300, 8, 8, 0x00000000, [⟨28, 4, .ro, []⟩, ⟨16, 11, .ro, []⟩, ⟨15, 1, .w1c, []⟩, ⟨14, 1, .ro, []⟩, ⟨13, 1, .ro, []⟩, ⟨12, 1, .w1c, []⟩, ⟨11, 1, .w1c, []⟩, ⟨0, 11, .ro, []⟩]⟩,
  ⟨0x70304, 8, 8, 0x00000000, [⟨24, 8, .ro, []⟩, ⟨16, 8, .ro, []⟩, ⟨12, 1, .ro, []⟩, ⟨0, 12, .ro, []⟩]⟩,
  ⟨0x70400, 4, 9, 0x00000000, [⟨16, 16, .ro, []⟩, ⟨8, 8, .ro, []⟩, ⟨6, 1, .ro, []⟩, ⟨4, 2, .ro, []⟩, ⟨0, 3, .ro, []⟩]⟩,
  ⟨0x70800, 4, 1, 0x00000000, [⟨0, 12, .rw, []⟩]⟩,
  ⟨0x70840, 4, 16, 0x00000000, [⟨0, 32, .ro, []⟩]⟩,
  ⟨0x70880, 4, 4, 0x00000000, [⟨0, 32, .rw, []⟩]⟩,
  ⟨0x70890, 4, 1, 0x00000000, [⟨31, 1, .w1s, []⟩, ⟨0, 12, .rw, []⟩]⟩,
  ⟨0x70894, 4, 1, 0x00000000, [⟨16, 12, .ro, []⟩, ⟨8, 8, .ro, []⟩, ⟨0, 8, .ro, []⟩]⟩]

/-- The TRIB registers, as the tables of their chapter give them. -/
def tribRows : List RegRow := [
  ⟨0x80000, 4, 1, 0x30640400, [⟨28, 4, .rw, [(1, 15)]⟩, ⟨16, 12, .rw, [(2, 4095)]⟩, ⟨8, 6, .rw, [(1, 63)]⟩]⟩,
  ⟨0x80004, 4, 1, 0x00010000, [⟨16, 4, .ro, []⟩, ⟨11, 1, .ro, []⟩, ⟨8, 3, .ro, []⟩, ⟨4, 3, .ro, []⟩, ⟨0, 2, .ro, []⟩]⟩,
  ⟨0x80008, 4, 1, 0x00000000, [⟨16, 16, .ro, []⟩, ⟨8, 8, .ro, []⟩, ⟨5, 3, .ro, []⟩, ⟨4, 1, .ro, []⟩, ⟨2, 1, .w1c, []⟩]⟩,
  ⟨0x8000C, 4, 1, 0x00000000, [⟨24, 8, .ro, []⟩, ⟨16, 8, .ro, []⟩, ⟨0, 16, .ro, []⟩]⟩,
  ⟨0x80020, 4, 2, 0x00000000, [⟨16, 16, .ro, []⟩, ⟨13, 3, .ro, []⟩, ⟨12, 1, .ro, []⟩, ⟨7, 1, .w1c, []⟩, ⟨6, 1, .w1c, []⟩, ⟨4, 1, .ro, []⟩, ⟨3, 1, .w1c, []⟩, ⟨2, 1, .ro, []⟩, ⟨1, 1, .ro, []⟩, ⟨0, 1, .ro, []⟩]⟩,
  ⟨0x80040, 4, 8, 0x0000E000, [⟨24, 8, .ro, []⟩, ⟨16, 8, .ro, []⟩, ⟨13, 3, .ro, []⟩, ⟨12, 1, .ro, []⟩, ⟨8, 4, .ro, []⟩, ⟨7, 1, .ro, []⟩, ⟨6, 1, .ro, []⟩, ⟨5, 1, .ro, []⟩, ⟨4, 1, .ro, []⟩]⟩,
  ⟨0x80100, 4, 8, 0x00000000, [⟨16, 16, .rw, []⟩, ⟨8, 4, .rw, [(0, 10)]⟩, ⟨4, 1, .rw, []⟩, ⟨0, 3, .rw, []⟩]⟩,
  ⟨0x80140, 4, 8, 0x00000000, [⟨24, 8, .ro, []⟩, ⟨16, 8, .ro, []⟩, ⟨10, 6, .ro, []⟩, ⟨4, 6, .ro, []⟩, ⟨2, 2, .ro, []⟩, ⟨1, 1, .ro, []⟩]⟩]

/-- The FAB registers, as the tables of their chapter give them. -/
def fabRows : List RegRow := [
  ⟨0x90000, 4, 1, 0x03E80001, [⟨16, 16, .rw, []⟩, ⟨0, 1, .rw, []⟩]⟩,
  ⟨0x90004, 4, 1, 0x00000210, [⟨16, 12, .ro, []⟩, ⟨8, 2, .ro, []⟩, ⟨0, 5, .ro, []⟩]⟩,
  ⟨0x90008, 4, 1, 0x00000000, [⟨16, 16, .ro, []⟩, ⟨0, 16, .ro, []⟩]⟩,
  ⟨0x9000C, 4, 1, 0x00000000, [⟨0, 11, .rw, []⟩]⟩,
  ⟨0x90020, 4, 8, 0x00000400, [⟨31, 1, .w1c, []⟩, ⟨16, 12, .ro, []⟩, ⟨0, 12, .rw, [(1, 2048)]⟩]⟩,
  ⟨0x90040, 4, 6, 0x00000000, [⟨0, 12, .rw, [(1, 2048)]⟩]⟩,
  ⟨0x90060, 4, 6, 0x00000000, [⟨16, 16, .ro, []⟩, ⟨0, 12, .ro, []⟩]⟩,
  ⟨0x90080, 4, 16, 0x00000000, [⟨0, 32, .ro, []⟩]⟩,
  ⟨0x90100, 4, 18, 0x00000000, [⟨16, 16, .ro, []⟩, ⟨8, 8, .ro, []⟩, ⟨5, 3, .ro, []⟩, ⟨0, 4, .ro, []⟩]⟩,
  ⟨0x90200, 4, 1, 0x00000000, [⟨24, 8, .ro, []⟩, ⟨8, 16, .ro, []⟩, ⟨0, 5, .ro, []⟩]⟩,
  ⟨0x90300, 4, 1, 0x00000000, [⟨8, 17, .ro, []⟩, ⟨5, 1, .ro, []⟩, ⟨4, 1, .ro, []⟩, ⟨3, 1, .ro, []⟩, ⟨0, 3, .ro, []⟩]⟩,
  ⟨0x90310, 4, 3, 0x00000000, [⟨0, 17, .rw, []⟩]⟩,
  ⟨0x90320, 4, 3, 0x00000000, [⟨0, 17, .ro, []⟩]⟩]

/-- The MSR registers, as the tables of their chapter give them. -/
def msrRows : List RegRow := [
  ⟨0xA0000, 4, 1, 0x00640000, [⟨24, 8, .rw, []⟩, ⟨16, 8, .rw, [(1, 255)]⟩, ⟨0, 4, .rw, []⟩]⟩,
  ⟨0xA0008, 4, 1, 0x00000000, [⟨31, 1, .wo, []⟩, ⟨7, 2, .wo, []⟩, ⟨0, 7, .wo, []⟩]⟩,
  ⟨0xA000C, 4, 1, 0x00000000, [⟨21, 1, .w1c, []⟩, ⟨16, 4, .ro, []⟩, ⟨0, 16, .ro, []⟩]⟩,
  ⟨0xA0010, 4, 4, 0x00000001, [⟨31, 1, .w1s, []⟩, ⟨30, 1, .w1s, []⟩, ⟨8, 1, .rw, []⟩, ⟨7, 1, .rw, []⟩, ⟨0, 7, .rw, []⟩]⟩,
  ⟨0xA0020, 4, 4, 0x00000000, [⟨26, 6, .ro, []⟩, ⟨16, 8, .ro, []⟩, ⟨8, 8, .ro, []⟩, ⟨3, 1, .w1c, []⟩, ⟨2, 1, .w1c, []⟩, ⟨1, 1, .w1c, []⟩, ⟨0, 1, .w1c, []⟩]⟩,
  ⟨0xA0030, 4, 4, 0x00000000, [⟨16, 16, .ro, []⟩, ⟨12, 4, .ro, []⟩, ⟨11, 1, .w1c, []⟩, ⟨10, 1, .ro, []⟩, ⟨9, 1, .ro, []⟩, ⟨8, 1, .ro, []⟩, ⟨0, 6, .ro, []⟩]⟩,
  ⟨0xA0040, 8, 4, 0x00000000, [⟨31, 1, .wo, []⟩, ⟨24, 7, .rw, []⟩, ⟨18, 1, .rw, []⟩, ⟨16, 2, .rw, []⟩, ⟨0, 10, .rw, []⟩]⟩,
  ⟨0xA0044, 8, 4, 0x01061001, [⟨24, 8, .rw, []⟩, ⟨16, 8, .rw, []⟩, ⟨12, 2, .rw, []⟩, ⟨0, 9, .rw, []⟩]⟩,
  ⟨0xA0100, 8, 256, 0x00000000, [⟨31, 1, .rw, []⟩, ⟨24, 7, .rw, []⟩, ⟨16, 2, .rw, []⟩, ⟨0, 10, .rw, []⟩]⟩,
  ⟨0xA0104, 8, 256, 0x01061001, [⟨24, 8, .rw, []⟩, ⟨16, 8, .rw, []⟩, ⟨12, 2, .rw, []⟩, ⟨0, 9, .rw, []⟩]⟩,
  ⟨0xA0900, 4, 256, 0x00000000, [⟨16, 16, .ro, []⟩, ⟨8, 8, .ro, []⟩, ⟨0, 8, .ro, []⟩]⟩,
  ⟨0xA0D00, 4, 512, 0x00000000, [⟨1, 1, .rw, []⟩, ⟨0, 1, .rw, []⟩]⟩,
  ⟨0xA4000, 4, 8192, 0x00000000, [⟨26, 2, .ro, []⟩, ⟨16, 10, .ro, []⟩, ⟨4, 1, .ro, []⟩, ⟨3, 1, .ro, []⟩, ⟨2, 1, .w1c, []⟩, ⟨1, 1, .w1c, []⟩, ⟨0, 1, .ro, []⟩]⟩]

/-- The FIO registers, as the tables of their chapter give them. -/
def fioRows : List RegRow := [
  ⟨0xB0000, 4, 1, 0x00630009, [⟨16, 10, .rw, [(9, 999)]⟩, ⟨0, 10, .rw, [(9, 999)]⟩]⟩,
  ⟨0xB0004, 4, 1, 0x00000008, [⟨5, 1, .ro, []⟩, ⟨4, 1, .w1c, []⟩, ⟨3, 1, .ro, []⟩, ⟨2, 1, .ro, []⟩, ⟨1, 1, .w1c, []⟩, ⟨0, 1, .ro, []⟩]⟩,
  ⟨0xB0008, 4, 1, 0x00000000, [⟨0, 8, .wo, []⟩]⟩,
  ⟨0xB000C, 4, 1, 0x00000064, [⟨31, 1, .rw, []⟩, ⟨30, 1, .rw, []⟩, ⟨0, 14, .rw, [(1, 10000)]⟩]⟩,
  ⟨0xB0010, 4, 1, 0x00000000, [⟨0, 32, .ro, []⟩]⟩,
  ⟨0xB0014, 4, 1, 0x00000000, [⟨0, 16, .rw, []⟩]⟩,
  ⟨0xB0018, 4, 1, 0x00000000, [⟨0, 16, .ro, []⟩]⟩,
  ⟨0xB0020, 4, 1, 0x000300FF, [⟨17, 1, .ro, []⟩, ⟨16, 1, .ro, []⟩, ⟨8, 1, .rw, []⟩, ⟨0, 8, .rw, []⟩]⟩,
  ⟨0xB0024, 4, 1, 0x00000000, [⟨0, 32, .rw, []⟩]⟩,
  ⟨0xB0028, 4, 1, 0x00000000, [⟨0, 16, .rw, []⟩]⟩,
  ⟨0xB0100, 4, 32, 0x140F0501, [⟨24, 8, .rw, []⟩, ⟨16, 8, .rw, []⟩, ⟨8, 8, .rw, []⟩, ⟨7, 1, .rw, []⟩, ⟨1, 1, .rw, []⟩, ⟨0, 1, .rw, []⟩]⟩,
  ⟨0xB0200, 4, 32, 0x0A140000, [⟨24, 8, .rw, [(1, 255)]⟩, ⟨16, 8, .rw, []⟩, ⟨0, 16, .rw, []⟩]⟩,
  ⟨0xB0300, 4, 16, 0x00000010, [⟨5, 1, .rw, []⟩, ⟨4, 1, .rw, []⟩, ⟨3, 1, .rw, []⟩, ⟨2, 1, .rw, []⟩, ⟨0, 2, .rw, [(0, 2)]⟩]⟩]

/-- The BIST registers, as the tables of their chapter give them. -/
def bistRows : List RegRow := [
  ⟨0xC0000, 4, 1, 0x00020F01, [⟨16, 8, .rw, [(1, 100)]⟩, ⟨8, 4, .rw, []⟩, ⟨1, 1, .rw, []⟩, ⟨0, 1, .rw, []⟩]⟩,
  ⟨0xC0004, 4, 1, 0x00000000, [⟨16, 16, .ro, []⟩, ⟨12, 3, .ro, []⟩, ⟨0, 9, .ro, []⟩]⟩,
  ⟨0xC0008, 4, 1, 0x00000000, [⟨24, 8, .ro, []⟩, ⟨16, 8, .ro, []⟩, ⟨8, 8, .ro, []⟩, ⟨0, 8, .ro, []⟩]⟩,
  ⟨0xC0010, 4, 1, 0x00000000, [⟨0, 32, .ro, []⟩]⟩,
  ⟨0xC0014, 4, 1, 0x00000000, [⟨0, 32, .ro, []⟩]⟩,
  ⟨0xC0018, 4, 1, 0x00000000, [⟨0, 32, .ro, []⟩]⟩,
  ⟨0xC0020, 4, 1, 0x00000000, [⟨16, 16, .ro, []⟩, ⟨2, 2, .ro, []⟩, ⟨0, 1, .ro, []⟩]⟩,
  ⟨0xC0800, 4, 512, 0x00000000, [⟨24, 8, .ro, []⟩, ⟨11, 1, .ro, []⟩, ⟨8, 3, .ro, []⟩, ⟨4, 2, .ro, []⟩, ⟨0, 2, .ro, []⟩]⟩]

/-- The UPD registers, as the tables of their chapter give them. -/
def updRows : List RegRow := [
  ⟨0xD0000, 4, 1, 0x0000000A, [⟨0, 8, .rw, [(1, 255)]⟩]⟩,
  ⟨0xD0004, 4, 1, 0x00000000, [⟨28, 3, .ro, []⟩, ⟨27, 1, .ro, []⟩, ⟨26, 1, .ro, []⟩, ⟨24, 2, .ro, []⟩, ⟨16, 8, .ro, []⟩, ⟨8, 8, .ro, []⟩, ⟨4, 1, .ro, []⟩, ⟨0, 4, .ro, []⟩]⟩,
  ⟨0xD0008, 4, 1, 0x00000000, [⟨25, 7, .ro, []⟩, ⟨0, 17, .ro, []⟩]⟩,
  ⟨0xD000C, 4, 1, 0x00000000, [⟨0, 32, .ro, []⟩]⟩,
  ⟨0xD0010, 4, 2, 0x00000000, [⟨16, 16, .ro, []⟩, ⟨4, 12, .ro, []⟩, ⟨3, 1, .ro, []⟩, ⟨0, 3, .ro, []⟩]⟩,
  ⟨0xD0018, 4, 1, 0x00000000, [⟨16, 16, .ro, []⟩, ⟨5, 1, .ro, []⟩, ⟨4, 1, .ro, []⟩, ⟨2, 2, .ro, []⟩, ⟨0, 1, .ro, []⟩]⟩,
  ⟨0xD001C, 4, 1, 0x00000000, [⟨0, 32, .ro, []⟩]⟩,
  ⟨0xD0020, 4, 1, 0x00000000, [⟨0, 15, .ro, []⟩]⟩,
  ⟨0xD0024, 4, 1, 0x00000000, [⟨27, 1, .ro, []⟩, ⟨24, 3, .ro, []⟩, ⟨16, 8, .ro, []⟩, ⟨0, 16, .ro, []⟩]⟩]

/-- The REC registers, as the tables of their chapter give them. -/
def recRows : List RegRow := [
  ⟨0xE0000, 4, 1, 0x00000000, [⟨0, 1, .rw, []⟩]⟩,
  ⟨0xE0004, 4, 1, 0x00000000, [⟨16, 16, .ro, []⟩, ⟨0, 16, .ro, []⟩]⟩,
  ⟨0xE0008, 4, 1, 0x00000000, [⟨0, 16, .wo, []⟩]⟩,
  ⟨0xE0100, 32, 16, 0x10000000, [⟨28, 4, .rw, []⟩, ⟨8, 4, .rw, []⟩, ⟨0, 2, .rw, []⟩]⟩,
  ⟨0xE0104, 32, 16, 0x00000000, [⟨0, 32, .rw, []⟩]⟩,
  ⟨0xE0108, 32, 16, 0x00000000, [⟨16, 16, .rw, []⟩, ⟨0, 16, .rw, []⟩]⟩,
  ⟨0xE010C, 32, 16, 0x00004007, [⟨16, 16, .rw, []⟩, ⟨15, 1, .rw, []⟩, ⟨14, 1, .rw, []⟩, ⟨13, 1, .rw, []⟩, ⟨8, 3, .rw, []⟩, ⟨0, 3, .rw, [(0, 4), (7, 7)]⟩]⟩,
  ⟨0xE0110, 32, 16, 0x00000000, [⟨0, 17, .rw, []⟩]⟩,
  ⟨0xE0114, 32, 16, 0x00000000, [⟨29, 3, .ro, []⟩, ⟨28, 1, .w1c, []⟩, ⟨24, 4, .ro, []⟩, ⟨0, 17, .ro, []⟩]⟩,
  ⟨0xE0118, 32, 16, 0x00000000, [⟨0, 32, .ro, []⟩]⟩]

/-- The registers of block b, bits [19:16] of the offset (R367, R286). -/
def blockRows : Nat → List RegRow
  | 0 => genRows
  | 1 => pwrRows
  | 2 => hostRows
  | 3 => fltRows
  | 4 => lmpRows
  | 5 => aspRows
  | 6 => prvRows
  | 7 => weirRows
  | 8 => tribRows
  | 9 => fabRows
  | 10 => msrRows
  | 11 => fioRows
  | 12 => bistRows
  | 13 => updRows
  | 14 => recRows
  | _ => []

/-- Whether an offset is one of a row's registers. -/
def RegRow.has (r : RegRow) (off : Nat) : Bool :=
  decide (r.base ≤ off) && decide (off < r.base + r.stride * r.count) && (off - r.base) % r.stride == 0

/-- The row that occupies an offset, none where no register is (R13). -/
def findRow (off : Nat) : Option RegRow := (blockRows (off / 0x10000)).find? (fun r => r.has off)

/-- The Fast Port window (R280, R281): (first word offset, distance in words, count, BAR0 offset, distance in bytes). -/
def fastRows : List (Nat × Nat × Nat × Nat × Nat) := [
  (0x0300, 1, 16, 0x60040, 4),
  (0x0110, 1, 1, 0x70000, 4),
  (0x0111, 1, 1, 0x70004, 4),
  (0x0100, 2, 8, 0x70100, 8),
  (0x0101, 2, 8, 0x70104, 8),
  (0x0120, 2, 8, 0x70300, 8),
  (0x0121, 2, 8, 0x70304, 8),
  (0x0140, 1, 1, 0x80008, 4),
  (0x0141, 1, 1, 0x8000C, 4),
  (0x0000, 1, 1, 0x20000, 4),
  (0x0001, 1, 1, 0x20004, 4),
  (0x0004, 1, 1, 0x20020, 4),
  (0x0005, 1, 1, 0x20024, 4),
  (0x0184, 1, 1, 0xB0004, 4),
  (0x0180, 1, 1, 0xB0008, 4),
  (0x0181, 1, 1, 0xB0010, 4),
  (0x0182, 1, 1, 0xB0014, 4),
  (0x0183, 1, 1, 0xB0018, 4),
  (0x2000, 1, 8192, 0xA4000, 4),
  (0x0200, 1, 1, 0x30004, 4),
  (0x0201, 1, 1, 0x30008, 4),
  (0x0202, 1, 1, 0x3000C, 4),
  (0x0203, 1, 1, 0x30018, 4),
  (0x0208, 1, 8, 0x30040, 4),
  (0x0210, 1, 8, 0x30060, 4),
  (0x0280, 1, 128, 0x30200, 4)]

/-- The BAR0 offset of a Fast Port word, none for a reserved word. -/
def fastOff (fp : Nat) : Option Nat :=
  (fastRows.find? (fun r => decide (r.1 ≤ fp) && decide (fp < r.1 + r.2.1 * r.2.2.1) && (fp - r.1) % r.2.1 == 0)).map
    (fun r => r.2.2.2.1 + r.2.2.2.2 * ((fp - r.1) / r.2.1))

end Sys2Proof.Machine
end

