-- ==== Sys2Proof/Machine/State/Bist.lean ====
section
/-! DEFINITION. The state of the Riffle self-test, full BIST and the life-cycle (chapter 12). -/

namespace Sys2Proof.Machine

/-- The phases of a slice (R397). -/
inductive RifPhase where
  | prepare | handover | test | reinit
  deriving DecidableEq, Repr

/-- The code of a phase (BIST_STAT.PHASE). -/
def RifPhase.code : RifPhase → Nat
  | .prepare => 1 | .handover => 2 | .test => 3 | .reinit => 4

/-- Verdicts (BIST_BSTAT.VERDICT). -/
inductive RifVerdict where
  | pass | fail | incomplete | void | aborted | skipped
  deriving DecidableEq, Repr

/-- The code of a verdict. -/
def RifVerdict.code : RifVerdict → Nat
  | .pass => 1 | .fail => 2 | .incomplete => 3 | .void => 4 | .aborted => 5 | .skipped => 6

/-- One slice (R396 to R400): block, phase, whether it is direct, its stand-in (an engine or arm unit number), the BIST_SLICE_NOW
packet it answers, whether it is the test after a failure (R403) or of an UNUSABLE block (R404), whether it is given up
(R405), whether a condition of R400 was
seen, the MISR and count captured, the house rounds completed on AD1 and AD3 since RETURN, and when PREPARE or REINIT began. -/
structure Slice where
  block : Nat
  phase : RifPhase
  direct : Bool
  standIn : Option Nat
  packet : Option Packet
  afterFail : Bool
  unusable : Bool
  aborted : Bool
  isVoid : Bool
  misr : Nat
  count : Nat
  round1 : Bool
  round3 : Bool
  since : Nat
  deriving DecidableEq, Repr

/-- Full BIST: not asked for, accepted with its start due, or running (R407 to R409). -/
inductive FullBist where
  | off | accepted | running
  deriving DecidableEq, Repr

/-- Riffle, full BIST and life-cycle tokens. `judging`: slices returned whose verdict is due (R400), oldest first; `again`:
blocks to be repeated ahead of the rotation, with whether a VOID verdict asked for it (R401); `waiting`: blocks waiting for the
test after a failure, oldest first (R396); `next` the next ID of the rotation, `rots` rotations completed, the four counts of the
rotation that runs; `bankHeld` the bank that bank 32 holds permanently (R402); `setB` the strings that comparator set B serves;
`lcs` the life-cycle state in force
(R410); `dirty1`, `dirty3`: no whole house round of AD1, AD3 has been clear since a condition of R400 was last seen, at `dirtyAt`. -/
structure Bist where
  slice : Option Slice
  judging : List Slice
  now : Option (Nat × Packet)
  again : List (Nat × Bool)
  waiting : List Nat
  next : Nat
  rots : Nat
  fails : Nat
  incs : Nat
  voids : Nat
  skips : Nat
  lastBlock : Nat
  slotAt : Nat
  unusable : List Nat
  bankHeld : Option Nat
  setB : List Nat
  dirty1 : Bool
  dirty3 : Bool
  dirtyAt : Nat
  full : FullBist
  nonce : Option Nat
  nonceAt : Nat
  halfR : Option (List Byte)
  halfS : Option (List Byte)
  authRun : Nat
  lockAt : Option Nat
  retireDue : Bool
  lcs : Nat
  deriving DecidableEq, Repr

/-- Riffle at reset. -/
def Bist.reset : Bist :=
  ⟨none, [], none, [], [], 0, 0, 0, 0, 0, 0, 0, 0, [], none, [], false, false, 0, .off, none, 0, none, none, 0, none, false, 0⟩

end Sys2Proof.Machine
end

