-- ==== Sys2Proof/Machine/State/Chain.lean ====
section
/-! DEFINITION. The state of the Tributary chain: role, topology, ports, members, rounds (chapter 06). -/

namespace Sys2Proof.Machine

/-- The chain roles (R204). -/
inductive Role where
  | solo | head | member
  deriving DecidableEq, Repr

/-- The code of a role (TRIB_ROLE.ROLE). -/
def Role.code : Role → Nat
  | .solo => 0 | .head => 1 | .member => 2

/-- The states of a MEMBER (R207). -/
inductive MState where
  | alone | listen | joined | lost | excluded
  deriving DecidableEq, Repr

/-- The code of a member state (R207). -/
def MState.code : MState → Nat
  | .alone => 0 | .listen => 1 | .joined => 2 | .lost => 3 | .excluded => 4

/-- One Tributary port (R201 to R219): up, no signal, since when it is up, the position its neighbour reported (none before
the first peer-delay frame), WIRING, the last eight link delays in 1/16 TCLK (newest first), when it last sent a peer-delay
request, the times of recent CRC events (R235), and the counters of TRIB_STATS with the other-block count of R202. -/
structure TribPort where
  up : Bool
  los : Bool
  upSince : Nat
  nbr : Option Nat
  wiring : Bool
  delays : List Int
  reqAt : Nat
  crcTimes : List Nat
  forwarded : Nat
  originated : Nat
  hcrc : Nat
  crcErr : Nat
  stomp : Nat
  oldEpoch : Nat
  badType : Nat
  lockLoss : Nat
  otherBlocks : Nat
  deriving DecidableEq, Repr

/-- A port at reset: no lock. -/
def TribPort.reset : TribPort := ⟨false, false, 0, none, false, [], 0, [], 0, 0, 0, 0, 0, 0, 0, 0, 0⟩

/-- What the HEAD holds of one position (R208, R224, R230): TRIB_MSTAT, whether an FSUM was accepted in this control cycle,
the state of its ports as last reported with the time they were last reported up, the first of its present fenced frames
logged, the epoch of its last accepted frame, and S_TOT and P per arm from the last HIST to which it contributed. -/
structure Member where
  miss : Nat
  dead : Bool
  req : Bool
  stale : Bool
  devHusk : Bool
  armHusk : Nat
  sev : Nat
  revenant : Nat
  revLogged : Bool
  heard : Bool
  eastUp : Option Nat
  westUp : Option Nat
  lastEpoch : Nat
  totals : Tab (Nat × Nat)
  deriving DecidableEq, Repr

/-- A position of which nothing has been heard. -/
def Member.reset : Member := ⟨0, false, false, false, false, 0, 7, 0, false, false, none, none, 0, []⟩

/-- One submodule of a spanned arm at a snapshot: key, SM id, whether it is inserted (R184, R220). -/
structure Cand where
  key : Nat
  sm : Nat
  ins : Bool
  deriving DecidableEq, Repr

/-- The reference of one arm in a REF block (R211). -/
structure ArmRef where
  arm : Nat
  nIns : Nat
  dir : Bool
  cycle : Nat
  frac : Nat
  base : Nat
  shift : Nat
  pwmPos : Nat
  deriving DecidableEq, Repr

/-- One round of an arm at a device (R222 to R227): the reference, the candidates of the snapshot, the pinned inserted
submodules, whether the device reports the arm husked, whether it contributed, the bucket counts that stood before its
contribution (NM and S of every bucket), CAP and BAND as read at the snapshot, and the number of the REF it came with. -/
structure Round where
  ref : ArmRef
  cands : List Cand
  pins : Nat
  husked : Bool
  contributed : Bool
  preNm : List Nat
  preS : List Nat
  cap : Nat
  band : Nat
  serial : Nat
  deriving DecidableEq, Repr

/-- A HIST as returned on one branch (R211): CONTRIB, HUSKED, S_TOT and P by position, NM and S by bucket. -/
structure HistData where
  contrib : Nat
  husked : Nat
  tot : List (Nat × Nat)
  nm : List Nat
  s : List Nat
  deriving DecidableEq, Repr

/-- A round as the HEAD keeps it (R222 to R224): its own part, its departure, what returned per branch (0 ring or east,
1 west), the branches still awaited and those lost, the chain epoch and LIVE under which it runs, and whether a declaration of death
has fenced that epoch (R234). -/
structure HeadRound where
  own : Round
  sent : Nat
  hops : Nat
  east : Option HistData
  west : Option HistData
  waiting : List Nat
  lost : List Nat
  epoch : Nat
  live : Nat
  fenced : Bool
  deriving DecidableEq, Repr

/-- A TRIB_FORM or TRIB_ADMIT that waits for join requests (R208, R236): its packet, start, the positions asked for and those
admitted. -/
structure Admission where
  packet : Packet
  start : Nat
  want : Nat
  got : Nat
  deriving DecidableEq, Repr

/-- The Tributary chain. `epoch` is kept in the keep store (R228); `cyc` is the control cycle last published to a member; `joining`:
admitted, waiting for the time sync frame of R36; `refs` counts the REF frames that a member has seen outbound (R222); `fsumKey` is what
the last fault summary said of severity, husk and ports (R210); `roleWait` a TRIB_SET_ROLE that waits for the rounds of a HEAD to complete
(R477); `frames` the frames sent, newest first, with the port. -/
structure Chain where
  role : Role
  pos : Nat
  posCmd : Bool
  ndev : Nat
  mstate : MState
  knowsNdev : Bool
  epoch : Nat
  live : Nat
  linear : Bool
  brk : Nat
  topseq : Nat
  hops : Nat
  bound : Nat
  cyc : Nat
  joining : Bool
  contactAt : Nat
  syncAt : Nat
  unaligned : Option Nat
  noticeDue : Bool
  noticeAt : Nat
  joinAt : Nat
  fsumAt : Nat
  cycleAt : Nat
  oldNotices : Nat
  refs : Nat
  fsumKey : Nat
  roleWait : Option Packet
  form : Option Admission
  admitting : Option Admission
  portE : TribPort
  portW : TribPort
  members : Tab Member
  rounds : Tab (Option HeadRound)
  parts : Tab (Option Round)
  thLo : Tab (Option Nat)
  frames : List (Nat × TribFrame)
  deriving DecidableEq, Repr

/-- The chain at reset: SOLO at position 0 until the straps are sampled, both ports without lock (R204). -/
def Chain.reset : Chain :=
  ⟨.solo, 0, false, 1, .alone, false, 0, 0, false, 0, 0, 0, 0, 0, false, 0, 0, none, false, 0, 0, 0, 0, 0, 0, 0, none, none, none,
   .reset, .reset, [], [], [], [], []⟩

end Sys2Proof.Machine
end

