-- ==== Sys2Proof/Machine/State/Fabric.lean ====
section
/-! DEFINITION. The state of the task fabric: engines, matching store, ready lists, timers, SRAM checks, DRAM pages and the
recorder (chapter 07). -/

namespace Sys2Proof.Machine

/-- The states of an engine (R238). -/
inductive EngState where
  | inService | spare | standin | underTest | dead | unusable | restarting
  deriving DecidableEq, Repr

/-- The code of an engine state (R238). -/
def EngState.code : EngState → Nat
  | .inService => 0 | .spare => 1 | .standin => 2 | .underTest => 3 | .dead => 4 | .unusable => 5 | .restarting => 6

/-- One engine: state, role, epoch of the role held, fenced accesses, the matching store entry of its running task, when
that task was dispatched, and the FAB_ENGINE_STATS counters (R237 to R253, R272). `was` is the state that a restart returns to (R252),
`barred` the roles it held when it was declared dead (R239), `scratch` what its firmware has written to its 64 KB of local memory. -/
structure Engine where
  state : EngState
  role : Nat
  epoch : Nat
  revenant : Nat
  revLogged : Bool
  task : Option Nat
  since : Nat
  halted : Bool
  oldEpoch : Nat
  was : EngState
  barred : List Nat
  scratch : Tab Byte
  tasks : Nat
  overruns : Nat
  revAcc : Nat
  busy : Nat
  deriving DecidableEq, Repr

/-- Engine e at reset: e serves role e for e ≤ 15, E16 and E17 are spares (R237). -/
def Engine.reset (e : Nat) : Engine :=
  ⟨if e ≤ 15 then .inService else .spare, e % 16, 0, 0, false, none, 0, false, 0, .inService, [], [], 0, 0, 0, 0⟩

/-- The states of a matching store entry (R240). -/
inductive EntState where
  | free | waiting | ready | running
  deriving DecidableEq, Repr

/-- The code of an entry state (R240). -/
def EntState.code : EntState → Nat
  | .free => 0 | .waiting => 1 | .ready => 2 | .running => 3

/-- One operand slot (R240): data of 8 bytes, producer, REPLACED, device time of the deposit. -/
structure Slot where
  data : Nat
  producer : Nat
  replaced : Bool
  time : Nat
  deriving DecidableEq, Repr

/-- One matching store entry (R240). `owner` is the producer that took the entry (R246); `packet` the command packet a
CMD_EXEC task executes, `order` the order in which packets were fetched (R294), `cancelAt` the CCLK of a cancel that came while the task
ran (R248, R254); `begun`: its command has been executed and answers in a later step; `orphan`: its link was lost, so that its completion is
discarded (R289). -/
structure Entry where
  state : EntState
  template : Nat
  prio : Nat
  retry : Bool
  key : Nat
  need : Nat
  filled : Nat
  budget : Nat
  retried : Bool
  engine : Nat
  rtime : Nat
  s0 : Option Slot
  s1 : Option Slot
  s2 : Option Slot
  s3 : Option Slot
  owner : Nat
  packet : Option Packet
  opcode : Nat
  order : Nat
  cancelAt : Option Nat
  begun : Bool
  orphan : Bool
  deriving DecidableEq, Repr

/-- A free entry. -/
def Entry.reset : Entry := ⟨.free, 0, 0, false, 0, 0, 0, 0, false, 0, 0, none, none, none, none, 0, none, 0, 0, none, false, false⟩

/-- The operand in a slot of an entry (R240). -/
def Entry.slot (e : Entry) (k : Nat) : Option Slot := if k = 0 then e.s0 else if k = 1 then e.s1 else if k = 2 then e.s2 else e.s3

/-- An operand written into a slot (R241): one that stood there is overwritten, with REPLACED set. -/
def Entry.fill (e : Entry) (k : Nat) (d : Slot) : Entry :=
  let v := some { d with replaced := (e.slot k).isSome }
  let f := { e with filled := e.filled ||| 2 ^ k }
  if k = 0 then { f with s0 := v } else if k = 1 then { f with s1 := v } else if k = 2 then { f with s2 := v } else { f with s3 := v }

/-- One ready list (R244): the entries in order and whether FAB_LAG was raised for the present head wait. -/
structure ReadyList where
  entries : List Nat
  lagging : Bool
  deriving DecidableEq, Repr

/-- A ready list at reset: empty. -/
def ReadyList.reset : ReadyList := ⟨[], false⟩

/-- One producer (R246, R247, R272): its counters, and for RETURN the refusals per return lane. -/
structure Producer where
  deposits : Nat
  overwrites : Nat
  refusals : Nat
  slips : Nat
  deriving DecidableEq, Repr

/-- A producer at reset. -/
def Producer.reset : Producer := ⟨0, 0, 0, 0⟩

/-- One firmware timer (R241, R247): the template, key, slot and operand it deposits; whether a refused expiry waits for its
retry. -/
structure FwTimer where
  template : Nat
  key : Nat
  slot : Nat
  data : Nat
  retrying : Bool
  deriving DecidableEq, Repr

/-- A timer at reset. -/
def FwTimer.reset : FwTimer := ⟨0, 0, 0, 0, false⟩

/-- A recorder record (R263): timestamp, TYPE, FLAGS and payload of 6 or 22 bytes. -/
structure Rec where
  time : Nat
  type : Nat
  flags : Nat
  payload : Nat
  deriving DecidableEq, Repr

/-- Whether a record is long (R263: TYPE bit 7). -/
def Rec.long (r : Rec) : Bool := r.type ≥ 0x80

/-- 16-byte units of a record. -/
def Rec.units (r : Rec) : Nat := if r.long then 2 else 1

/-- The channel of a record (R262): lamp, first lamp of the string, lane, SM id, arm, channel, converter and set. -/
def Rec.channel (r : Rec) : Nat :=
  if r.type = 0x03 then 4 * (r.payload % 128)
  else if r.type = 0x06 then r.payload % 4096
  else if r.type = 0x07 then r.payload / 4 % 32
  else if r.type = 0x84 then r.payload / 2 ^ 12 % 512
  else if r.type = 0x85 then r.payload % 8
  else if r.type = 0x88 then r.payload % 4 * 128 + r.payload / 4 % 128
  else r.payload % 512

/-- The place of a record among those of its timestamp (R262, R263, R266): a MARK by its cause, a GAP, then ascending channel. -/
def Rec.rank (r : Rec) : Nat := if r.type = 0x7F then r.payload % 8 else if r.type = 0x7E then 8 else 9 + r.channel

/-- Whether a record stands before another in timestamp order (R262). -/
def Rec.before (a b : Rec) : Bool := decide (a.time < b.time) || (a.time == b.time && decide (a.rank ≤ b.rank))

/-- Whether a record is a MARK of a trigger (R263: causes 0 to 2). -/
def Rec.triggers (r : Rec) : Bool := r.type == 0x7F && decide (r.payload % 8 ≤ 2)

/-- One recorder page (R264): number, capture id, SEQ, neighbours in the chain, records in order, flags, drops since the
previous page; `read`: a REC_READ has copied it (R265). -/
structure Page where
  num : Nat
  capture : Nat
  seq : Nat
  prev : Option Nat
  next : Option Nat
  recs : List Rec
  closed : Bool
  capStart : Bool
  capEnd : Bool
  drops : Nat
  read : Bool
  deriving DecidableEq, Repr

/-- 16-byte units used in a page. -/
def Page.units (p : Page) : Nat := (p.recs.map Rec.units).sum

/-- The states of a stream (R265). -/
inductive StrmState where
  | off | armed | post | held | run
  deriving DecidableEq, Repr

/-- The code of a stream state (R265). -/
def StrmState.code : StrmState → Nat
  | .off => 0 | .armed => 1 | .post => 2 | .held => 3 | .run => 4

/-- A capture held (R265, R268): id, trigger time, cause of the MARK, pages, SURVIVED. -/
structure Capture where
  id : Nat
  time : Nat
  cause : Nat
  pages : List Page
  survived : Bool
  deriving DecidableEq, Repr

/-- One recorder stream (R261 to R269): its configuration as read at arming, its ring of closed pages (oldest first) and
open page, its input queue, captures, POST pages still to close, drops, and triggers missed while HELD (`missedAt`: the first of them).
`fixed` records of the open page and the queue stand before a backward step of the device time (R262); `pageDrops` records were dropped
since the previous page; `gapDue` GAP records await their report; `pins` are the pages that a REC_READ copies, by the order of its task
(R268). -/
structure Strm where
  state : StrmState
  source : Nat
  mode : Nat
  capmax : Nat
  filter : Word
  pre : Nat
  post : Nat
  trg : Word
  quota : Nat
  ring : List Page
  opened : Option Page
  queue : List Rec
  caps : List Capture
  postLeft : Nat
  curCap : Option Capture
  nextId : Nat
  seq : Nat
  drops : Nat
  sinceDrop : Nat
  pageDrops : Nat
  gapDue : Nat
  fixed : Nat
  missed : Nat
  missedAt : Nat
  pins : List (Nat × List Nat)
  deriving DecidableEq, Repr

/-- A stream at reset: OFF. -/
def Strm.reset : Strm := ⟨.off, 0, 0, 0, 0, 0, 0, 0, 0, [], none, [], [], 0, none, 1, 0, 0, 0, 0, 0, 0, 0, 0, []⟩

/-- The DRAM pages (R258 to R260): pages in all; the free list, which is `back` and then the pages from `fresh` on that were never given
out; pages used by UPD, the pages of LOG, and allocation refusals per user. -/
structure Dram where
  total : Nat
  fresh : Nat
  back : List Nat
  usedUpd : Nat
  logPages : List Nat
  refRec : Nat
  refUpd : Nat
  refLog : Nat
  deriving DecidableEq, Repr

/-- DRAM before training: no pages. -/
def Dram.reset : Dram := ⟨0, 0, [], 0, [], 0, 0, 0⟩

/-- The task fabric, memories and recorder. `epochs` are the role epochs (R237), `code` the firmware code that every engine holds, `shared`
what tasks have written to the SRAM banks 19 to 31 (R255). -/
structure Fabric where
  engines : Tab Engine
  epochs : Tab Nat
  store : Tab Entry
  lists : Tab ReadyList
  producers : Tab Producer
  laneRefusals : Tab Nat
  timers : Tab FwTimer
  code : List Byte
  shared : Tab Byte
  order : Nat
  dram : Dram
  strms : Tab Strm
  deriving DecidableEq, Repr

/-- The fabric at reset. -/
def Fabric.reset : Fabric := ⟨[], [], [], [], [], [], [], [], [], 0, .reset, []⟩

end Sys2Proof.Machine
end

