-- ==== Sys2Proof/Machine/State/Field.lean ====
section
/-! DEFINITION. The state of the field inputs and outputs and of the fault pair (chapter 09). -/

namespace Sys2Proof.Machine

/-- One field input (R317 to R322, R333, R340). `running`: the enabling tick has been taken; `act` the FIO_FCFG value the filter runs with
and `rewritten` whether a taken write waits for the input's next tick (R319); `raw` the level r at the previous tick; `run` and `runCross`
the consecutive ticks strictly between the thresholds and whether a crossing fell in them; `held` whether a chatter case held in the
present window. -/
structure FieldIn where
  running : Bool
  act : Word
  rewritten : Bool
  count : Nat
  state : Bool
  raw : Bool
  since : Nat
  winStart : Nat
  crossings : Nat
  run : Nat
  runCross : Bool
  held : Bool
  stuck : Bool
  chatter : Bool
  stuckLat : Bool
  chatterLat : Bool
  transitions : Nat
  crossTotal : Nat
  stuckStarts : Nat
  chatterStarts : Nat
  deriving DecidableEq, Repr

/-- An input at reset: not yet sampled. -/
def FieldIn.reset : FieldIn :=
  ⟨false, 0, false, 0, false, false, 0, 0, 0, 0, false, false, false, false, false, false, 0, 0, 0, 0⟩

/-- One field output (R323 to R331, R333, R340). `on` the switch, `value` the value in force; `clamping`: the load current of the
last switch-off still flows; `due` since when a switch-on is pending on it; `uvOn`: switched off by FLD_UV, or due on while it
lasted; `row` the rank from 3 to 8 of R331 that decides where ranks 1 and 2 do not, `held` the value of ranks 3 to 8 at the moment that row
began to apply, `low` their value now; `onTimes` the last times it switched on; `lat` the latched copies in the bit order of R334. -/
structure FieldOut where
  on : Bool
  value : Bool
  clamping : Bool
  due : Option Nat
  overload : Bool
  offAt : Nat
  openLoad : Bool
  shortSup : Bool
  extVolt : Bool
  latchedOff : Bool
  uvOn : Bool
  row : Nat
  held : Bool
  low : Bool
  onTimes : List Nat
  lat : Nat
  switchings : Nat
  trips : Nat
  retries : Nat
  pendings : Nat
  longs : Nat
  deriving DecidableEq, Repr

/-- An output at reset: off. -/
def FieldOut.reset : FieldOut :=
  ⟨false, false, false, none, false, 0, false, false, false, false, false, 8, false, false, [], 0, 0, 0, 0, 0, 0⟩

/-- The field interface: inputs, outputs, supply conditions with their latched copies, the host-silence watch (R330), FIO_FAULT
(R333), and the fault pair: whether the healthy pattern is driven, whether FLT_PIN is present, and the levels last read back from
pins that did not follow their drive (R337 to R339). -/
structure FieldIf where
  ins : Tab FieldIn
  outs : Tab FieldOut
  fldLow : Bool
  fldUv : Bool
  silent : Bool
  latLow : Bool
  latUv : Bool
  latSilent : Bool
  relatch : Bool
  nextA5 : Bool
  keyErrors : Nat
  kickAt : Nat
  fault : Bool
  drive : Bool
  pinBad : Bool
  pinP : Bool
  pinN : Bool
  deriving DecidableEq, Repr

/-- The field interface at reset: outputs off, both pins released. -/
def FieldIf.reset : FieldIf :=
  ⟨[], [], false, false, false, false, false, false, false, false, 0, 0, false, false, false, true, true⟩

end Sys2Proof.Machine
end

