-- ==== Sys2Proof/Machine/State/Host.lean ====
section
/-! DEFINITION. The state of the host interfaces (chapter 08), of the fault collector (chapter 11) and of the clocks and
die links (chapter 01). -/

namespace Sys2Proof.Machine

/-- A status reply (R300) with reply data beyond DATA in `long` (R301). `exec` is the EXEC field in µs; `urgent` the
packet's FLAGS.URGENT; `ptr` where long reply data was written. -/
structure Reply where
  queue : Nat
  tag : Byte
  hdrQueue : Byte
  status : Nat
  detail : Nat
  opcode : Nat
  sqhead : Nat
  data : List Word
  exec : Nat
  urgent : Bool
  long : List Byte
  deriving DecidableEq, Repr

/-- One queue pair (R290 to R296), or the UART queue (R312). `running` is the order number of the packet that runs;
`doneTags` the TAGs of the packets completed since the queue was enabled. -/
structure Queue where
  enabled : Bool
  size : Nat
  sqHead : Nat
  sqTail : Nat
  cqHead : Nat
  cqTail : Nat
  phase : Bool
  err : Bool
  running : Option Nat
  stopping : Bool
  due : List Reply
  unsignalled : Nat
  oldest : Nat
  fetched : Nat
  completed : Nat
  refusedDeposit : Nat
  refusedHeader : Nat
  holds : Nat
  holding : Bool
  doorbellErrors : Nat
  doneTags : List Byte
  deriving DecidableEq, Repr

/-- A queue pair at reset: disabled, PHASE 1. -/
def Queue.reset : Queue :=
  ⟨false, 0, 0, 0, 0, 0, true, false, none, false, [], 0, 0, 0, 0, 0, 0, 0, false, 0, []⟩

/-- One MSI-X table entry (R285, R286): message address, data, and mask bit. -/
structure MsixEntry where
  addr : Nat
  data : Word
  masked : Bool
  deriving DecidableEq, Repr

/-- An MSI-X entry at reset: masked, as the PCI Express specification gives it (R285). -/
def MsixEntry.reset : MsixEntry := ⟨0, 0, true⟩

/-- A split-read shadow of one interface (R35, R282, R283): the word held, none while not valid. -/
abbrev Shadows := Tab (Option Word)

/-- The host interfaces. `rrNext` is the queue the round robin looks at next; `msix` is keyed by vector, `pba` by vector, `messages` the
MSI-X messages sent (vectors, newest first) and `sentAt` the tick after which each vector last sent one; `d3`: the function is in D3hot,
`payload` the code of its max payload size, `aer` the AER uncorrectable error status; `uartHeld` the UART packets that came while no queue
fetches (R423), `uartOut` the frames and `consoleOut` the lines sent, newest first; `results` the replies of running packets by order
number, `ended` the packets abandoned whose operation still goes on; `tap` the TAP instruction, `scan` the boundary cells of the outputs;
`lastRead` the word last read. -/
structure HostIf where
  queues : Tab Queue
  rrNext : Nat
  msix : Tab MsixEntry
  pba : Tab Bool
  funcMask : Bool
  messages : List Nat
  sentAt : Tab Nat
  d3 : Bool
  payload : Nat
  aer : Word
  fastShadow : Tab (Option Word)
  pcieShadow : Tab (Option Word)
  uartDiscards : Nat
  uartHeld : List (Packet × Nat)
  uartOut : List (List Byte)
  consoleOut : List (List Byte)
  tap : TapIns
  scan : ScanCells
  results : List (Nat × Reply)
  ended : List Packet
  lastRead : Word
  deriving DecidableEq, Repr

/-- The host interfaces at reset: no link, the TAP in Test-Logic-Reset, where IEEE 1149.1 selects IDCODE (R313). -/
def HostIf.reset : HostIf :=
  ⟨[], 0, [], [], false, [], [], false, 0, 0, [], [], 0, [], [], [], .idcode, ⟨0, 0, false, false, false, false⟩, [], [], 0⟩

/-- The states of a fault code (R371). -/
inductive CodeState where
  | idle | active | quiet | latched
  deriving DecidableEq, Repr

/-- The code of a fault code state (R371). -/
def CodeState.code : CodeState → Nat
  | .idle => 0 | .active => 1 | .quiet => 2 | .latched => 3

/-- One fault code (R371 to R375, R393): state, arms husked, holds, the highest severity logged in the episode, whether a
husk reaction was taken in it, the last report, the escalation window, and the FLT_CODE_STATS counters. -/
structure CodeSt where
  state : CodeState
  arms : Nat
  devh : Bool
  foAct : Bool
  fltRel : Bool
  sev : Option Nat
  huskTaken : Bool
  lastInst : Nat
  lastSm : Option Nat
  lastArm : Option Nat
  quietAt : Nat
  escStart : Option Nat
  escCount : Nat
  rcnt : Nat
  reports : Nat
  conseq : Nat
  recoveries : Nat
  escalations : Nat
  refusals : Nat
  lastTime : Nat
  deriving DecidableEq, Repr

/-- A code at reset: IDLE. -/
def CodeSt.reset : CodeSt :=
  ⟨.idle, 0, false, false, false, none, false, 0, none, none, 0, none, 0, 0, 0, 0, 0, 0, 0, 0⟩

/-- A detector assertion with its payload (R365, R366), waiting for the collector to sample it. -/
structure Report where
  code : Nat
  inst : Nat
  smid : Option Nat
  arm : Option Nat
  d0 : Word
  d1 : Word
  time : Nat
  wire : Bool
  inj : Bool
  deriving DecidableEq, Repr

/-- A fault log entry (R384). -/
structure LogEntry where
  time : Nat
  code : Nat
  sev : Nat
  coinc : Bool
  wire : Bool
  conseq : Bool
  esc : Bool
  inj : Bool
  react : Nat
  fo : Bool
  flt : Bool
  seq : Nat
  inst : Nat
  smid : Option Nat
  arm : Option Nat
  d0 : Word
  d1 : Word
  boot : Nat
  deriving DecidableEq, Repr

/-- The opening events of reaction shadows (R390), with the instances they cover. -/
inductive ShadowKind where
  | retirement (lamp : Nat)
  | stringCut (str : Nat)
  | railHold (group : Nat)
  | auSubst (arm : Nat)
  | engine (e : Nat) (template : Option Nat)
  | topology
  | pcie
  | relock
  | riffle (block : Nat)
  deriving DecidableEq, Repr

/-- An armed fault injection (R391): `inst` is the instance that an injected assertion reports, `taken` the accesses taken. -/
structure Injection where
  checker : Nat
  kind : Nat
  code : Nat
  inst : Nat
  remain : Nat
  taken : Nat
  deriving DecidableEq, Repr

/-- The fault collector. `causes` holds the causes present as (code, instance), a WIRE's instance being 0x10000 + its pair number;
`suspects` are the pairs, as (code, pair number), that the sample of CCLK `suspectAt` found neither healthy nor asserting (R364);
`reinit` says since when the re-initialisation of an open shadow is complete (R390); `log` the SRAM ring newest first (at most
256 entries); `mirror` the newest 64 mirrored entries, newest first; `unposted` the entries not yet mirrored. -/
structure Collector where
  asserted : List Report
  causes : List (Nat × Nat)
  codes : Tab CodeSt
  log : List LogEntry
  logged : Nat
  seq : Nat
  first : Option LogEntry
  mirror : List LogEntry
  unposted : List LogEntry
  shadows : List ShadowKind
  reinit : List (ShadowKind × Nat)
  suspects : List (Nat × Nat)
  suspectAt : Nat
  inj : Option Injection
  deriving DecidableEq, Repr

/-- The collector at reset: every code IDLE, the SRAM log empty. -/
def Collector.reset : Collector := ⟨[], [], [], [], 0, 0, none, [], [], [], [], [], 0, none⟩

/-- One die link as the lamp die and the controller die see it (R21, R22, R33): whether the lamp die holds its own husk values, and the
run of consecutive control-bus parity errors that it has seen. -/
structure DieLink where
  ownHusk : Bool
  parity : Nat
  deriving DecidableEq, Repr

/-- A die link at reset. -/
def DieLink.reset : DieLink := ⟨false, 0⟩

/-- The clocks and the time base (R25 to R37). `lost`: from CLK_LOSS until PLL-A has re-locked (R501); `ticks` counts TCLK
ticks while PLL-A runs and never steps: the intervals of everything that PLL-A clocks are measured with it; `wall` counts every tick, for
the power domain; `slew` is the correction left, in ticks (R36). `tribOut` and `pcieOut`: the Tributary PLL or the PCIe reference fell out
of lock during a clock loss, to be reported at re-lock (R29, R501). -/
structure Clocks where
  running : Bool
  time : Nat
  ticks : Nat
  wall : Nat
  huskLine : Bool
  lost : Bool
  relockAt : Nat
  slew : Int
  slewTick : Nat
  dramOut : Bool
  tribOut : Bool
  pcieOut : Bool
  die0 : DieLink
  die1 : DieLink
  deriving DecidableEq, Repr

/-- The clocks at reset: not locked, the counter at 0. -/
def Clocks.reset : Clocks := ⟨false, 0, 0, 0, false, false, 0, 0, 0, false, false, false, .reset, .reset⟩

end Sys2Proof.Machine
end

