-- ==== Sys2Proof/Machine/State/Lamps.lean ====
section
/-! DEFINITION. The state of strings, groups and rails (chapter 02), of aspect streams, lanes and return inputs
(chapter 03), and of lamp proving (chapter 04). -/

namespace Sys2Proof.Machine

/-- The states of a string (R69). -/
inductive StrState where
  | disabled | waitRail | rampUp | steady | rampDown | cut | sagCut
  deriving DecidableEq, Repr

/-- The code of a string state (R69). -/
def StrState.code : StrState → Nat
  | .disabled => 0 | .waitRail => 1 | .rampUp => 2 | .steady => 3 | .rampDown => 4 | .cut => 5 | .sagCut => 6

/-- One string: its state, its present current in 62.5 µA steps, the slope of the ramp that runs
(R70: `slopeNum / slopeDen` steps per ms, `rampSteps` taken since the interval count `rampAt`; in STEADY
`rampAt` is the count of the last step, R72), the sibling disturbance in progress with whether a retirement fell in it (R134), and the
interval count at which it was last cut (R160). -/
structure Str where
  state : StrState
  cur : Nat
  slopeNum : Nat
  slopeDen : Nat
  rampAt : Nat
  rampSteps : Nat
  disturbed : Option Nat
  disturbOpen : Bool
  disturbEnd : Nat
  steadySince : Nat
  stuckCut : Bool
  cutAt : Nat
  deriving DecidableEq, Repr

/-- A string at reset: DISABLED, no current (R69). -/
def Str.reset : Str := ⟨.disabled, 0, 0, 1, 0, 0, none, false, 0, 0, false, 0⟩

/-- One lane group: its rail controller and its temperatures (R54 to R63, R79, R80, R499). `measMv` is the
FB-measured rail in mV as last reported; `target` and `setpoint` are rail voltages in mV, 0 with no target. Interval counts: `slewAt` the
setpoint's last move or the drive's resumption (R61), `ocAt` the start of the RAIL_OC hold (R63), `ntcOut` the first of the NTC readings
that have stayed outside −50 to +150 °C since (R63). -/
structure Group where
  target : Nat
  setpoint : Nat
  measMv : Nat
  reached : Bool
  uv : Bool
  ov : Bool
  oc : Bool
  ovHold : Bool
  ocHold : Bool
  ntcFault : Bool
  ntc : Option Int
  kf : Nat
  slewAt : Nat
  ocAt : Nat
  ntcOut : Option Nat
  deriving DecidableEq, Repr

/-- A group at reset: inactive, no measurement, no derating (`kf` is k in 1/40,000). -/
def Group.reset : Group := ⟨0, 0, 0, false, false, false, false, false, false, false, none, 40000, 0, 0, none⟩

/-- The LMP commit that runs (R64 to R68): the staged words at its start, the groups that slew upward, when its
checks ended, and the command packet to answer, if a command started it. -/
structure LmpCommit where
  snap : Tab Word
  upGroups : List Nat
  started : Nat
  est : Nat
  packet : Option Packet
  deriving DecidableEq, Repr

/-- The aspects a stream shows (R90). -/
inductive Aspect where
  | dark | insert | bypass | block
  deriving DecidableEq, Repr

/-- The 2-bit code of an aspect (R90). -/
def Aspect.code : Aspect → Nat
  | .dark => 0 | .insert => 1 | .bypass => 2 | .block => 3

/-- The aspect of a 2-bit code (R90). -/
def Aspect.ofCode : Nat → Aspect
  | 1 => .insert | 2 => .bypass | 3 => .block | _ => .dark

/-- What a stream is commanded to show: the aspect, whether it is INSERT with duty, the 16-bit fraction, whether
husk or sag sends it, and the CYC field of a command frame (R98, R106). -/
structure Content where
  aspect : Aspect
  pwm : Bool
  duty : Nat
  husk : Bool
  cyc : Nat
  deriving DecidableEq, Repr

/-- The content at reset: DARK. -/
def Content.reset : Content := ⟨.dark, false, 0, false, 0⟩

/-- The frame kinds of a framed lane: strike, command frame, IDLE strike, and a proving flash in place of idle
symbols (R105, R106, R111, R149). -/
inductive FrameKind where
  | strike | command | idle | flash | restart
  deriving DecidableEq, Repr

/-- A line symbol: a control character Kx.y or a data character, by its byte. -/
structure Sym where
  k : Bool
  b : Byte
  deriving DecidableEq, Repr

/-- A frame sent or being sent on a framed lane: its kind, content, sequence number, symbols, and the device times
at which its first symbol starts and its last symbol ends at the lamp. -/
structure Frame where
  kind : FrameKind
  content : Content
  seq : Nat
  syms : List Sym
  start : Nat
  stop : Nat
  deriving DecidableEq, Repr

/-- A duty fade in progress (R100): D0, D1, its start and its length in µs. -/
structure Fade where
  d0 : Nat
  d1 : Nat
  start : Nat
  len : Nat
  deriving DecidableEq, Repr

/-- The aspect stream of one lamp and its PWM generator or serialiser (R97 to R114, R125). `husked`: the stream shows its husk aspect.
Pending items are those of R110 in priority order. `level` is the level that the stream's shunt line carries, `edges` the interval counts
at which its last edges stand at the lamp, newest first (R20). -/
structure Stream where
  content : Content
  dIns : Nat
  husked : Bool
  fade : Option Fade
  seq : Nat
  negative : Bool
  now : Option Frame
  sagPend : Bool
  huskPend : Bool
  newPend : Option Content
  restartPend : Bool
  repeatPend : Bool
  idlePend : Bool
  last : Option Frame
  lastNeg : Bool
  sentNew : List Frame
  lastEnd : Nat
  sent : Nat
  replaced : Nat
  repeated : Nat
  idles : Nat
  lastFlash : Nat
  level : Bool
  edges : List Nat
  deriving DecidableEq, Repr

/-- A stream at reset: DARK, sequence 0 (so that the first frame carries 1, R108), running disparity negative (R102). -/
def Stream.reset : Stream :=
  ⟨.reset, 0, false, none, 0, true, none, false, false, none, false, false, false, none, true, [], 0, 0, 0, 0, 0, 0, false, []⟩

/-- The synchronisation states of a return input (R116). -/
inductive SyncState where
  | disabled | hunt | sync
  deriving DecidableEq, Repr

/-- One return input (R116, R121, R122, R125): `lastEdge` is the interval count from which it has seen no transition, `errors` says
which of the last 16 symbols were code violations or disparity errors, newest first. -/
structure RetIn where
  state : SyncState
  los : Bool
  lastEdge : Nat
  errors : List Bool
  good : Nat
  crc : Nat
  framing : Nat
  syncLoss : Nat
  unassigned : Nat
  deriving DecidableEq, Repr

/-- A return input at reset: DISABLED. -/
def RetIn.reset : RetIn := ⟨.disabled, false, 0, [], 0, 0, 0, 0, 0⟩

/-- Lit verdicts (R129); the code of PRV_LSTAT.LASTLIT. -/
inductive LitVerdict where
  | pass | low | high | unproven | disturbed
  deriving DecidableEq, Repr

/-- The code of a lit verdict in PRV_LSTAT.LASTLIT. -/
def LitVerdict.code : LitVerdict → Nat
  | .pass => 1 | .low => 2 | .high => 3 | .unproven => 4 | .disturbed => 5

/-- Judged trickle verdicts (R143). -/
inductive TrkVerdict where
  | pass | opened | short
  deriving DecidableEq, Repr

/-- The code of a judged trickle verdict in PRV_LSTAT.LASTTRK. -/
def TrkVerdict.code : TrkVerdict → Nat
  | .pass => 1 | .opened => 2 | .short => 3

/-- Retirement causes (PRV_LSTAT.CAUSE). -/
inductive Cause where
  | openLit | openTrickle | shortLit | shortTrickle | host
  deriving DecidableEq, Repr

/-- The code of a retirement cause. -/
def Cause.code : Cause → Nat
  | .openLit => 1 | .openTrickle => 2 | .shortLit => 3 | .shortTrickle => 4 | .host => 5

/-- The retirement cause of a code. -/
def Cause.ofCode : Nat → Option Cause
  | 1 => some .openLit | 2 => some .openTrickle | 3 => some .shortLit | 4 => some .shortTrickle | 5 => some .host
  | _ => none

/-- A trickle test in progress (R141): its start, the epoch it is tagged with (R156), whether the guard of R145 or a
disturbance has touched it, and the command that asked for it. -/
structure Trickle where
  start : Nat
  epoch : Nat
  guarded : Bool
  disturbed : Bool
  packet : Option Packet
  deriving DecidableEq, Repr

/-- The PRV_LAMP_STATS counters (R164), in the order of the rule. -/
structure PrvCounters where
  litPass : Nat
  low : Nat
  high : Nat
  unproven : Nat
  disturbed : Nat
  trkPass : Nat
  trkOpen : Nat
  trkShort : Nat
  trkAborted : Nat
  trkDisturbed : Nat
  trkGuarded : Nat
  retirements : Nat
  cuts : Nat
  fenced : Nat
  revPasses : Nat
  echoJudged : Nat
  echoDisagree : Nat
  starved : Nat
  deriving DecidableEq, Repr

/-- All proving counters 0. -/
def PrvCounters.reset : PrvCounters := ⟨0, 0, 0, 0, 0, 0, 0, 0, 0, 0, 0, 0, 0, 0, 0, 0, 0, 0⟩

/-- The counters in the reply order of R164. -/
def PrvCounters.words (c : PrvCounters) : List Nat :=
  [c.litPass, c.low, c.high, c.unproven, c.disturbed, c.trkPass, c.trkOpen, c.trkShort, c.trkAborted, c.trkDisturbed,
   c.trkGuarded, c.retirements, c.cuts, c.fenced, c.revPasses, c.echoJudged, c.echoDisagree, c.starved]

/-- The proving state of one lamp position (R128 to R164). `active`: a SPARE position that carries its partner's stream. `readmit` is a
re-admission in progress with its start and packet (R158); `hostReq` a pending PRV_TRICKLE_NOW with its start (R163). `ownEdge` is the
interval count of the shunt's last edge that was not one of its stream's line (a retirement, a takeover, a release); `preload` the static
level that the lamp die holds while it applies its husk values (R31). `sampleFrom`, `sampleAt`, `deferred`: the lit interval whose samples
were last judged, its next sample, and the instant its one deferral led to (R128, R130). `trkEnd` is the interval count at which the last
trickle test ended. -/
structure Prove where
  retired : Option Cause
  active : Bool
  stuck : Bool
  shuntHeld : Bool
  epoch : Nat
  lastLit : Option LitVerdict
  lastTrk : Option TrkVerdict
  lastMv : Nat
  shortCount : Nat
  vfHigh : Bool
  revLogged : Bool
  starvedLast : Bool
  cover : Nat
  trkLast : Nat
  trickle : Option Trickle
  echoRun : Nat
  lastLitAt : Nat
  readmit : Option (Nat × Option Packet)
  hostReq : Option (Nat × Packet)
  counters : PrvCounters
  ownEdge : Nat
  preload : Option Bool
  sampleFrom : Nat
  sampleAt : Option Nat
  deferred : Option Nat
  trkEnd : Nat
  deriving DecidableEq, Repr

/-- The proving state of a lamp at reset: in service, epoch 0, no verdict. -/
def Prove.reset : Prove :=
  ⟨none, false, false, false, 0, none, none, 0, 0, false, false, false, 0, 0, none, 0, 0, none, none, .reset, 0, none, 0, none, none, 0⟩

/-- A retirement on its way over the status bus (R21, R132, R154): lamp, cause, the voltage code and time of the
deciding sample. -/
structure RetireNote where
  lamp : Nat
  cause : Cause
  mv : Nat
  time : Nat
  deriving DecidableEq, Repr

/-- The lamp section: strings, groups, the commit engines, streams, return inputs and proving. -/
structure Lamps where
  strs : Tab Str
  groups : Tab Group
  commit : Option LmpCommit
  streams : Tab Stream
  rets : Tab RetIn
  prove : Tab Prove
  notes : List RetireNote
  trim : Tab Word
  deratedAt : Nat
  deriving DecidableEq, Repr

/-- The lamp section at reset. -/
def Lamps.reset : Lamps := ⟨[], [], none, [], [], [], [], [], 0⟩

end Sys2Proof.Machine
end

