-- ==== Sys2Proof/Machine/State/Measure.lean ====
section
/-! DEFINITION. The state of measurement: converters, runs, urgent requests, accumulator sets, calibration (chapter 10). -/

namespace Sys2Proof.Machine

/-- The fields of a sequence entry or urgent request that a run needs (R345, R352). -/
structure RunSpec where
  chan : Nat
  gain : Nat
  set : Nat
  order : Nat
  ratio : Nat
  count : Nat
  acq : Nat
  deriving DecidableEq, Repr

/-- What an urgent request is for: the host with its IRQ bit (R353), or a calibration command with its packet, and for a
span VALUE and the OFF of the pending zero (R357). -/
inductive UrgJob where
  | host (irq : Bool)
  | zero (p : Packet)
  | span (p : Packet) (value off : Int)
  deriving DecidableEq, Repr

/-- An urgent request queued or running. -/
structure Urgent where
  spec : RunSpec
  job : UrgJob
  deriving DecidableEq, Repr

/-- A run in progress (R345, R346): its fields, the entry of the sequence (none for the urgent request at the head of the queue),
leading conversions left, inputs and outputs done, the integrators and combs of the decimator, whether a conversion waits for a Vf
capture since a tick count, the device time of the capture taken, and the sum and clipping of a calibration. -/
structure Run where
  spec : RunSpec
  entry : Option Nat
  lead : Nat
  inputs : Nat
  outs : Nat
  ints : List Int
  combs : List Int
  wait : Option Nat
  captured : Option Nat
  calSum : Int
  calClip : Bool
  since : Nat
  fresh : Bool
  deriving DecidableEq, Repr

/-- One converter (R345 to R353, R363): whether a pass runs, the entry that runs or is to run
next, the entry of the present or last run, a start over at
entry 0 that a commit left for the end of an urgent run or house round (R361), the run, the urgent queue with the running request at
its head, the house round (running, due, when it last started), the channel and gain of the last completed conversion (none after
reset and after a stop), passes completed, a pending zero as (channel, gain, OFF), and the MSR_STATS counters. -/
structure Conv where
  pass : Bool
  entry : Nat
  shown : Nat
  startOver : Bool
  run : Option Run
  urgent : List Urgent
  house : Bool
  houseDue : Bool
  houseAt : Nat
  prev : Option (Nat × Nat)
  loops : Nat
  pendingZero : Option (Nat × Nat × Int)
  conversions : Nat
  invalid : Nat
  clipped : Nat
  aborted : Nat
  houseRounds : Nat
  vfMisses : Nat
  urgRefused : Nat
  deriving DecidableEq, Repr

/-- A converter at reset: idle. -/
def Conv.reset : Conv := ⟨false, 0, 0, false, none, [], false, false, 0, none, 0, none, 0, 0, 0, 0, 0, 0, 0⟩

/-- One accumulator set (R354, R351): `mn` and `mx` hold no value while the count is 0; `chan` and `gain` of the last sample
added. -/
structure AccSet where
  sum : Int
  count : Nat
  sumsq : Nat
  mn : Int
  mx : Int
  tmin : Nat
  tmax : Nat
  chan : Nat
  gain : Nat
  mixed : Bool
  full : Bool
  clip : Bool
  torn : Bool
  settled : Bool
  deriving DecidableEq, Repr

/-- A set after a clear (R354). -/
def AccSet.reset : AccSet := ⟨0, 0, 0, 0x7FFF, -0x8000, 0, 0, 0, 0, false, false, false, false, false⟩

/-- Measurement: converters, accumulator sets by 128·AD + k, stored calibration pairs by (AD, channel, gain) as OFF and GAIN_CAL
(kept in the keep store, R357, R359), and when the last summary was written. -/
structure Measure where
  convs : Tab Conv
  sets : Tab AccSet
  cals : List ((Nat × Nat × Nat) × (Int × Nat))
  summaryAt : Nat
  deriving DecidableEq, Repr

/-- Measurement at reset: nothing runs, no pair is stored. -/
def Measure.reset : Measure := ⟨[], [], [], 0⟩

end Sys2Proof.Machine
end

