-- ==== Sys2Proof/Machine/State/Power.lean ====
section
/-! DEFINITION. The state of power, hold-up, reset, boot and the service states (chapters 13 and 15). -/

namespace Sys2Proof.Machine

/-- The power phases (R424). -/
inductive Phase where
  | normal | qualify | save | saved
  deriving DecidableEq, Repr

/-- The code of a phase (PWR_STAT.PHASE). -/
def Phase.code : Phase → Nat
  | .normal => 0 | .qualify => 1 | .save => 2 | .saved => 3

/-- The base states beneath HUSK and SAVED (R465). -/
inductive BaseState where
  | run | maint
  deriving DecidableEq, Repr

/-- The code of a base state (R464, R425). -/
def BaseState.code : BaseState → Nat
  | .run => 0 | .maint => 1

/-- How far the device has come from reset (R431, R432, R459, R464): in reset, reset released and booting, running an image,
in SEED, in HALT. -/
inductive Boot where
  | inReset | booting | ready | seed | halt
  deriving DecidableEq, Repr

/-- The service states (R464). -/
inductive Service where
  | run | maint | husk | seed | saved | halt
  deriving DecidableEq, Repr

/-- The code of a service state (R464). -/
def Service.code : Service → Nat
  | .run => 0 | .maint => 1 | .husk => 2 | .seed => 3 | .saved => 4 | .halt => 5

/-- The causes of a reset (R428). -/
inductive ResetCause where
  | por | rstN | pg | thermal | bist | retire | holdEnd
  deriving DecidableEq, Repr

/-- The code of a reset cause (PWR_RESET.RCAUSE). -/
def ResetCause.code : ResetCause → Nat
  | .por => 0 | .rstN => 1 | .pg => 2 | .thermal => 3 | .bist => 4 | .retire => 5 | .holdEnd => 6

/-- STATE of the keep record (R425). -/
inductive KeepState where
  | none | started | valid
  deriving DecidableEq, Repr

/-- The keep record (R425): its header fields, body and CONSUMED mark. `flags` is the halfword at 0x0018. With `torn`, the bytes of the body
are not known: a save is writing them or was cut short, or a boot found the CRC wrong; the number names the free bytes they read as. -/
structure KeepRec where
  state : KeepState
  seq : Nat
  t0 : Nat
  boot : Nat
  us : Nat
  vin : Nat
  hold : Nat
  flags : Nat
  body : List Byte
  consumed : Bool
  torn : Option Nat
  deriving DecidableEq, Repr

/-- No record saved yet. -/
def KeepRec.reset : KeepRec := ⟨.none, 0, 0, 0, 0, 0, 0, 0, [], false, none⟩

/-- A die's runs of consecutive house rounds for R435: at or above the warning start, at or below its end, above T_MAX, at or
below the DIE_OT end. -/
structure DieHeat where
  warm : Nat
  cool : Nat
  hot : Nat
  calm : Nat
  deriving DecidableEq, Repr

/-- No rounds yet. -/
def DieHeat.reset : DieHeat := ⟨0, 0, 0, 0⟩

/-- A PWR_SAVE_TEST in progress (R437): its packet and HOLD at its start. -/
structure SaveTest where
  packet : Packet
  hold : Nat
  deriving DecidableEq, Repr

/-- Power and service state. `temps` are the last die temperatures in 1/16 °C (0 CD, 1 LD0, 2 LD1). Rails: `enabled` and `good` the masks
of SEQ_EN and PG, `seqNext` the next enable to raise (5: every enable is raised, 6: waiting for the retry after a timeout), `retries`
since the last success, `lastRail`. `preBase` and `preHusk` are the service state before t0, `t0Sstat` LMP_SSTAT as at t0, `sagVin` and
`sagHold` VIN at the crossing and HOLD at t0 in 10 mV; `hotDown`: a die has not yet cooled below 130 °C after a thermal shutdown;
`seqFrom`: when the next step of the rail sequence may come; `vinAt`: when VIN was last known below VSAG + 0.5 V; `swept`: the packets of
t0 have been ended (all three by the wall count). `restored`: retirements were restored at this boot. The last seven fields are the
PWR_STATS counters; `sags` and `glitches` those of PWR_SAGCNT. -/
structure Power where
  phase : Phase
  base : BaseState
  boot : Boot
  sagTime : Nat
  sagMono : Nat
  railsHeld : Bool
  temps : Tab (Option Int)
  heat : Tab DieHeat
  enabled : Nat
  good : Nat
  seqNext : Nat
  retries : Nat
  lastRail : Nat
  vinok : Bool
  hgate : Bool
  boost : Bool
  holdok : Bool
  holdLow : Bool
  holdArmed : Bool
  sags : Nat
  glitches : Nat
  keep : KeepRec
  boots : Nat
  saveTest : Option SaveTest
  preBase : BaseState
  preHusk : Bool
  hotDown : Bool
  seqFrom : Nat
  vinAt : Nat
  swept : Bool
  restored : Bool
  t0Sstat : List Word
  sagVin : Nat
  sagHold : Nat
  statSags : Nat
  statGlitches : Nat
  statVinhi : Nat
  statRetries : Nat
  statSaves : Nat
  statLost : Nat
  statWarm : Nat
  deriving DecidableEq, Repr

/-- Power at reset. -/
def Power.reset : Power :=
  ⟨.normal, .run, .inReset, 0, 0, false, [], [], 0, 0, 0, 0, 7, false, false, false, false, false, false, 0, 0, .reset, 0, none,
   .run, false, false, 0, 0, false, false, [], 0, 0, 0, 0, 0, 0, 0, 0, 0⟩

/-- A die's temperature as the last house round delivered it, to 0.25 °C (R79): 0 CD, 1 LD0, 2 LD1. -/
def Power.dieTemp (p : Power) (d : Nat) : Option Int := (Tab.get (fun _ => none) p.temps d).map (fun t => roundDiv t 4)

end Sys2Proof.Machine
end

