-- ==== Sys2Proof/Machine/State/Update.lean ====
section
/-! DEFINITION. The state of firmware update: flash slots, settings, boot record, download (chapter 14). -/

namespace Sys2Proof.Machine

/-- The update stages (R442). -/
inductive Stage where
  | idle | download | downloaded | apply | applied | verify | verified | activated | trial | confirmed | fallback
  deriving DecidableEq, Repr

/-- The code of a stage (UPD_STAT.STAGE). -/
def Stage.code : Stage → Nat
  | .idle => 0 | .download => 1 | .downloaded => 2 | .apply => 3 | .applied => 4 | .verify => 5 | .verified => 6
  | .activated => 7 | .trial => 8 | .confirmed => 9 | .fallback => 10

/-- The states of an image slot (R448). -/
inductive SlotState where
  | empty | dirty | applied | verified | trial | active | previous | failed
  deriving DecidableEq, Repr

/-- The code of a slot state (SSTATE [2:0]). -/
def SlotState.code : SlotState → Nat
  | .empty => 0 | .dirty => 1 | .applied => 2 | .verified => 3 | .trial => 4 | .active => 5 | .previous => 6 | .failed => 7

/-- What the boot record says of one slot: SSTATE with UNSIGNED, VERSION, SVN (R448). -/
structure SlotRec where
  state : SlotState
  unsignedImg : Bool
  version : Nat
  svn : Nat
  deriving DecidableEq, Repr

/-- The boot record (R448). -/
structure BootRec where
  seq : Nat
  active : Nat
  trial : Bool
  tries : Nat
  svnMin : Nat
  a : SlotRec
  b : SlotRec
  window : Nat
  fbcause : Nat
  deriving DecidableEq, Repr

/-- The record that R451 uses when none is in force: slot A active, no trial. -/
def BootRec.default : BootRec := ⟨0, 0, false, 0, 0, ⟨.active, false, 0, 0⟩, ⟨.empty, false, 0, 0⟩, 0, 0⟩

/-- One part of an image: TYPE, INDEX, bytes (R438, R439). -/
structure Part where
  type : Nat
  index : Nat
  bytes : List Byte
  deriving DecidableEq, Repr

/-- An image in a slot: its manifest copy and its parts in manifest order (R438). -/
structure Image where
  manifest : List Byte
  parts : List Part
  deriving DecidableEq, Repr

/-- One half of a settings slot (R454): header fields and body. -/
structure SetHalf where
  sver : Nat
  auto : Bool
  seq : Nat
  origin : Nat
  body : List Byte
  deriving DecidableEq, Repr

/-- One flash device: the image slot and the two halves of the settings slot, none where nothing valid stands (R438, R454). -/
structure FlashDev where
  image : Option Image
  half0 : Option SetHalf
  half1 : Option SetHalf
  deriving DecidableEq, Repr

/-- A chunk that arrives in pieces (R444): its number, length and CRC, and the pieces received as (offset, bytes). -/
structure Pieces where
  chunk : Nat
  len : Nat
  crc : Nat
  got : List (Nat × List Byte)
  deriving DecidableEq, Repr

/-- Firmware update. `op` is the packet of the operation that runs; `result` and `detail` those of the last; `chunks` the chunks stored;
`pages` the staging pages; `target` the slot that SEED writes (R460); `mram` the valid MRAM copy of the boot record, `ring` the valid
entries of the flash ring, newest first (R449); `wearA`, `wearB` the wear counters that the keep store holds (R257): erases of each
device; `run` the image that runs (0 A, 1 B, 2 Seed ROM); `window` when the confirm window started; `todo` the settings records still to
be applied (R455). -/
structure Update where
  stage : Stage
  op : Option Packet
  result : Nat
  detail : Nat
  plen : Nat
  chunks : List (Nat × List Byte)
  pieces : List Pieces
  pages : List Nat
  target : Nat
  devA : FlashDev
  devB : FlashDev
  mram : Option BootRec
  ring : List BootRec
  wearA : Nat
  wearB : Nat
  run : Nat
  nofb : Bool
  mvalid : Bool
  fvalid : Bool
  migr : Nat
  window : Option Nat
  warned : Bool
  refused : Nat
  todo : List (Nat × List Word)
  deriving DecidableEq, Repr

/-- Firmware update at reset, with both flash devices erased. -/
def Update.reset : Update :=
  ⟨.idle, none, 0, 0, 0, [], [], [], 0, ⟨none, none, none⟩, ⟨none, none, none⟩, none, [], 0, 0, 0, false, false, false, 0, none, false,
   0, []⟩

end Sys2Proof.Machine
end

