-- ==== Sys2Proof/Machine/State/Weir.lean ====
section
/-! DEFINITION. The state of the Weir selector: the submodule table, the arms and the arm units (chapter 05). -/

namespace Sys2Proof.Machine

/-- One submodule table entry (R169, R170). `ranked` is the VCAP under which the arm unit ranks the entry, none
while the entry is in no rank list (R174, R176); `rankPend` holds a rank update on its way (R42); `moving` marks a
valid entry whose insertion or move between rank lists is still to take effect (R174), with the arm it leaves. -/
structure Smt where
  valid : Bool
  arm : Nat
  owner : Nat
  pin : Nat
  lamp : Nat
  spare : Nat
  spv : Bool
  rxl : Nat
  tag : Nat
  vcap : Nat
  temp : Nat
  status : Nat
  echo : Nat
  age : Nat
  frames : Nat
  rtime : Nat
  aspect : Aspect
  pwmsm : Bool
  avail : Bool
  uLamp : Bool
  uCut : Bool
  uStale : Bool
  uGate : Bool
  uFresh : Bool
  fresh : Nat
  ranked : Option Nat
  rankPend : Option Nat
  moving : Option Nat
  swcnt : Nat
  stalecnt : Nat
  gatecnt : Nat
  unavcnt : Nat
  pwmcnt : Nat
  ctime : Nat
  decCycle : Nat
  gen : Nat
  deriving DecidableEq, Repr

/-- An entry at reset: everything 0 but AGE = 255 (R171). -/
def Smt.reset : Smt :=
  ⟨false, 0, 0, 0, 0, 0, false, 0, 0, 0, 0, 0, 0, 255, 0, 0, .dark, false, false, false, false, false, false, false, 0,
   none, none, none, 0, 0, 0, 0, 0, 0, 0, 0⟩

/-- The counters of WEIR_ARM_STATS (R200), in the order of the rule. -/
structure ArmCounters where
  taken : Nat
  early : Nat
  refused : Nat
  held : Nat
  emitted : Nat
  discarded : Nat
  capx : Nat
  shortfalls : Nat
  deriving DecidableEq, Repr

/-- All arm counters 0. -/
def ArmCounters.reset : ArmCounters := ⟨0, 0, 0, 0, 0, 0, 0, 0⟩

/-- One arm: the unit that serves it, its role epoch, its last taken commit, whether AU_NOSPARE refuses its commits
(R196) and no unit serves it, whether a husk has held since its last decision (R191), the submodules found stale while its
decisions were held (R183), the CYCLE last committed (R106), and its counters. -/
structure Arm where
  unit : Nat
  epoch : Nat
  cycle : Nat
  lastTaken : Option Nat
  noSpare : Bool
  unserved : Bool
  fromHusk : Bool
  deferred : List Nat
  counters : ArmCounters
  deriving DecidableEq, Repr

/-- Arm a at reset: served by arm unit AUa (R165). -/
def Arm.reset (a : Nat) : Arm := ⟨a, 0, 0, none, false, false, false, [], .reset⟩

/-- The roles of an arm unit (WEIR_AUSTAT.ROLE). -/
inductive AuRole where
  | inService | spare | riffle | unusable
  deriving DecidableEq, Repr

/-- The code of an arm unit role. -/
def AuRole.code : AuRole → Nat
  | .inService => 0 | .spare => 1 | .riffle => 2 | .unusable => 3

/-- One arm unit: role, arm, the epoch it holds, the rebuild in progress with its start (R194), and counts of fenced
writes and of replaced rank updates (R42, R195). -/
structure ArmUnit where
  role : AuRole
  arm : Nat
  epoch : Nat
  rebuild : Option Nat
  revenant : Nat
  replaced : Nat
  deriving DecidableEq, Repr

/-- Arm unit u at reset: AU0 to AU7 in service for arms 0 to 7, AU8 the spare (R165). -/
def ArmUnit.reset (u : Nat) : ArmUnit := ⟨if u = 8 then .spare else .inService, u % 8, 0, none, 0, 0⟩

/-- The Weir selector: the SMT, the arms and the arm units. -/
structure Weir where
  smt : Tab Smt
  arms : Tab Arm
  units : Tab ArmUnit
  deriving DecidableEq, Repr

/-- The Weir selector at reset. -/
def Weir.reset : Weir := ⟨[], [], []⟩

end Sys2Proof.Machine
end

