-- ==== Sys2Proof/Machine/State.lean ====
section
/-! DEFINITION. The state of the block: every register, table, FIFO, counter, mode and pin, and the queue of the commands
that wait. -/

namespace Sys2Proof.Machine

/-- Why the block stops. -/
inductive Fault where
  /-- Raised by no command: the spec gives every command of this block an effect. Safe: the block never stops with it. -/
  | none
  deriving DecidableEq, Repr

/-- Why a command has no meaning. -/
inductive Refusal where
  /-- Raised by exec for a command whose meaning is not modelled. Safe: nothing is claimed of its effect. -/
  | notModelled (mnemonic : String)
  deriving DecidableEq, Repr

/-- What one-time-programmable memory holds (R1, R3, R53, R410 to R412, R439): stepping, grade, serial number (0: not programmed),
life-cycle state, update and service keys (none: not programmed), factory lamp trim by lamp; the PCIe vendor, subsystem vendor and
subsystem IDs (R285) and the JTAG manufacturer code (R313). -/
structure Otp where
  step : Nat
  grade : Nat
  serial : Nat
  lcs : Nat
  updateKey : Option Nat
  serviceKey : Option Nat
  trim : Tab Word
  vendor : Nat
  subVendor : Nat
  subsystem : Nat
  maker : Nat
  deriving DecidableEq, Repr

/-- A device as shipped: stepping A0, grade AI, FIELD, programmed (DESIGN CHOICE: the spec gives no OTP contents). -/
def Otp.reset : Otp := ⟨1, 1, 1, 2, some 0, some 0, [], 0, 0, 0, 0⟩

/-- The state of the block. `regs` holds the registers by BAR0 offset as the host reads them (staged values, flags and
status words); `live` holds the committed values of the staged registers; `hostMem` is host memory as the block sees it over
PCIe; `free` counts the free values drawn so far. -/
structure State where
  regs : Tab Word
  live : Tab Word
  lamps : Lamps
  weir : Weir
  chain : Chain
  fab : Fabric
  host : HostIf
  fio : FieldIf
  msr : Measure
  flt : Collector
  clk : Clocks
  pwr : Power
  bist : Bist
  upd : Update
  otp : Otp
  hostMem : List Host.Cell
  free : Nat
  pending : List Instr
  deriving DecidableEq, Repr

/-- The Host.Outcome of this block. -/
abbrev Out := Host.Outcome State Fault Refusal

/-- The reset value of a register (the Reset column of its table), 0 where no register is (R13). The rows whose reset
value depends on the index: HOST_SRCCFG.VEC = s, FAB_PCFG.LIMIT by producer, FLT_CCFG0 by code (R369, R376). -/
def regReset (off : Nat) : Word :=
  match findRow off with
  | none => 0
  | some r =>
    let i := (off - r.base) / r.stride
    if r.base = Reg.hostSrccfg 0 then word (r.reset + i)
    else if r.base = Reg.fabPcfg 0 then word (([0x400, 0x100, 0x080, 0x100, 0x100, 0x200] : List Nat).getD i 0)
    else if r.base = Reg.fltCcfg0 0 then
      match codeRow (codeOfIdx i) with
      | some c => word (c.sev + 16 * defaultReact c.sev)
      | none => 0
    else if r.base = Reg.fltCcfg1 0 then
      match codeRow (codeOfIdx i) with
      | some _ => word r.reset
      | none => 0
    else word r.reset

/-- The block right after a power-on reset (R428, R434): every register and unit at its reset value, rails not yet sequenced, no
command waiting. -/
def State.reset : State :=
  ⟨[], [], .reset, .reset, .reset, .reset, .reset, .reset, .reset, .reset, .reset, .reset, { Bist.reset with lcs := Otp.reset.lcs },
   .reset, .reset, [], 0, []⟩

end Sys2Proof.Machine
end

