-- ==== Sys2Proof/Machine/Ops.lean ====
section
/-! DEFINITION. Named operations over the state: registers, committed values, sparse tables, host memory, interrupts,
detector reports, service state, free values. Every meaning is written over these. -/

namespace Sys2Proof.Machine

/-- A command's effect as an outcome: the block goes on with the state t. -/
abbrev done (t : State) : Out := .next t

/-- A change made only when a condition holds. -/
def State.when (s : State) (c : Bool) (f : State → State) : State := if c then f s else s

/-- A change made for each number of a list, in order. -/
def State.each {α : Type} (s : State) (l : List α) (f : State → α → State) : State := l.foldl f s

/-- The device time counter (R11, R34). -/
abbrev State.now (s : State) : Nat := s.clk.time

/-- TCLK ticks counted while PLL-A runs, with no step or restart: what the intervals of everything that it clocks are measured with. -/
abbrev State.mono (s : State) : Nat := s.clk.ticks

/-- Ticks counted whether PLL-A runs or not: what the intervals of the power domain are measured with. -/
abbrev State.wall (s : State) : Nat := s.clk.wall

/-- Whether an interval of n ticks since a tick count has passed. -/
def State.past (s : State) (since n : Nat) : Bool := decide (since + n ≤ s.mono)

/-- Whether an interval of n ticks has passed since a tick count of the power domain, which runs without PLL-A. -/
def State.pastWall (s : State) (since n : Nat) : Bool := decide (since + n ≤ s.wall)

/-- The CCLK of now: two TCLK (R25). -/
def State.cclk (s : State) : Nat := s.mono / 2

/-- TCLK ticks in a number of microseconds (640 MHz, R25). -/
def usTicks (n : Nat) : Nat := 640 * n

/-- TCLK ticks in a number of milliseconds. -/
def msTicks (n : Nat) : Nat := 640000 * n

/-- A free number and the state after it was drawn. -/
def State.draw (s : State) : Nat × State := (Config.freeNat s.free, { s with free := s.free + 1 })

/-- A register as the register file holds it; unlisted registers read their reset value. -/
def State.reg (s : State) (off : Nat) : Word := Tab.get regReset s.regs off

/-- The register file with one register written. -/
def State.setReg (s : State) (off : Nat) (v : Word) : State := { s with regs := Tab.put regReset s.regs off v }

/-- A field of a register. -/
def State.fld (s : State) (off lo n : Nat) : Nat := field (s.reg off) lo n

/-- A field of a register replaced. -/
def State.setFld (s : State) (off lo n v : Nat) : State := s.setReg off (setField (s.reg off) lo n v)

/-- One bit of a register. -/
def State.bit (s : State) (off b : Nat) : Bool := s.fld off b 1 == 1

/-- One bit of a register written. -/
def State.setBit (s : State) (off b : Nat) (v : Bool) : State := s.setFld off b 1 (flag v)

/-- A counter field of a register incremented, saturating. -/
def State.incFld (s : State) (off lo n : Nat) : State := s.setFld off lo n (satAdd n (s.fld off lo n) 1)

/-- The committed value of a staged register (R64, R94). -/
def State.liveReg (s : State) (off : Nat) : Word := Tab.get regReset s.live off

/-- A field of a committed value. -/
def State.cfg (s : State) (off lo n : Nat) : Nat := field (s.liveReg off) lo n

/-- A committed value written. -/
def State.setLive (s : State) (off : Nat) (v : Word) : State := { s with live := Tab.put regReset s.live off v }

/-! The sections of the state, each changed by a function. -/

def State.onLamps (s : State) (f : Lamps → Lamps) : State := { s with lamps := f s.lamps }
def State.onWeir (s : State) (f : Weir → Weir) : State := { s with weir := f s.weir }
def State.onChain (s : State) (f : Chain → Chain) : State := { s with chain := f s.chain }
def State.onFab (s : State) (f : Fabric → Fabric) : State := { s with fab := f s.fab }
def State.onHost (s : State) (f : HostIf → HostIf) : State := { s with host := f s.host }
def State.onFlt (s : State) (f : Collector → Collector) : State := { s with flt := f s.flt }
def State.onClk (s : State) (f : Clocks → Clocks) : State := { s with clk := f s.clk }
def State.onMsr (s : State) (f : Measure → Measure) : State := { s with msr := f s.msr }
def State.onBist (s : State) (f : Bist → Bist) : State := { s with bist := f s.bist }
def State.onUpd (s : State) (f : Update → Update) : State := { s with upd := f s.upd }
def State.onPwr (s : State) (f : Power → Power) : State := { s with pwr := f s.pwr }

/-! The units of the sparse tables: read, written, changed. -/

def State.str (s : State) (i : Nat) : Str := Tab.get (fun _ => Str.reset) s.lamps.strs i
def State.setStr (s : State) (i : Nat) (v : Str) : State :=
  s.onLamps (fun l => { l with strs := Tab.put (fun _ => Str.reset) l.strs i v })
def State.onStr (s : State) (i : Nat) (f : Str → Str) : State := s.setStr i (f (s.str i))

def State.group (s : State) (g : Nat) : Group := Tab.get (fun _ => Group.reset) s.lamps.groups g
def State.setGroup (s : State) (g : Nat) (v : Group) : State :=
  s.onLamps (fun l => { l with groups := Tab.put (fun _ => Group.reset) l.groups g v })
def State.onGroup (s : State) (g : Nat) (f : Group → Group) : State := s.setGroup g (f (s.group g))

def State.stream (s : State) (i : Nat) : Stream := Tab.get (fun _ => Stream.reset) s.lamps.streams i
def State.setStream (s : State) (i : Nat) (v : Stream) : State :=
  s.onLamps (fun l => { l with streams := Tab.put (fun _ => Stream.reset) l.streams i v })
def State.onStream (s : State) (i : Nat) (f : Stream → Stream) : State := s.setStream i (f (s.stream i))

def State.ret (s : State) (i : Nat) : RetIn := Tab.get (fun _ => RetIn.reset) s.lamps.rets i
def State.setRet (s : State) (i : Nat) (v : RetIn) : State :=
  s.onLamps (fun l => { l with rets := Tab.put (fun _ => RetIn.reset) l.rets i v })
def State.onRet (s : State) (i : Nat) (f : RetIn → RetIn) : State := s.setRet i (f (s.ret i))

def State.prv (s : State) (i : Nat) : Prove := Tab.get (fun _ => Prove.reset) s.lamps.prove i
def State.setPrv (s : State) (i : Nat) (v : Prove) : State :=
  s.onLamps (fun l => { l with prove := Tab.put (fun _ => Prove.reset) l.prove i v })
def State.onPrv (s : State) (i : Nat) (f : Prove → Prove) : State := s.setPrv i (f (s.prv i))

def State.smt (s : State) (i : Nat) : Smt := Tab.get (fun _ => Smt.reset) s.weir.smt i
/-- An SMT entry written by the ZT512: GEN increments, wrapping, at every write of any field (R170). -/
def State.setSmt (s : State) (i : Nat) (v : Smt) : State :=
  s.onWeir (fun w => { w with smt := Tab.put (fun _ => Smt.reset) w.smt i v })
/-- An entry changed in one CCLK: DEC.GEN increments, wrapping, when any field changes (R170). DESIGN CHOICE (log entry 95): a write that
leaves every field at its value does not count. -/
def State.onSmt (s : State) (i : Nat) (f : Smt → Smt) : State :=
  if f (s.smt i) = s.smt i then s else s.setSmt i { f (s.smt i) with gen := wrap 16 ((s.smt i).gen + 1) }

def State.arm (s : State) (a : Nat) : Arm := Tab.get Arm.reset s.weir.arms a
def State.setArm (s : State) (a : Nat) (v : Arm) : State :=
  s.onWeir (fun w => { w with arms := Tab.put Arm.reset w.arms a v })
def State.onArm (s : State) (a : Nat) (f : Arm → Arm) : State := s.setArm a (f (s.arm a))

def State.unit (s : State) (u : Nat) : ArmUnit := Tab.get ArmUnit.reset s.weir.units u
def State.setUnit (s : State) (u : Nat) (v : ArmUnit) : State :=
  s.onWeir (fun w => { w with units := Tab.put ArmUnit.reset w.units u v })
def State.onUnit (s : State) (u : Nat) (f : ArmUnit → ArmUnit) : State := s.setUnit u (f (s.unit u))

def State.engine (s : State) (e : Nat) : Engine := Tab.get Engine.reset s.fab.engines e
def State.setEngine (s : State) (e : Nat) (v : Engine) : State :=
  s.onFab (fun w => { w with engines := Tab.put Engine.reset w.engines e v })
def State.onEngine (s : State) (e : Nat) (f : Engine → Engine) : State := s.setEngine e (f (s.engine e))

def State.entry (s : State) (i : Nat) : Entry := Tab.get (fun _ => Entry.reset) s.fab.store i
def State.setEntry (s : State) (i : Nat) (v : Entry) : State :=
  s.onFab (fun w => { w with store := Tab.put (fun _ => Entry.reset) w.store i v })
def State.onEntry (s : State) (i : Nat) (f : Entry → Entry) : State := s.setEntry i (f (s.entry i))

def State.rlist (s : State) (i : Nat) : ReadyList := Tab.get (fun _ => ReadyList.reset) s.fab.lists i
def State.setRlist (s : State) (i : Nat) (v : ReadyList) : State :=
  s.onFab (fun w => { w with lists := Tab.put (fun _ => ReadyList.reset) w.lists i v })
def State.onRlist (s : State) (i : Nat) (f : ReadyList → ReadyList) : State := s.setRlist i (f (s.rlist i))

def State.producer (s : State) (i : Nat) : Producer := Tab.get (fun _ => Producer.reset) s.fab.producers i
def State.setProducer (s : State) (i : Nat) (v : Producer) : State :=
  s.onFab (fun w => { w with producers := Tab.put (fun _ => Producer.reset) w.producers i v })
def State.onProducer (s : State) (i : Nat) (f : Producer → Producer) : State := s.setProducer i (f (s.producer i))

def State.strm (s : State) (i : Nat) : Strm := Tab.get (fun _ => Strm.reset) s.fab.strms i
def State.setStrm (s : State) (i : Nat) (v : Strm) : State :=
  s.onFab (fun w => { w with strms := Tab.put (fun _ => Strm.reset) w.strms i v })
def State.onStrm (s : State) (i : Nat) (f : Strm → Strm) : State := s.setStrm i (f (s.strm i))

def State.queue (s : State) (q : Nat) : Queue := Tab.get (fun _ => Queue.reset) s.host.queues q
def State.setQueue (s : State) (q : Nat) (v : Queue) : State :=
  s.onHost (fun h => { h with queues := Tab.put (fun _ => Queue.reset) h.queues q v })
def State.onQueue (s : State) (q : Nat) (f : Queue → Queue) : State := s.setQueue q (f (s.queue q))

def State.code (s : State) (c : Nat) : CodeSt := Tab.get (fun _ => CodeSt.reset) s.flt.codes c
def State.setCode (s : State) (c : Nat) (v : CodeSt) : State :=
  s.onFlt (fun w => { w with codes := Tab.put (fun _ => CodeSt.reset) w.codes c v })
def State.onCode (s : State) (c : Nat) (f : CodeSt → CodeSt) : State := s.setCode c (f (s.code c))

def State.conv (s : State) (ad : Nat) : Conv := Tab.get (fun _ => Conv.reset) s.msr.convs ad
def State.setConv (s : State) (ad : Nat) (v : Conv) : State :=
  s.onMsr (fun m => { m with convs := Tab.put (fun _ => Conv.reset) m.convs ad v })
def State.onConv (s : State) (ad : Nat) (f : Conv → Conv) : State := s.setConv ad (f (s.conv ad))

def State.acc (s : State) (i : Nat) : AccSet := Tab.get (fun _ => AccSet.reset) s.msr.sets i
def State.setAcc (s : State) (i : Nat) (v : AccSet) : State :=
  s.onMsr (fun m => { m with sets := Tab.put (fun _ => AccSet.reset) m.sets i v })
def State.onAcc (s : State) (i : Nat) (f : AccSet → AccSet) : State := s.setAcc i (f (s.acc i))

/-- One die link. -/
def State.die (s : State) (d : Nat) : DieLink := if d = 0 then s.clk.die0 else s.clk.die1
def State.onDie (s : State) (d : Nat) (f : DieLink → DieLink) : State :=
  s.onClk (fun c => if d = 0 then { c with die0 := f c.die0 } else { c with die1 := f c.die1 })

/-- What a byte of host memory that nothing has written reads as (DESIGN CHOICE: 0). -/
def hostDefault (_ : Nat) : Byte := 0

/-- A byte of host memory. -/
def State.hostByte (s : State) (a : Nat) : Byte := Tab.get hostDefault s.hostMem a

/-- Bytes of host memory from an address on, by DMA. -/
def State.dmaRead (s : State) (a n : Nat) : List Byte := (List.range n).map (fun i => s.hostByte (a + i))

/-- One byte of host memory written. -/
def State.setHostByte (s : State) (a : Nat) (b : Byte) : State := { s with hostMem := Tab.put hostDefault s.hostMem a b }

/-- Bytes written to host memory from an address on, by DMA. -/
def State.dmaWrite (s : State) (a : Nat) : List Byte → State
  | [] => s
  | b :: bs => (s.setHostByte a b).dmaWrite (a + 1) bs

/-- Host memory is in its canonical form. -/
abbrev Memory.wf (m : List Host.Cell) : Prop := Tab.wf hostDefault m = true

/-! Interrupts (R307 to R309). -/

/-- Whether MSI-X is enabled by the host (HOST_STAT.MSIXEN). -/
def State.msixEnabled (s : State) : Bool := s.bit Reg.hostStat 1

/-- Whether a vector sends messages: MSI-X is enabled, the vector is unmasked, and the function is not in D3hot (R285, R309). -/
def State.vectorOpen (s : State) (v : Nat) : Bool :=
  s.msixEnabled && !s.host.funcMask && !(Tab.get (fun _ => MsixEntry.reset) s.host.msix v).masked && !s.host.d3

/-- A vector triggered under the rules of the MSI-X capability (R309): a message is sent when MSI-X is enabled and the
vector unmasked, and the pending bit is set otherwise. Events of a vector in one tick, so before its message is sent, are merged. -/
def State.triggerVector (s : State) (v : Nat) : State :=
  if s.vectorOpen v then
    if Tab.get (fun _ => 0) s.host.sentAt v = s.wall + 1 then s
    else s.onHost (fun h => { h with messages := v :: h.messages, sentAt := Tab.put (fun _ => 0) h.sentAt v (s.wall + 1) })
  else s.onHost (fun h => { h with pba := Tab.put (fun _ => false) h.pba v true })

/-- An event of an interrupt source (R308, R309): its bit of HOST_IPEND, and its vector when HOST_SRCCFG.MSIX is 1. -/
def State.irq (s : State) (src : Nat) : State :=
  let t := if src < 32 then s.setBit Reg.hostIpend0 src true else s.setBit Reg.hostIpend1 (src - 32) true
  if t.bit (Reg.hostSrccfg src) 12 then t.triggerVector (t.fld (Reg.hostSrccfg src) 0 6) else t

/-- Whether IRQ_N[k] is driven low (R308). -/
def State.irqPin (s : State) (k : Nat) : Bool :=
  (List.range 42).any (fun src =>
    (if src < 32 then s.bit Reg.hostIpend0 src else s.bit Reg.hostIpend1 (src - 32)) && s.bit (Reg.hostSrccfg src) (8 + k))

/-! Detector reports (R364, R365, R368). -/

/-- A report with no submodule, no arm and no data. -/
def Report.plain (code inst time : Nat) : Report := ⟨code, inst, none, none, 0, 0, time, false, false⟩

/-- A cause made present. -/
def State.addCause (s : State) (code inst : Nat) : State :=
  s.onFlt (fun f => if (code, inst) ∈ f.causes then f else { f with causes := (code, inst) :: f.causes })

/-- Whether any cause of a code is present. -/
def State.causePresent (s : State) (code : Nat) : Bool := s.flt.causes.any (fun c => c.1 == code)

/-- The instance under which the WIRE of a detector pair is held as a cause (R366). -/
def wireInst (pair : Nat) : Nat := 0x10000 + pair

/-- Whether a WIRE of a code is present (R366). -/
def State.wirePresent (s : State) (code : Nat) : Bool := s.flt.causes.any (fun c => c.1 == code && decide (0x10000 ≤ c.2))

/-- A detector asserts (R364): its report waits for the collector's sample; the cause of a condition code, or of an event
code with a lasting cause, is present from now on (R368). -/
def State.report (s : State) (r : Report) : State :=
  let t := s.onFlt (fun f => { f with asserted := f.asserted ++ [r] })
  match codeRow r.code with
  | some c => if c.condition || c.lasting then t.addCause r.code r.inst else t
  | none => t

/-- A report with instance only, at the present device time. -/
def State.reportNow (s : State) (code inst : Nat) : State := s.report (.plain code inst s.now)

/-! Husk and service state (R380, R464, R465). -/

/-- Whether a code is not IDLE. -/
def State.held (s : State) (code : Nat) : Bool := (s.code code).state != .idle

/-- Whether a code holds a device husk (R380). -/
def State.devFlt (s : State) : Bool := codeTable.any (fun r => s.held r.code && (s.code r.code).devh)

/-- Whether a boundary-scan instruction that husks the device is in force (R313): selected while the device is compliant. -/
def tapScans : TapIns → Bool
  | .extest | .clamp | .highz => true
  | _ => false

/-- The life-cycle state in force (R410). -/
abbrev State.lcs (s : State) : Nat := s.bist.lcs

/-- Whether the device is compliant with IEEE 1149.1 (R313): MANUFACTURE, or SCAN_EN in MAINT or SEED. -/
def State.scanCompliant (s : State) : Bool :=
  s.lcs == 0 || (s.bit Reg.hostCtl 2 && (s.pwr.boot == .seed ||
    (s.pwr.boot == .ready && s.pwr.base == .maint && s.pwr.phase != .save && s.pwr.phase != .saved)))

/-- Whether EXTEST, CLAMP or HIGHZ is in force (R313). -/
def State.scanHusk (s : State) : Bool := tapScans s.host.tap && s.scanCompliant

/-- What the boundary-scan instruction drives on the output pins that the boundary register covers (R313): none where the device drives
them, `some none` where they are released. -/
def State.scanPins (s : State) : Option (Option ScanCells) :=
  if !s.scanCompliant then none
  else match s.host.tap with
    | .extest | .clamp => some (some s.host.scan)
    | .highz => some none
    | _ => none

/-- The IDCODE word (R313). -/
def State.idcode (s : State) : Word := pack [(0, 1), (1, s.otp.maker % 2 ^ 11), (12, 0x0512), (28, s.otp.step)]

/-- Whether the device husk holds (R380). -/
def State.devHusk (s : State) : Bool :=
  s.devFlt || s.bit Reg.fltHold 8 || s.scanHusk || s.held Code.chainLost

/-- Whether the arm husk of arm a holds (R380). -/
def State.armHusk (s : State) (a : Nat) : Bool :=
  s.bit Reg.fltHold a || codeTable.any (fun r => s.held r.code && (s.code r.code).arms.testBit a)

/-- Whether the power phase is SAVE or SAVED: the device is SAVED for commands (R424, R464). -/
def State.saved (s : State) : Bool := s.pwr.phase == .save || s.pwr.phase == .saved

/-- The service state (R464), none from reset release until RUN-ready, SEED or HALT. -/
def State.service (s : State) : Option Service :=
  match s.pwr.boot with
  | .inReset | .booting => none
  | .seed => some .seed
  | .halt => some .halt
  | .ready =>
    if s.saved then some .saved
    else if s.devHusk then some .husk
    else match s.pwr.base with
      | .run => some .run
      | .maint => some .maint

/-- Whether a rule's requirement for MAINT is met (R465): base state MAINT and the device not SAVED. -/
def State.inMaint (s : State) : Bool := s.pwr.boot == .ready && s.pwr.base == .maint && !s.saved

/-- Whether the controller die serves anything at all: out of reset and not in the clock loss of R501. -/
def State.serving (s : State) : Bool := s.service.isSome && !s.clk.lost

/-- Whether the register interfaces take writes: past boot, outside SEED and HALT, and not in the clock loss of R501. -/
def State.served (s : State) : Bool := s.pwr.boot == .ready && !s.clk.lost

end Sys2Proof.Machine
end

