-- ==== Sys2Proof/Machine/Operands.lean ====
section
/-! DEFINITION. Register writes as operands: what a written word leaves in a register by the access codes of its fields (R12 to
R16), and the writes that are not taken as a whole. -/

namespace Sys2Proof.Machine

/-- Whether a field's encoding table lists a value (R16). -/
def Fld.lists (f : Fld) (v : Nat) : Bool := f.ok.isEmpty || f.ok.any (fun r => decide (r.1 ≤ v) && decide (v ≤ r.2))

/-- One field of a register after a write of the word v (R12, R16): RW takes a listed value, W1C clears the bits written 1; RO, WO
and W1S hold nothing here. -/
def Fld.write (f : Fld) (old v : Word) : Word :=
  match f.acc with
  | .rw => if f.lists (field v f.lo f.len) then setField old f.lo f.len (field v f.lo f.len) else old
  | .w1c => setField old f.lo f.len ((field old f.lo f.len) &&& (2 ^ f.len - 1 - field v f.lo f.len))
  | .ro | .wo | .w1s => old

/-- A register after a write (R12, R14): every field together; reserved bits are ignored. -/
def RegRow.write (r : RegRow) (old v : Word) : Word := r.fields.foldl (fun w f => f.write w v) old

/-- A write of a register by its access codes; an offset that no register occupies is ignored (R13). -/
def State.writeReg (s : State) (off : Nat) (v : Word) : State :=
  match findRow off with
  | some r => s.setReg off (r.write (s.reg off) v)
  | none => s

/-- Whether a write to FIO_FCFG is taken: THR_OFF < THR_ON ≤ TOP (R317). -/
def filterTaken (v : Word) : Bool := decide (field v 8 8 < field v 16 8) && decide (field v 16 8 ≤ field v 24 8)

/-- Whether a write to TRIB_CFG is taken: no write leaves CYC below TSYNC (R231); fields not listed keep their values. -/
def chainCfgTaken (new : Word) : Bool := decide (field new 16 12 ≥ field new 8 6)

end Sys2Proof.Machine
end

