-- ==== Sys2Proof/Machine/Causes.lean ====
section
/-! DEFINITION. How the causes of fault codes end and what state a code then takes (R368, R371 to R375). -/

namespace Sys2Proof.Machine

/-- Whether a code is of the device class (R369). -/
def deviceClass (code : Nat) : Bool := match codeRow code with | some r => r.device | none => false

/-! Causes and code states (R371 to R375). -/

/-- A code back in IDLE: its husks, its output drive and its FLT release end (R372, R375). -/
def CodeSt.toIdle (c : CodeSt) : CodeSt :=
  { c with state := .idle, arms := 0, devh := false, foAct := false, fltRel := false, sev := none, huskTaken := false }

/-- The last cause of an ACTIVE code has ended (R371, R374): LATCHED for a device-class code or after a husk reaction, else
QUIET. -/
def State.leaveActive (s : State) (code : Nat) : State :=
  let c := s.code code
  if c.state == .active && !s.causePresent code then
    s.setCode code { c with
      state := if deviceClass code || c.huskTaken then .latched else .quiet, quietAt := s.mono }
  else s

/-- A cause ended: an assertion of it that waits for its sample still stands (R364). -/
def State.endCause (s : State) (code inst : Nat) : State :=
  (s.onFlt (fun f => { f with causes := f.causes.filter (fun c => !(c.1 == code && c.2 == inst)) })).leaveActive code

/-- Every cause of a code ended. -/
def State.endCauses (s : State) (code : Nat) : State :=
  (s.onFlt (fun f => { f with causes := f.causes.filter (fun c => c.1 != code) })).leaveActive code

/-! Fault injection (R391). -/

/-- Whether an injection of a kind is armed on a checker. -/
def State.injected (s : State) (checker kind : Nat) : Bool :=
  match s.flt.inj with
  | some j => j.checker == checker && j.kind == kind
  | none => false

/-- The injection ended: FLT_INJECT is no longer active. -/
def State.endInjection (s : State) : State :=
  match s.flt.inj with
  | some j =>
    let t := (s.onFlt (fun f => { f with inj := none })).endCause Code.fltInject j.checker
    if j.checker = 0x50 then t.endCause j.code j.inst else t
  | none => s

/-- One injected access taken; the injection ends with the last. -/
def State.takeInjection (s : State) : State :=
  match s.flt.inj with
  | some j => if j.remain ≤ 1 then s.endInjection else
      s.onFlt (fun f => { f with inj := some { j with remain := j.remain - 1, taken := j.taken + 1 } })
  | none => s

/-- A checker's error: where an injection of that kind is armed on the checker, it arises from an injected access, and the reports
it makes carry INJ. -/
def State.injecting (s : State) (checker kind : Nat) (f : State → State) : State :=
  if s.injected checker kind then
    ((f s).onFlt (fun c => { c with
      asserted := s.flt.asserted ++ (c.asserted.drop s.flt.asserted.length).map (fun r => { r with inj := true }) })).takeInjection
  else f s

end Sys2Proof.Machine
end

