-- ==== Sys2Proof/Machine/Packets.lean ====
section
/-! DEFINITION. The fields of command packets (R297, R298). -/

namespace Sys2Proof

/-- FLAGS.FENCE (R297). -/
def Packet.fence (p : Packet) : Bool := p.flags.getLsbD 3
/-- FLAGS.URGENT (R297). -/
def Packet.urgent (p : Packet) : Bool := p.flags.getLsbD 2
/-- FLAGS.DIR (R297): the ZT512 writes host memory. -/
def Packet.dir (p : Packet) : Bool := p.flags.getLsbD 1
/-- FLAGS.PTR (R297). -/
def Packet.hasPtr (p : Packet) : Bool := p.flags.getLsbD 0

/-- Parameter word i of a packet (R298): bytes from offset LEN on are taken as 0. -/
def Packet.word (p : Packet) (i : Nat) : Word :=
  if p.len.toNat ≤ 4 * i then 0
  else setField 0 0 (8 * min 4 (p.len.toNat - 4 * i)) ((p.words.getD i 0).toNat)

/-- The parameter bytes of a packet, 48 of them. -/
def Packet.params (p : Packet) : List Byte := bytesOf ((List.range 12).map p.word)

/-- Whether a packet came over the UART (R312). -/
def Packet.uart (p : Packet) : Bool := p.src == 255

end Sys2Proof
end

