-- ==== Sys2Proof/Machine/Record.lean ====
section
/-! DEFINITION. The recorder's shared operations: records, pages, the page allocator, triggers, captures (R258 to R269). -/

namespace Sys2Proof.Machine

/-- Units of 16 bytes in a page's data area (R264: 65,472 bytes). -/
def pageUnits : Nat := 4092

/-- Records a stream's input queue holds (R262). -/
def queueRecords : Nat := 512

/-- The pages a stream holds: ring, open page, captures (REC_SSTAT.PAGES). -/
def Strm.pages (t : Strm) : Nat :=
  t.ring.length + (if t.opened.isSome then 1 else 0) + (t.caps.map (fun c => c.pages.length)).sum +
  (match t.curCap with | some c => c.pages.length | none => 0)

/-- Whether a stream writes records (R265). -/
def Strm.writing (t : Strm) : Bool := t.state == .armed || t.state == .post || t.state == .run

/-- Units of a page that records may fill: one is kept free while the MARK of a missed trigger awaits the first page of the next capture
(R266; DESIGN CHOICE, log entry 97). -/
def Strm.room (t : Strm) : Nat := if t.missed > 0 then pageUnits - 1 else pageUnits

/-- Records moved from the head of the input queue into the open page while they fit; fuel bounds the moves. -/
def Strm.drain : Nat → Strm → Strm
  | 0, t => t
  | k + 1, t =>
    match t.opened, t.queue with
    | some p, r :: rs =>
      if p.units + r.units ≤ t.room then
        Strm.drain k { t with opened := some { p with recs := p.recs ++ [r] }, queue := rs }
      else t
    | _, _ => t

/-- Records dropped and counted (R262, R264). -/
def Strm.dropped (t : Strm) (n : Nat) : Strm :=
  { t with drops := satAdd 32 t.drops n, sinceDrop := t.sinceDrop + n, pageDrops := t.pageDrops + n }

/-- The records of a stream's open page. -/
def Strm.openRecs (t : Strm) : List Rec := (t.opened.map Page.recs).getD []

/-- A record written at its place (R262): after the last record of the open page and the input queue that stands before it, but never before
those of a backward step of the device time. Closed pages keep their order (DESIGN CHOICE, log entry 97). -/
def Strm.insert (t : Strm) (before : Rec → Bool) (r : Rec) : Strm :=
  let recs := t.openRecs
  let k := max t.fixed ((recs ++ t.queue).reverse.dropWhile (fun x => !before x)).length
  let u := if k < recs.length then { t with
      opened := t.opened.map (fun p => { p with recs := recs.take k }), queue := r :: recs.drop k ++ t.queue }
    else { t with queue := t.queue.take (k - recs.length) ++ r :: t.queue.drop (k - recs.length) }
  u.drain u.queue.length

/-- A record placed by its timestamp and rank, without a filter (R262, R266). -/
def Strm.place (t : Strm) (r : Rec) : Strm := t.insert (fun x => x.before r) r

/-- Whether a stream can write a record: its queue has room and it has an open page (R262, R264). -/
def Strm.canWrite (t : Strm) : Bool := t.opened.isSome && decide (t.queue.length < queueRecords)

/-- FLAGS of a record (R263): whether it is at or after the trigger of the capture that is being taken. -/
def Strm.flags (t : Strm) (time : Nat) : Nat :=
  match t.curCap with
  | some c => flag (decide (c.time ≤ time))
  | none => 0

/-- A record offered to one stream (R262, R263): written, after the GAP record of those dropped before it, or dropped when its queue is
full or no page can be had. -/
def Strm.offer (t : Strm) (r : Rec) : Strm :=
  let u := if t.sinceDrop > 0 && t.canWrite then
      ({ t with sinceDrop := 0, gapDue := t.gapDue + 1 }).insert (fun x => decide (x.time ≤ r.time))
        ⟨r.time, 0x7E, t.flags r.time, wrap 32 t.sinceDrop⟩
    else t
  if u.canWrite then u.place { r with flags := t.flags r.time } else u.dropped 1

/-- A record of a source offered to every stream of that source whose filter passes it (R261). The recorder runs in every
service state but SEED and stops at SAVED (R266, R270). -/
def State.record (s : State) (source : Nat) (pass : Word → Bool) (r : Rec) : State :=
  if s.pwr.phase == .saved || s.pwr.boot == .seed then s
  else s.each (List.range 16) (fun s i =>
    let t := s.strm i
    if t.writing && t.source == source && pass t.filter then
      let t' := t.offer r
      (s.setStrm i t').when (t'.drops != t.drops) (fun s => s.setBit (Reg.recSstat i) 28 true)
    else s)

/-- The filter of a lamp range [8:0] to [24:16] (R261). -/
def lampPass (lamp : Nat) (w : Word) : Bool := decide (field w 0 9 ≤ lamp) && decide (lamp ≤ field w 16 9)

/-- A LAMP_EDGE record (R263): lamp, lamp time, lit, and whether the lamp die acted on its own. -/
def State.recEdge (s : State) (lamp time : Nat) (lit own : Bool) : State :=
  s.record 1 (lampPass lamp) ⟨time, 0x01, 0, lamp + 0x200 * flag lit + 0x400 * flag own⟩

/-- The voltage code of a voltage in mV (R127), kept to 7 bits. -/
def voltCode (mv : Nat) : Nat := min ((mv - 500) / 50) 127

/-- A PROVE record (R263). -/
def State.recProve (s : State) (lamp method verdict mv : Nat) (epoch : Nat) (retired : Bool) : State :=
  s.record 2 (fun w => lampPass lamp w && (field w 26 6 == 0 || (field w 26 6).testBit method))
    ⟨s.now, 0x02, 0, lamp + 0x200 * method + 0x1000 * verdict + 0x8000 * voltCode mv + 0x400000 * epoch +
      0x4000000000 * flag retired⟩

/-- A DISTURB record (R263): string, ended with a retirement, length in TCLK saturating; stamped with its start. -/
def State.recDisturb (s : State) (str start len : Nat) (retired : Bool) : State :=
  s.record 2 (fun w => (List.range 4).any (fun p => lampPass (4 * str + p) w))
    ⟨start, 0x03, 0, str + 0x80 * flag retired + 0x100 * min len 0xFFFF⟩

/-- A WEIR_CHG record (R263). -/
def State.recChange (s : State) (sm : Nat) (aspect : Nat) (pwm : Bool) (duty arm : Nat) : State :=
  s.record 4 (fun w => (field w 0 8).testBit arm && wbit w 8)
    ⟨s.now, 0x06, 0, sm + 0x1000 * aspect + 0x4000 * flag pwm + 0x8000 * duty + 0x80000000 * arm⟩

/-- A field I/O record (R263): kind, channel, state after the event, event code. -/
def State.recFio (s : State) (kind channel : Nat) (state : Bool) (event : Nat) : State :=
  s.record 5 (fun w => if kind = 0 then wbit w 16 else if kind = 1 then (field w 0 16).testBit channel else wbit w 17)
    ⟨s.now, 0x07, 0, kind + 4 * channel + 0x80 * flag state + 0x100 * event⟩

/-- A RETURN record (R263), stamped with RTIME. -/
def State.recReturn (s : State) (sm rxl status vcap temp echo time : Nat) : State :=
  s.record 3 (fun w => decide (field w 0 9 ≤ rxl) && decide (rxl ≤ field w 16 9))
    ⟨time, 0x84, 0, sm + 2 ^ 12 * rxl + 2 ^ 21 * status + 2 ^ 29 * vcap + 2 ^ 45 * temp + 2 ^ 53 * echo⟩

/-! Pages (R260, R264). -/

/-- Pages the recorder holds over all streams. -/
def State.recPages (s : State) : Nat := ((List.range 16).map (fun i => (s.strm i).pages)).sum

/-- Free pages (FAB_DSTAT.FREE). -/
def State.freePages (s : State) : Nat := s.fab.dram.total - s.fab.dram.fresh + s.fab.dram.back.length

/-- Pages in use by a user: 0 REC, 1 UPD, 2 LOG. -/
def State.usedPages (s : State) (u : Nat) : Nat :=
  if u = 0 then s.recPages else if u = 1 then s.fab.dram.usedUpd else s.fab.dram.logPages.length

/-- A page taken for a user, none when it is at its quota or the free list is empty (R260). -/
def State.allocPage (s : State) (u : Nat) : Option (Nat × State) :=
  if s.usedPages u ≥ s.fld (Reg.fabAquota u) 0 17 then none
  else match s.fab.dram.back with
    | p :: ps => some (p, s.onFab (fun f => { f with dram := { f.dram with back := ps } }))
    | [] =>
      if s.fab.dram.fresh < s.fab.dram.total then
        some (s.fab.dram.fresh, s.onFab (fun f => { f with dram := { f.dram with fresh := f.dram.fresh + 1 } }))
      else none

/-- Pages given back to the free list. -/
def State.freePagesBack (s : State) (ps : List Nat) : State :=
  s.onFab (fun f => { f with dram := { f.dram with back := ps ++ f.dram.back } })

/-- An allocation refusal counted per user (R260). -/
def State.countRefusal (s : State) (u : Nat) : State :=
  s.onFab (fun f => { f with dram :=
    if u = 0 then { f.dram with refRec := f.dram.refRec + 1 }
    else if u = 1 then { f.dram with refUpd := f.dram.refUpd + 1 }
    else { f.dram with refLog := f.dram.refLog + 1 } })

/-- A new open page of a stream, linked after the page before it (R264). -/
def Strm.openPage (t : Strm) (num : Nat) (prev : Option Nat) : Strm :=
  { t with
    opened := some ⟨num, match t.curCap with | some c => c.id | none => 0, t.seq, prev, none, [], false, false, false, 0, false⟩,
    seq := wrap 32 (t.seq + 1) }

/-- The open page closed and put at the end of the ring, or of the capture being taken. -/
def Strm.closePage (t : Strm) : Strm :=
  match t.opened with
  | none => t
  | some p =>
    let p' := { p with closed := true, drops := wrap 32 t.pageDrops }
    let u := { t with opened := none, pageDrops := 0, fixed := t.fixed - p.recs.length }
    match t.curCap with
    | some c => { u with curCap := some { c with pages := c.pages ++ [p'] } }
    | none => { u with ring := t.ring ++ [p'] }

/-- The most pages a stream's ring holds, the open one included: PRE + 1 when TRIGGERED, SQUOTA when CONTINUOUS (R265). -/
def Strm.ringMax (t : Strm) : Nat := if t.mode = 1 then t.quota else t.pre + 1

/-- The page of a full ring that is reused (R265): the oldest, and in CONTINUOUS mode the oldest unread one, or the oldest when all are
read (DESIGN CHOICE, log entry 97). -/
def Strm.victim (t : Strm) : Option Page :=
  if t.mode = 1 then (t.ring.find? (fun p => !p.read)).or t.ring.head? else t.ring.head?

/-- Whether a REC_READ that still runs copies a page (R268). -/
def State.pinned (s : State) (t : Strm) (num : Nat) : Bool :=
  t.pins.any (fun x => x.2.contains num && s.fab.store.any (fun e => e.2.state == .running && e.2.order == x.1))

/-- A page opened, and the records that wait written into it (R264). -/
def Strm.startPage (t : Strm) (num : Nat) (prev : Option Nat) : Strm :=
  let u := t.openPage num prev
  u.drain u.queue.length

/-- The next page of a stream opened (R264, R265, R268): a page of a full ring is reused unless it is pinned, otherwise a page is allocated;
a refusal reports ALLOC_EMPTY. A stream without an open page drops records. -/
def State.openNext (s : State) (i : Nat) : State :=
  let t := s.strm i
  if t.curCap.isNone && decide (t.ring.length ≥ t.ringMax) then
    match t.victim with
    | some p =>
      let rest := t.ring.filter (fun q => q.num != p.num)
      if s.pinned t p.num then s
      else s.setStrm i (({ t with ring := rest }).startPage p.num (rest.getLast?.map Page.num))
    | none => s
  else
    let prev := match t.curCap with
      | some c => c.pages.getLast?.map Page.num
      | none => t.ring.getLast?.map Page.num
    match s.allocPage 0 with
    | some (p, s') => s'.onStrm i (fun t => t.startPage p prev)
    | none => ((s.countRefusal 0).reportNow Code.allocEmpty 0).irq 40

/-- Capture ids run 1 to 255 and wrap, skipping ids still held (R266). -/
def Strm.freshId : Nat → Nat → List Nat → Nat
  | 0, k, _ => k
  | f + 1, k, held => if k ∈ held then Strm.freshId f (k % 255 + 1) held else k

/-- A MARK record (R263): cause, capture id, and for a fault its code and severity; only that of a missed trigger is before the trigger. -/
def markRec (time cause id code sev : Nat) : Rec :=
  ⟨time, 0x7F, flag (cause != 4), cause + 0x100 * id + (if cause = 0 then 0x10000 * code + 2 ^ 32 * sev else 0)⟩

/-- Whether a trigger of a cause has already placed its MARK in the CCLK of a time (R266: one MARK per cause). -/
def Strm.marked (t : Strm) (cause time : Nat) : Bool :=
  (t.openRecs ++ t.queue).any (fun r => r.type == 0x7F && r.payload % 8 == cause && r.time / 2 == time / 2)

/-- The records of a stream at or after a trigger flagged (R263). Closed pages stay as their CRC has them. -/
def Strm.flagFrom (t : Strm) (time : Nat) : Strm :=
  let f := fun (r : Rec) => if time ≤ r.time then { r with flags := 1 } else r
  { t with opened := t.opened.map (fun p => { p with recs := p.recs.map f }), queue := t.queue.map f }

/-- The ring of a stream made a capture (R265): its first page carries the start flag, and the MARK of the triggers missed in HELD (R266). -/
def Strm.startCapture (t : Strm) (id time cause : Nat) : Strm :=
  let first := fun (p : Page) => { p with
    capStart := true, recs := if t.missed > 0 then markRec t.missedAt 4 id 0 0 :: p.recs else p.recs }
  let pages := match t.ring with
    | p :: ps => first p :: ps
    | [] => []
  let opn := t.opened.map (fun p => let q := if t.ring.isEmpty then first p else p; { q with capture := id })
  { t with
    state := .post, ring := [], opened := opn, postLeft := t.post + 1, nextId := id % 255 + 1, missed := 0,
    fixed := if t.missed > 0 && t.ring.isEmpty && t.fixed > 0 then t.fixed + 1 else t.fixed,
    curCap := some ⟨id, time, cause, pages.map (fun p => { p with capture := id }), false⟩ }

/-- A trigger of one stream at a time (R265, R266): it starts a capture when ARMED, places a MARK of its own cause when it meets the
capture's trigger in one CCLK and one with cause 3 in POST otherwise, is counted in HELD, and places a MARK in CONTINUOUS mode. -/
def State.triggerOne (s : State) (i time cause code sev : Nat) : State :=
  let t := s.strm i
  match t.state with
  | .armed =>
    let id := Strm.freshId 255 t.nextId (t.caps.map Capture.id)
    (s.setStrm i (((t.startCapture id time cause).flagFrom time).place (markRec time cause id code sev))).irq 40
  | .post =>
    match t.curCap with
    | some c =>
      if c.time / 2 == time / 2 then
        if t.marked cause time then s
        else s.setStrm i (({ t with curCap := some { c with cause := min c.cause cause } }).place (markRec time cause c.id code sev))
      else s.setStrm i (t.place (markRec time 3 c.id 0 0))
    | none => s
  | .held => s.setStrm i { t with missed := t.missed + 1, missedAt := if t.missed = 0 then time else t.missedAt }
  | .run => if t.marked cause time then s else s.setStrm i (t.place (markRec time cause 0 code sev))
  | .off => s

/-- Streams triggered, then every stream of a GROUP whose cross-triggering is enabled together with a triggered one, each
once (R266). The recorder stands still while SAVED and in SEED. -/
def State.trigger (s : State) (streams : List Nat) (time cause code sev : Nat) : State :=
  let hit := streams.filter (fun i => (s.strm i).state != .off)
  let cross := (List.range 16).filter (fun j =>
    !(hit.contains j) && wbit (s.strm j).trg 13 && (s.strm j).state != .off &&
    hit.any (fun i => wbit (s.strm i).trg 13 && field (s.strm i).trg 8 3 == field (s.strm j).trg 8 3))
  if s.pwr.phase == .saved || s.pwr.boot == .seed then s
  else (s.each hit (fun s i => s.triggerOne i time cause code sev)).each cross (fun s i => s.triggerOne i time 2 0 0)

/-- A logged fault triggers, at the time of its report, the streams that ask for its severity or its code (R266). -/
def State.triggerFault (s : State) (code sev time : Nat) : State :=
  s.trigger ((List.range 16).filter (fun i =>
    let w := (s.strm i).trg
    (field w 0 3 ≤ 4 && decide (sev ≥ field w 0 3)) || (wbit w 15 && field w 16 16 == code))) time 0 code sev

/-- A host trigger of the masked streams whose HOST_EN is 1 (R266). -/
def State.triggerHost (s : State) (mask : Nat) : State :=
  s.trigger ((List.range 16).filter (fun i => mask.testBit i && wbit (s.strm i).trg 14)) s.now 1 0 0

/-- A backward step of the device time (R34, R36, R262): what the streams hold stands before what follows. -/
def State.sealRecords (s : State) : State :=
  s.each (List.range 16) (fun s i => s.onStrm i (fun t => { t with fixed := t.openRecs.length + t.queue.length }))

/-- The bytes of a record (R263). -/
def Rec.bytes (r : Rec) : List Byte :=
  leBytes 8 r.time ++ [BitVec.ofNat 8 r.type, BitVec.ofNat 8 r.flags] ++ leBytes (if r.long then 22 else 6) r.payload

/-- The link word of a page header: page number and valid wbit (R264). -/
def linkWord : Option Nat → Word
  | some p => word (p + 2 ^ 31)
  | none => 0

/-- The 60 header bytes of a page, with the next link as given (R264). -/
def Page.header (p : Page) (stream : Nat) (next : Option Nat) : List Byte :=
  bytesOf [pack [(0, 1), (8, stream), (16, p.capture)], word p.seq, linkWord p.prev, linkWord next] ++
  leBytes 8 ((p.recs.head?.map Rec.time).getD 0) ++ leBytes 8 ((p.recs.getLast?.map Rec.time).getD 0) ++
  bytesOf [word p.units, pack [(0, flag p.closed), (1, flag (p.recs.any Rec.triggers)), (2, flag (p.recs.any (fun r => r.type == 0x7E))),
    (3, flag p.capStart), (4, flag p.capEnd)], word p.drops, 0, 0, 0, 0]

/-- The bytes of a page's units used. -/
def Page.data (p : Page) : List Byte := p.recs.flatMap Rec.bytes

/-- The image of a closed page as DMA copies it (R264): header, CRC-32 over the header without the next link and over the
units used, records. -/
def Page.image (p : Page) (stream : Nat) : List Byte :=
  p.header stream p.next ++ leBytes 4 (crc32 (p.header stream none ++ p.data)) ++ p.data

end Sys2Proof.Machine
end

