-- ==== Sys2Proof/Machine/Tasks.lean ====
section
/-! DEFINITION. The task fabric's shared operations: deposits, refusals, ready lists, cancels, the order of command packets
(R241 to R248, R294). -/

namespace Sys2Proof.Machine

/-- The templates of the shipped firmware (R242): template, priority, budget (none: chosen per opcode), RETRY. -/
def templateTable : List (Nat × Nat × Option Nat × Bool) := [
  (0x01, 0, some 40, true), (0x02, 1, some 20, false), (0x03, 3, some 20, false), (0x04, 4, none, true),
  (0x05, 2, some 100, true), (0x06, 5, some 200, false), (0x07, 6, some 400, true), (0x08, 7, some 4095, true)]

/-- NEED of a template (R240, R242 give none). The producers of all templates but the update step deposit one operand for each task (R241),
so those need slot 0 (DEDUCED, log entry 96); the update step's own number is free. -/
def templateNeed (template : Nat) : Nat := if template = 0x08 then 2 ^ (1 + Config.stepSlots % 4) - 1 else 1

/-- The producer codes (R241). -/
inductive Producing where
  | ret | cmd | timer | fault | weir | engine
  deriving DecidableEq, Repr

/-- The code of a producer (R241). -/
def Producing.code : Producing → Nat
  | .ret => 0 | .cmd => 1 | .timer => 2 | .fault => 3 | .weir => 4 | .engine => 5

/-- Entries of the matching store that are not FREE. -/
def State.usedEntries (s : State) : Nat := s.fab.store.length

/-- Entries a producer holds in WAITING or READY (R246). -/
def State.heldBy (s : State) (k : Nat) : Nat :=
  (s.fab.store.filter (fun e => e.2.owner == k && (e.2.state == .waiting || e.2.state == .ready))).length

/-- The lowest free entry number. -/
def State.freeEntry (s : State) : Option Nat := firstIdx 2048 (fun i => (s.entry i).state == .free)

/-- A WAITING entry made READY: appended to the tail of its list (R241). -/
def State.makeReady (s : State) (i : Nat) : State :=
  (s.onEntry i (fun e => { e with state := .ready, rtime := wrap 32 s.now })).onRlist (s.entry i).prio
    (fun l => { l with entries := l.entries ++ [i] })

/-- Whether every packet fetched before order n that the test names has completed or been cancelled. -/
def State.noneBefore (s : State) (n : Nat) (p : Packet → Bool) : Bool :=
  s.fab.store.all (fun e =>
    match e.2.packet with
    | some q => !(decide (e.2.order < n) && p q)
    | none => true)

/-- Whether a waiting CMD_EXEC entry may become READY: the previous task of its queue is done and its completion written (R243, R253,
R292), and with FENCE every packet fetched before it (R294). -/
def State.cmdMayRun (s : State) (e : Entry) : Bool :=
  match e.packet with
  | some p => e.state == .waiting && (s.queue p.src).due.isEmpty && s.noneBefore e.order (fun q => q.src == p.src) &&
      (!p.fence || s.noneBefore e.order (fun _ => true))
  | none => false

/-- Every CMD_EXEC entry that may run made READY. -/
def State.promote (s : State) : State :=
  s.each (s.fab.store.filter (fun e => s.cmdMayRun e.2)) (fun s e => s.makeReady e.1)

/-- Whether a deposit that needs a new entry is refused (R246): no free entry for the producer, beyond the 32 kept for
FAULT, or the producer is at FAB_PCFG.LIMIT. -/
def State.noNewEntry (s : State) (k : Producing) : Bool :=
  decide (2048 - s.usedEntries ≤ (if k == .fault then 0 else 32)) ||
  decide (s.heldBy k.code ≥ s.fld (Reg.fabPcfg k.code) 0 12)

/-- Whether a ready list is at its limit (R246). -/
def State.listFull (s : State) (prio : Nat) : Bool :=
  decide ((s.rlist prio).entries.length ≥ s.fld (Reg.fabList prio) 0 12)

/-- A refusal counted for its producer (R247). -/
def State.refuseDeposit (s : State) (k : Producing) : State :=
  (s.onProducer k.code (fun p => { p with refusals := satAdd 32 p.refusals 1 })).incFld (Reg.fabPstat k.code) 16 16

/-- The entry of a deposit taken (R241): READY when every operand that it needs stands. -/
def State.readyWhenFull (s : State) (i : Nat) : State :=
  let e := s.entry i
  if e.packet.isNone && e.state == .waiting && e.filled == e.need then s.makeReady i else s

/-- A deposit counted for its producer (R272), with whether it overwrote an operand. -/
def State.countDeposit (s : State) (k : Producing) (again : Bool) : State :=
  s.onProducer k.code (fun p => { p with
    deposits := satAdd 32 p.deposits 1, overwrites := satAdd 32 p.overwrites (flag again) })

/-- A deposit of an operand for a template, key and slot (R241, R246), with the command packet of a CMD_EXEC task: it fills a slot of the
WAITING entry of that template and key, or of a new entry. Answers none when it is refused: it needs a new entry, or would make an entry
READY, and its producer has no free entry or is at its limit, or the list is at its limit. -/
def State.deposit (s : State) (k : Producing) (template key slot data : Nat) (packet : Option (Packet × Nat)) :
    Option State :=
  let d : Slot := ⟨data, k.code, false, s.now⟩
  match s.fab.store.find? (fun e => e.2.state == .waiting && e.2.template == template && e.2.key == key) with
  | some (i, e) =>
    let f := e.fill slot d
    if e.packet.isNone && f.filled == f.need && (s.noNewEntry k || s.listFull e.prio) then none
    else some (((s.setEntry i f).countDeposit k (e.slot slot).isSome).readyWhenFull i)
  | none =>
    match templateTable.find? (fun t => t.1 == template), s.freeEntry with
    | some (_, prio, budget, retry), some i =>
      let b := match budget with
        | some n => (n, s)
        | none => let d := s.draw; (20 + d.1 % 4076, d.2)
      let e := Entry.fill ⟨.waiting, template, prio, retry, wrap 24 key, templateNeed template, 0, b.1, false, 0, 0, none, none, none, none,
        k.code, packet.map Prod.fst, (packet.map Prod.snd).getD 0, s.fab.order, none, false, false⟩ slot d
      if s.noNewEntry k || ((if packet.isNone then e.filled == e.need else s.cmdMayRun e) && s.listFull prio) then none
      else
        let t := ((b.2.setEntry i e).onFab (fun f => { f with order := f.order + 1 })).countDeposit k false
        some (if packet.isNone then t.readyWhenFull i else t.promote)
    | _, _ => none

/-- An entry freed and taken from its ready list; a cancelled or completed command packet releases its queue (R243, R248). -/
def State.freeTask (s : State) (i : Nat) : State :=
  ((s.setEntry i .reset).each (List.range 8) (fun s p =>
    if (s.rlist p).entries.contains i then s.onRlist p (fun l => { entries := l.entries.erase i, lagging := l.lagging && l.entries.head? != some i })
    else s)).promote

/-- Whether an entry became READY in this CCLK (R240: RTIME). -/
def State.readyNow (s : State) (e : Entry) : Bool := e.state == .ready && e.rtime / 2 == wrap 32 s.now / 2

/-- A cancel of a named entry (R248, R254): a WAITING or READY task is freed, and CANCEL_RACE counts for one that became READY in this CCLK,
or CANCEL_LATE for one that this CCLK's overrun put back; a RUNNING one goes on and CANCEL_LATE counts. -/
def State.cancelTask (s : State) (i : Nat) : State :=
  let e := s.entry i
  match e.state with
  | .waiting => s.freeTask i
  | .ready => (s.when (s.readyNow e) (fun s => s.incFld Reg.fabCancel (if e.retried then 16 else 0) 16)).freeTask i
  | .running => (s.incFld Reg.fabCancel 16 16).onEntry i (fun e => { e with cancelAt := some (s.mono / 2) })
  | .free => s

/-- Every task of a template and key cancelled. -/
def State.cancelKey (s : State) (template key : Nat) : State :=
  s.each (s.fab.store.filter (fun e => e.2.template == template && e.2.key == wrap 24 key)) (fun s e => s.cancelTask e.1)

/-- The command packets of a queue that are fetched and not started, oldest first: (entry, order, packet). -/
def State.notStarted (s : State) (q : Nat) : List (Nat × Entry) :=
  sortBy (fun a b => decide (a.2.order < b.2.order)) (s.fab.store.filter (fun e =>
    (e.2.state == .waiting || e.2.state == .ready) &&
    (match e.2.packet with | some p => p.src == q | none => false)))

/-- The running CMD_EXEC entry of a packet. -/
def State.runningEntry (s : State) (p : Packet) : Option (Nat × Entry) :=
  s.fab.store.find? (fun e => e.2.state == .running && e.2.packet == some p)

/-- Whether a command of an opcode whose packet the test admits has been executed by a task that has not yet completed it (R200, R268). -/
def State.opRuns (s : State) (op : Op) (p : Packet → Bool) : Bool :=
  s.fab.store.any (fun e => e.2.state == .running && e.2.opcode == op.code && e.2.packet.any p &&
    s.host.results.any (fun r => r.1 == e.2.order))

end Sys2Proof.Machine
end

