-- ==== Sys2Proof/Machine/Command.lean ====
section
/-! DEFINITION. Command packets: the header checks (R299), the replies (R300, R301), the UART framing (R311), and the shape
of every command. -/

namespace Sys2Proof.Machine

/-- The two bytes of a CRC, high byte first. -/
def crcBytes (n : Nat) : List Byte := [BitVec.ofNat 8 (n / 256), BitVec.ofNat 8 n]

/-- Byte stuffing between the flags of a UART frame (R311). -/
def stuff (bs : List Byte) : List Byte :=
  bs.flatMap (fun b => if b = 0x7E ∨ b = 0x7D then [0x7D, b ^^^ 0x20] else [b])

/-- A UART frame (R311): flag, stuffed TYPE, payload and CRC, flag. -/
def uartFrameOf (type : Byte) (payload : List Byte) : List Byte :=
  [0x7E] ++ stuff (type :: payload ++ crcBytes (crc16 (type :: payload))) ++ [0x7E]

/-- The 32 bytes of a status reply with PHASE (R300). -/
def Reply.bytes (r : Reply) (phase : Bool) : List Byte :=
  [r.tag, r.hdrQueue, BitVec.ofNat 8 r.status, BitVec.ofNat 8 r.detail] ++ leBytes 2 r.opcode ++ leBytes 2 r.sqhead ++
  bytesOf ((List.range 5).map (fun i => r.data.getD i 0)) ++ bytesOf [pack [(0, flag phase), (16, r.exec)]]

/-- The continuation payloads of long reply data (R311): index 0 to 255, then up to 63 bytes. -/
def continuations : Nat → Nat → List Byte → List (List Byte)
  | 0, _, _ => []
  | f + 1, k, bs => if bs.isEmpty then [] else (BitVec.ofNat 8 k :: bs.take 63) :: continuations f (k + 1) (bs.drop 63)

/-- A completion that falls due (R292, R312): queued for its CQ, or sent over the UART with its continuations. -/
def State.complete (s : State) (r : Reply) : State :=
  let t := s.onQueue r.queue (fun q => { q with
    completed := satAdd 32 q.completed 1, doneTags := if q.doneTags.contains r.tag then q.doneTags else r.tag :: q.doneTags })
  if r.queue = 255 then
    t.onHost (fun h => { h with uartOut := ((continuations 256 0 r.long).map (uartFrameOf 0x03)).reverse ++
      (uartFrameOf 0x02 (r.bytes false) :: h.uartOut) })
  else t.onQueue r.queue (fun q => { q with due := q.due ++ [r] })

/-- Whether a command of an opcode may be executed for a packet (R304): its task runs that opcode and has not executed it yet. A packet
that no task runs is executed as it comes. -/
def State.mayExecute (s : State) (op : Op) (p : Packet) : Bool :=
  match s.runningEntry p with
  | some e => e.2.opcode == op.code && !e.2.begun && !s.host.results.any (fun r => r.1 == e.2.order)
  | none => true

/-- A running command noted that answers in a later step. -/
def State.begin (s : State) (p : Packet) : State :=
  match s.runningEntry p with
  | some e => s.onEntry e.1 (fun e => { e with begun := true })
  | none => s

/-- The reply of a packet placed (R301): data over 20 bytes goes to host memory at PTR, or into continuation frames. A command that has been
ended answers no second time. -/
def State.answer (s : State) (op : Op) (p : Packet) (status detail : Nat) (data : List Word) : State :=
  let long := decide (data.length > 5)
  let r : Reply := ⟨p.src, p.tag, p.queue, status, detail, op.code, if p.uart then 0 else p.sqhead,
    if long then [word (4 * data.length)] else data, 0, p.urgent, if long && p.uart then bytesOf data else []⟩
  let t := if long && !p.uart then s.dmaWrite p.ptr.toNat (bytesOf data) else s
  match s.runningEntry p with
  | some e =>
    if s.host.results.any (fun x => x.1 == e.2.order) then s
    else t.onHost (fun h => { h with results := (e.2.order, r) :: h.results })
  | none =>
    if s.host.ended.contains p then s.onHost (fun h => { h with ended := h.ended.erase p }) else t.complete r

/-- Check 8 of R299: whether the service state refuses the opcode (R464, R476). -/
def State.stateRefuses (s : State) (op : Op) : Bool :=
  match s.service with
  | none => true
  | some .halt => !(op.code == 0x0101 || op.code == 0x0102)
  | some .seed => !op.acc.seed
  | some .saved => !op.acc.saved
  | some .husk => !op.acc.husk || !(if s.pwr.base == .run then op.acc.run else op.acc.maint)
  | some .run => !op.acc.run
  | some .maint => !op.acc.maint

/-- The header checks of R299, orders 1 to 8: the status and detail of the first that fails. -/
def State.headerFails (s : State) (op : Op) (p : Packet) : Option (Nat × Nat) :=
  if p.queue.toNat ≠ p.src then some (Status.badParam, 0x51)
  else if s.service == some .seed && !op.acc.seed then some (Status.state, 0x21)
  else if p.len.toNat > 48 then some (Status.badParam, 0x52)
  else if p.flags.toNat ≥ 16 || (p.hasPtr &&
      (((op.ptr == .read || op.ptr == .optRead) && p.dir) || ((op.ptr == .write || op.ptr == .long) && !p.dir))) then
    some (Status.badParam, 0x53)
  else if ((op.ptr == .read || op.ptr == .write) && (!p.hasPtr || p.uart)) ||
      (op.ptr == .long && (if p.uart then p.hasPtr else !p.hasPtr)) || (op.ptr == .optRead && p.hasPtr && p.uart) then
    some (Status.badParam, 0x50)
  else if op.ptr != .none && (p.hasPtr || op.ptr != .optRead) && p.ptr.toNat % 16 ≠ 0 then some (Status.badParam, 0x54)
  else if s.stateRefuses op then some (Status.state, 0x21)
  else none

/-- What an opcode's own checks and effect answer (check 9 of R299): a status, a detail and reply data, or none while the
command goes on and completes in a later step. -/
structure Result where
  state : State
  ans : Option (Nat × Nat × List Word)
  deriving DecidableEq, Repr

/-- A command that completes at once. -/
def State.reply (s : State) (status detail : Nat) (data : List Word) : Result := ⟨s, some (status, detail, data)⟩

/-- A command that completes in a later step. -/
def State.later (s : State) : Result := ⟨s, none⟩

/-- Whether every parameter bit that the opcode's table does not name is 0 (R298). -/
def Op.paramsClean (op : Op) (p : Packet) : Bool :=
  (List.range 12).all (fun i => p.word i &&& ~~~(word (op.named.getD i 0)) == 0)

/-- One command: nothing while the device executes no command (R464, R501) or where the packet's task does not run this opcode (R304), a
refusal by the header checks with DATA of zero (R301), BAD_PARAM for a bit that the opcode's table does not name (R298), else the opcode's
own checks and effect and its reply. -/
def State.command (s : State) (op : Op) (p : Packet) (own : State → Result) : State :=
  if !s.serving || !s.mayExecute op p then s
  else match s.headerFails op p with
    | some (st, d) =>
      (s.onQueue p.src (fun q => { q with refusedHeader := satAdd 32 q.refusedHeader 1 })).answer op p st d []
    | none =>
      if !op.paramsClean p then s.answer op p Status.badParam 0x0A []
      else match (own s).ans with
        | some (st, d, data) => (own s).state.answer op p st d data
        | none => (own s).state.begin p

end Sys2Proof.Machine
end

