-- ==== Sys2Proof/Machine/Lamp.lean ====
section
/-! DEFINITION. Strings, positions, groups and rails: the sums D and Q, targets, estimates, ramps, derating, and which
entry of the submodule table a lamp carries (R45 to R86, R499). -/

namespace Sys2Proof.Machine

/-- The string of a lamp (L = 4·S + P). -/
def strOf (l : Nat) : Nat := l / 4
/-- The group of a string (G = S div 16). -/
def groupOf (str : Nat) : Nat := str / 16
/-- The lamp die of a string (R19). -/
def dieOfStr (str : Nat) : Nat := if str ≤ 63 then 0 else 1
/-- The lamp die of a lamp (R19). -/
def dieOfLamp (l : Nat) : Nat := if l ≤ 255 then 0 else 1

/-- A configuration: the words of the staged registers, by offset. -/
abbrev Conf := Nat → Word

/-- The committed configuration. -/
def State.conf (s : State) : Conf := s.liveReg

/-- CUR of a string in a configuration (R48). -/
def confCur (c : Conf) (str : Nat) : Nat := field (c (Reg.lmpScur str)) 0 10
/-- RAMP of a string in a configuration, ms (R70). -/
def confRamp (c : Conf) (str : Nat) : Nat := field (c (Reg.lmpScur str)) 16 8
/-- The mode of a lamp's position in a configuration: 0 ABSENT, 1 LAMP, 2 SPARE (R46). -/
def confMode (c : Conf) (l : Nat) : Nat := field (c (Reg.lmpSpos (strOf l))) (2 * (l % 4)) 2
/-- Vf-max of a lamp in a configuration, mV (R127). -/
def confVf (c : Conf) (l : Nat) : Nat := 500 + 50 * field (c (Reg.prvLwin l)) 0 7
/-- Headroom of a group, mV (R58). -/
def confHdrm (c : Conf) (g : Nat) : Nat := 50 * field (c (Reg.lmpGrail g)) 16 6
/-- Whether a group is in manual mode (R59). -/
def confManual (c : Conf) (g : Nat) : Bool := wbit (c (Reg.lmpGrail g)) 15
/-- The manual rail code of a group (R54). -/
def confRail (c : Conf) (g : Nat) : Nat := field (c (Reg.lmpGrail g)) 0 9
/-- TRACK_SPARES (R57). -/
def confTrack (c : Conf) : Bool := wbit (c Reg.lmpCtl) 16
/-- BUDGET, 0.1 W (R85). -/
def confBudget (c : Conf) : Nat := field (c Reg.lmpCtl) 0 9

/-- A rail code as a voltage in mV (R54). -/
def railMv (code : Nat) : Nat := 6000 + 50 * code
/-- A voltage in mV as a rail code, 0 below 6.00 V and at most 280 (R54). -/
def railCode (mv : Nat) : Nat := if mv < 6000 then 0 else min ((mv - 6000) / 50) 280

/-- The lamps of a string. -/
def lampsOf (str : Nat) : List Nat := [4 * str, 4 * str + 1, 4 * str + 2, 4 * str + 3]
/-- The strings of a group. -/
def strsOf (g : Nat) : List Nat := (List.range 16).map (fun i => 16 * g + i)
/-- The strings of a group with CUR other than 0: the group is active when there is one (R55). -/
def confActive (c : Conf) (g : Nat) : List Nat := (strsOf g).filter (fun t => confCur c t != 0)

/-- D and Q of a string as configured (R58): Vf-max over LAMP positions, and over SPARE positions. -/
def confD (c : Conf) (str : Nat) : Nat := ((lampsOf str).map (fun l => if confMode c l = 1 then confVf c l else 0)).sum
def confQ (c : Conf) (str : Nat) : Nat := ((lampsOf str).map (fun l => if confMode c l = 2 then confVf c l else 0)).sum

/-- Whether a lamp is left out of the rail's demand (R57, R62): retired, and not on its way back into service. -/
def State.lampOut (s : State) (l : Nat) : Bool := (s.prv l).retired.isSome && (s.prv l).readmit.isNone

/-- D and Q of a string as they stand (R57): without retired lamps, active spares counted in D. -/
def State.nowD (s : State) (c : Conf) (str : Nat) : Nat :=
  ((lampsOf str).map (fun l =>
    if s.lampOut l then 0
    else if confMode c l = 1 || (confMode c l = 2 && (s.prv l).active) then confVf c l else 0)).sum
def State.nowQ (s : State) (c : Conf) (str : Nat) : Nat :=
  ((lampsOf str).map (fun l =>
    if s.lampOut l then 0
    else if confMode c l = 2 && !(s.prv l).active then confVf c l else 0)).sum

/-- need(S) of R57 from D, Q and headroom. -/
def needOf (track : Bool) (d q hdrm : Nat) : Nat := if track then d + q + hdrm else max (d + hdrm) (d + q + 1100)

/-- The greatest of a list of numbers, 0 of none. -/
def maxOf (l : List Nat) : Nat := l.foldl max 0

/-- The auto-tracking target of a group, mV, from its active strings' (D, Q) (R57): at least 6.00 V, up to the next step. -/
def autoTarget (track : Bool) (hdrm : Nat) (dq : List (Nat × Nat)) : Nat :=
  50 * ceilDiv (max 6000 (maxOf (dq.map (fun x => needOf track x.1 x.2 hdrm)))) 50

/-- The target of a group under a configuration, retirements and active spares as they stand (R57, R59, R66); 0 for an
inactive group (R55). -/
def State.targetOf (s : State) (c : Conf) (g : Nat) : Nat :=
  if (confActive c g).isEmpty then 0
  else if confManual c g then railMv (confRail c g)
  else autoTarget (confTrack c) (confHdrm c g) ((confActive c g).map (fun t => (s.nowD c t, s.nowQ c t)))

/-- The highest target a group can reach, for the estimate (R84). DEDUCED (log entry 35): the maximum runs over the strings with CUR other
than 0, as the target of R57 does. -/
def vEst (c : Conf) (g : Nat) : Nat :=
  if confManual c g then railMv (confRail c g)
  else 50 * ceilDiv (max 6000 (maxOf ((confActive c g).map (fun t => confD c t + confQ c t + confHdrm c g)))) 50

/-- P_est of a configuration in mW, rounded up (R84): current in 0.01 µA times voltage in 0.01 mV, over 10^10. -/
def pEst (c : Conf) : Nat :=
  ceilDiv (((List.range 128).map (fun t =>
    if confCur c t = 0 then 0 else (confCur c t * 6375 + 5000) * (vEst c (groupOf t) * 102 + 5000))).sum) 10000000000

/-! Entries of the submodule table and the lamps that carry their streams. -/

/-- The valid entry that names a lamp as its LAMP. -/
def State.smOfLamp (s : State) (l : Nat) : Option Nat :=
  (s.weir.smt.find? (fun e => e.2.valid && e.2.lamp == l)).map Prod.fst
/-- The valid entry that names a position as its SPARE. -/
def State.smOfSpare (s : State) (l : Nat) : Option Nat :=
  (s.weir.smt.find? (fun e => e.2.valid && e.2.spv && e.2.spare == l)).map Prod.fst

/-- The lamp that carries an entry's stream (R154): its lamp while in service, else its active spare. -/
def State.carrier (s : State) (e : Smt) : Option Nat :=
  if (s.prv e.lamp).retired.isNone then some e.lamp
  else if e.spv && (s.prv e.spare).active && (s.prv e.spare).retired.isNone then some e.spare else none

/-- The entry whose stream a position carries: its own, or its partner's while it is an active spare (R113). -/
def State.smCarried (s : State) (l : Nat) : Option Nat :=
  match s.smOfLamp l with
  | some sm => if (s.prv l).retired.isNone then some sm else none
  | none => if (s.prv l).active then s.smOfSpare l else none

/-- The stream a position shows: the partner's for an active spare, else its own (R113). -/
def State.streamOf (s : State) (l : Nat) : Nat :=
  if (s.prv l).active then (match s.smOfSpare l with | some sm => (s.smt sm).lamp | none => l) else l

/-- The SM id and arm that a report about a position carries (R161, R368). -/
def State.smTag (s : State) (l : Nat) : Option Nat × Option Nat :=
  match (s.smOfLamp l).or (s.smOfSpare l) with
  | some sm => (some sm, some (s.smt sm).arm)
  | none => (none, none)

/-! Rails (R61, R499). -/

/-- Whether a rail drive is held low (R55, R76, R77, R78, R499). -/
def State.drvHeld (s : State) (g : Nat) : Bool :=
  (s.group g).target == 0 || s.clk.huskLine || (s.die (g / 4)).ownHusk || (s.group g).ovHold || (s.group g).ocHold ||
  s.pwr.railsHeld

/-- A rail target set (R61): the setpoint slews towards it, and the rail has not reached it while they differ. A drive that resumes
from an inactive group starts its setpoint at the measured rail (R499). -/
def State.setTarget (s : State) (g mv : Nat) : State :=
  s.onGroup g (fun r => if r.target = mv then r else
    { r with target := mv, reached := false,
             setpoint := if mv = 0 then 0 else if r.target = 0 then r.measMv else r.setpoint, slewAt := s.mono })

/-- Whether a register is staged for the LMP commit (R56, R64). -/
def lmpStaged (off : Nat) : Bool :=
  off == Reg.lmpCtl || (decide (Reg.lmpScur 0 ≤ off) && decide (off ≤ Reg.lmpSpos 127)) ||
  (decide (Reg.lmpGrail 0 ≤ off) && decide (off ≤ Reg.lmpGrail 7)) ||
  (decide (Reg.prvLwin 0 ≤ off) && decide (off ≤ Reg.prvLwin 511))

/-- A snapshot of every staged value of the LMP commit (R64). -/
def State.lmpSnap (s : State) : Tab Word := s.regs.filter (fun e => lmpStaged e.1)

/-- The configuration that a snapshot would make. -/
def State.snapConf (s : State) (snap : Tab Word) : Conf :=
  fun off => if lmpStaged off then Tab.get regReset snap off else s.liveReg off

/-- The configuration that a group's target follows now: that of the running commit for a group it slews upward (R66), else the
committed one. -/
def State.railConf (s : State) (g : Nat) : Conf :=
  match s.lamps.commit with
  | some c => if c.upGroups.contains g then s.snapConf c.snap else s.conf
  | none => s.conf

/-- The targets of the auto-tracking groups of the list recomputed (R62). -/
def State.retarget (s : State) (gs : List Nat) : State :=
  s.each gs (fun s g =>
    if confManual (s.railConf g) g || (confActive (s.railConf g) g).isEmpty then s else s.setTarget g (s.targetOf (s.railConf g) g))

/-- Whether a rail has reached its target (R61). -/
def State.railReady (s : State) (g : Nat) : Bool := (s.group g).reached && !s.drvHeld g

/-! Derating and effective targets (R79). -/

/-- The effective target of a string in current steps (R79): CUR under the group's factor k in 1/40,000, never above CUR,
never below 2.0 mA; 0 for CUR = 0. -/
def ieff (cur k : Nat) : Nat := if cur = 0 then 0 else min cur (max (cur * k / 40000) 32)

/-- The derating factor k in 1/40,000 from T in 0.25 °C steps and LMP_DRT (R79): SLOPE counts 0.25 %/°C, FLOOR 1 %. -/
def deratingK (t : Int) (drt : Word) : Nat :=
  let knee : Int := 4 * (field drt 0 8 : Nat)
  let k := if t ≤ knee then 40000 else 40000 - (t - knee).toNat * field drt 8 6 * 25
  max k (400 * field drt 16 7)

/-- ln n in units of 2^-32, for n from 1 (R80): k ln 2, and the rest by the series of the inverse hyperbolic tangent, whose argument is
at most 1/3. -/
def lnFix (n : Nat) : Int :=
  let z := (n - 2 ^ Nat.log2 n) * 2 ^ 32 / (n + 2 ^ Nat.log2 n)
  let terms := (List.range 20).map (fun (i : Nat) => 2 * (z ^ (2 * i + 1) / 2 ^ (32 * (2 * i)) / (2 * i + 1)))
  Nat.log2 n * 2977044472 + terms.sum

/-- The NTC temperature of a measured ratio (in 1/32,768 of NTC_REF) in 0.25 °C by the β formula, the pull-up being R25 (R80):
1/T = 1/298.15 K + ln(R/R25)/β, with R/R25 = ratio/(1 − ratio); none where the formula has no positive T. Only the rounding is free. -/
def ntcOf (ratio : Int) (beta : Nat) : Option Int :=
  let r := ratio.toNat
  let lnq := lnFix r - lnFix (32768 - r)
  let d : Int := 100 * (beta : Int) * 2 ^ 32 + 29815 * lnq
  if r = 0 || 32768 ≤ r || d ≤ 0 then none
  else
    let n : Int := 1192600 * (beta : Int) * 2 ^ 32 - 10926 * d
    some (n / (10 * d) + (if n % (10 * d) ≠ 0 && Config.ntcRoundsUp ratio beta then 1 else 0))

/-- Whether an NTC reading lies within −50 to +150 °C (R63). -/
def ntcInRange (t : Option Int) : Bool := t.any (fun t => decide (-200 ≤ t) && decide (t ≤ 600))

/-- The NTC temperature that derating uses, 0.25 °C steps: the measured one, or SUBST where R80 says so. -/
def State.ntcTemp (s : State) (g : Nat) : Int :=
  if (s.group g).ntcFault || !(s.bit Reg.lmpNtccfg (16 + g)) then 4 * (s.fld Reg.lmpDrt 24 8 : Nat)
  else match (s.group g).ntc with
    | some t => t
    | none => 4 * (s.fld Reg.lmpDrt 24 8 : Nat)

/-- The derating input T of a group (R79, R80): the higher of its NTC temperature and its lamp die's temperature, for which
SUBST stands in until the first house round has delivered it. -/
def State.deratingInput (s : State) (g : Nat) : Int :=
  max (s.ntcTemp g) (match s.pwr.dieTemp (1 + g / 4) with
    | some t => t
    | none => 4 * (s.fld Reg.lmpDrt 24 8 : Nat))

/-- The effective target of a string. -/
def State.target (s : State) (str : Nat) : Nat := ieff (confCur s.conf str) (s.group (groupOf str)).kf

/-- Whether a string's enable bit is set (LMP_SEN). -/
def State.enabled (s : State) (str : Nat) : Bool := s.bit (Reg.lmpSen (str / 32)) (str % 32)

/-- A ramp from I0 to I1 that starts at an interval count (R70): max(I0, I1) steps per RAMP ms. -/
def Str.ramp (t : Str) (st : StrState) (i1 ramp since : Nat) : Str :=
  { t with state := st, slopeNum := max t.cur i1, slopeDen := ramp, rampAt := since, rampSteps := 0 }

/-- Whether the next step of a string's current is due (R70, R72): the ramp's slope since its start, or 10 µs since the last step in
STEADY. -/
def State.stepDue (s : State) (x : Str) : Bool :=
  if x.state == .steady then s.past x.rampAt (usTicks 10)
  else decide ((x.rampSteps + 1) * x.slopeDen * msTicks 1 ≤ x.slopeNum * (s.mono - x.rampAt))

/-- A string that leaves STEADY: the episodes and disturbances of its proving end (R73, R129). -/
def State.leaveSteady (s : State) (str : Nat) : State :=
  s.each (lampsOf str) (fun s l => s.onPrv l (fun p => { p with vfHigh := false, trickle := none }))

/-- Whether a string's sink holds its present current and its ramps stand still (R77, R78). -/
def State.sinkHeld (s : State) (str : Nat) : Bool := s.clk.huskLine || (s.die (dieOfStr str)).ownHusk

/-- What a string does with its enable bit, its committed CUR and its rail, from its present current (R69, R71, R75). -/
def State.driveStr (s : State) (str : Nat) : State :=
  let t := s.str str
  if t.state == .cut || t.state == .sagCut || s.sinkHeld str then s
  else
    let want := if s.enabled str then s.target str else 0
    let ramp := confRamp s.conf str
    if want = 0 then
      if t.cur = 0 then s.setStr str { t with state := .disabled }
      else (s.setStr str (t.ramp .rampDown 0 ramp s.mono)).leaveSteady str
    else if t.cur = 0 && !(s.railReady (groupOf str)) then s.setStr str { t with state := .waitRail }
    else if t.cur < want then (s.setStr str (t.ramp .rampUp want ramp s.mono)).leaveSteady str
    else if want < t.cur then (s.setStr str (t.ramp .rampDown want ramp s.mono)).leaveSteady str
    else if t.state == .steady then s
    else s.setStr str { t with state := .steady, steadySince := s.mono }

/-- The strings of a group that wait for its rail start their ramps (R69). -/
def State.startWaiting (s : State) (g : Nat) : State :=
  s.each ((strsOf g).filter (fun t => (s.str t).state == .waitRail)) (fun s t => s.driveStr t)

end Sys2Proof.Machine
end

