-- ==== Sys2Proof/Machine/Measure.lean ====
section
/-! DEFINITION. Measurement's shared operations: channels, checks, runs, the decimator, urgent requests, accumulator sets,
calibration (R341 to R361). -/

namespace Sys2Proof.Machine

/-! Channels (R342). -/

/-- Full scale at gain ×1 of a channel that a converter reaches, in µV, nA or millionths; none for a channel it does not reach. -/
def chanFs (ad chan : Nat) : Option Nat :=
  let d := ad / 2
  let at0 := fun fs => if d = 0 then some fs else none
  let at1 := fun fs => if d = 1 then some fs else none
  if chan ≤ 0x07F then (if chan / 64 = d then some 65536000 else none)
  else if chan ≤ 0x087 then (if (chan - 0x080) / 4 = d then some 32768000 else none)
  else if chan ≤ 0x08F then (if (chan - 0x088) / 4 = d then some 1000000 else none)
  else if chan = 0x090 || chan = 0x091 then at0 65536000
  else if chan = 0x092 then at1 65536000
  else if chan = 0x093 then some 1638400
  else if chan = 0x094 || chan = 0x098 then some 3276800
  else if chan = 0x095 || chan = 0x096 then at0 2048
  else if chan = 0x097 then at1 2048
  else if 0x100 ≤ chan && chan ≤ 0x2FF then (if (chan - 0x100) / 256 = d then some 8192000 else none)
  else none

/-- Whether a channel is a die temperature. -/
def chanTemp (chan : Nat) : Bool := 0x095 ≤ chan && chan ≤ 0x097
/-- Whether a channel is an NTC ratio. -/
def chanNtc (chan : Nat) : Bool := 0x088 ≤ chan && chan ≤ 0x08F
/-- The lamp of a Vf channel. -/
def chanLamp (chan : Nat) : Option Nat := if 0x100 ≤ chan && chan ≤ 0x2FF then some (chan - 0x100) else none
/-- Whether a gain is allowed for a channel: NTC ratios and die temperatures take ×1 only. -/
def gainOk (chan gain : Nat) : Bool := gain == 0 || !(chanTemp chan || chanNtc chan)

/-- The request that a word pair laid out as MSR_SEQA and MSR_SEQB makes. -/
def specOf (a b : Word) : RunSpec :=
  ⟨field a 0 10, field a 16 2, field a 24 7, field b 12 2, field b 0 9, field b 24 8, field b 16 8⟩

/-! Checks (R347, R349, R353). -/

/-- The fields of a request are in range (order 2). -/
def RunSpec.inRange (x : RunSpec) : Bool :=
  decide (6 ≤ x.acq) && decide (1 ≤ x.order) && decide (1 ≤ x.ratio) && decide (x.ratio ≤ 256) && decide (1 ≤ x.count)

/-- The run bound in HCLK (R349), with VFTO µs for each input conversion of a Vf channel. -/
def RunSpec.bound (x : RunSpec) (vfto : Nat) : Nat :=
  (2 + x.count * x.ratio) * (x.acq + 10) + (if (chanLamp x.chan).isSome then 40 * vfto * x.count * x.ratio else 0)

/-- Checks 2 and 4 to 7 of R347 as (fails, detail), in order. -/
def runChecks (ad vfto : Nat) : List ((RunSpec → Bool) × Nat) := [
  (fun x => !x.inRange, 0x0A),
  (fun x => (chanFs ad x.chan).isNone, 0x62),
  (fun x => !gainOk x.chan x.gain, 0x63),
  (fun x => decide (x.ratio ≥ 2) && decide (x.count ≤ x.order), 0x64),
  (fun x => ad % 2 == 1 && decide (x.bound vfto > 20000), 0x65)]

/-- The first check that fails over a list of numbered requests: its detail and the request's number. -/
def firstFailing (checks : List ((RunSpec → Bool) × Nat)) (xs : List (Nat × RunSpec)) : Option (Nat × Nat) :=
  checks.findSome? (fun c => (xs.find? (fun x => c.1 x.2)).map (fun x => (c.2, x.1)))

/-- MSR_CTL.VFTO. -/
def State.vfto (s : State) : Nat := s.fld Reg.msrCtl 16 8

/-- Whether the converters run: past RUN-ready, not SAVED, and the husk line not asserted (R361). -/
def State.convsRun (s : State) : Bool := s.pwr.boot == .ready && s.pwr.phase != .saved && !s.clk.huskLine && !s.clk.lost

/-- The enabled entries of a converter's sequence in a configuration: entries 0 to LEN − 1 with EN = 1. -/
def entriesOf (c : Conf) (ad : Nat) : List (Nat × RunSpec) :=
  ((List.range (field (c (Reg.msrCvctl ad)) 0 7)).filter (fun e => wbit (c (Reg.msrSeqa (64 * ad + e))) 31)).map (fun e =>
    (e, specOf (c (Reg.msrSeqa (64 * ad + e))) (c (Reg.msrSeqb (64 * ad + e)))))

/-- The checks of a sequence commit (R347): status, detail, entry. -/
def State.judgeSequence (s : State) (ad : Nat) : Nat × Nat × Nat :=
  let len := s.fld (Reg.msrCvctl ad) 0 7
  let xs := entriesOf s.reg ad
  if s.pwr.boot != .ready || s.saved then (Status.state, 0x21, 0)
  else if len = 0 || len > 64 then (Status.badParam, 0x0A, 0)
  else match firstFailing ((runChecks ad s.vfto).take 1) xs with
    | some (d, e) => (Status.badParam, d, e)
    | none =>
      if xs.isEmpty then (Status.badParam, 0x66, 0)
      else match firstFailing ((runChecks ad s.vfto).drop 1) xs with
        | some (d, e) => (Status.badParam, d, e)
        | none => (Status.ok, 0, 0)

/-- The checks of an urgent request (R353): status and detail. -/
def State.judgeUrgent (s : State) (ad : Nat) (x : RunSpec) : Nat × Nat :=
  if s.pwr.boot != .ready || s.saved then (Status.state, 0x21)
  else match firstFailing (runChecks ad s.vfto) [(0, x)] with
    | some (d, _) => (Status.badParam, d)
    | none => if (s.conv ad).urgent.length ≥ 8 then (Status.busy, 0) else (Status.ok, 0)

/-! Flags (R360). -/

/-- A flag of MSR_CVSTAT set: 0 DONE, 1 URGDONE, 2 CALDONE, 3 CREF; source 36 where MSR_CTL.IRQEN asks for it. -/
def State.msrFlag (s : State) (ad b : Nat) : State :=
  let t := s.setBit (Reg.msrCvstat ad) b true
  if t.bit Reg.msrCtl b then t.irq 36 else t

/-! Calibration (R355, R357). -/

/-- OFF and GAIN_CAL of a pair: those stored, else 0 and 32,768 (R355). -/
def State.calOf (s : State) (ad chan gain : Nat) : Int × Nat :=
  match s.msr.cals.find? (fun c => c.1 == (ad, chan, gain)) with
  | some c => c.2
  | none => (0, 32768)

/-- A 16-bit result code (R343). -/
def clipCode (r : Int) : Int := max (-32768) (min r 32767)

/-- The corrected result code of a conversion (R355). -/
def State.correct (s : State) (ad chan gain : Nat) (u : Int) : Int :=
  let c := s.calOf ad chan gain
  clipCode (roundDiv ((u - c.1) * c.2) 32768)

/-- A system calibration stored in place of an earlier one of the pair (R357). -/
def State.storeCal (s : State) (ad chan gain : Nat) (v : Int × Nat) : State :=
  s.onMsr (fun m => { m with cals := ((ad, chan, gain), v) :: m.cals.filter (fun c => c.1 != (ad, chan, gain)) })

/-! Accumulator sets (R350, R351, R354). -/

/-- A valid sample added to a set (R354). -/
def AccSet.add (a : AccSet) (r : Int) (t chan gain : Nat) : AccSet :=
  if a.count = 2 ^ 32 - 1 then { a with full := true, settled := true }
  else { a with
    sum := a.sum + r, count := a.count + 1, sumsq := a.sumsq + (r * r).toNat,
    mn := if a.count = 0 || r < a.mn then r else a.mn, tmin := if a.count = 0 || r < a.mn then t else a.tmin,
    mx := if a.count = 0 || r > a.mx then r else a.mx, tmax := if a.count = 0 || r > a.mx then t else a.tmax,
    mixed := a.mixed || (a.count != 0 && (a.chan != chan || a.gain != gain)), chan := chan, gain := gain, settled := true }

/-- A set cleared (R354): TORN, CHAN and GAIN are not among what a clear names. -/
def AccSet.clear (a : AccSet) : AccSet := { AccSet.reset with torn := a.torn, chan := a.chan, gain := a.gain }

/-- A sample offered to a set of a converter: added when valid, else only SETTLED falls (R350, R351). -/
def State.offer (s : State) (ad set : Nat) (valid : Bool) (r : Int) (t chan gain : Nat) : State :=
  s.onAcc (128 * ad + set) (fun a => if valid then a.add r t chan gain else { a with settled := false })

/-! The decimator (R346). -/

/-- One input through the integrators: their new values. -/
def integrate : List Int → Int → List Int
  | [], _ => []
  | i :: is, x => (i + x) :: integrate is (i + x)

/-- One decimated value through the combs: their new delays and the result. -/
def comb : List Int → Int → List Int × Int
  | [], x => ([], x)
  | c :: cs, x => let r := comb cs (x - c); (x :: r.1, r.2)

/-! Runs (R345, R348, R350, R352). -/

/-- Leading conversions of a run that are invalid (R350). -/
def leadOf (prev : Option (Nat × Nat)) (x : RunSpec) : Nat :=
  match prev with
  | none => 2
  | some (chan, gain) => if gain ≠ x.gain then 2 else if chan ≠ x.chan && decide (x.acq < 16) then 1 else 0

/-- Whether a request is a calibration's. -/
def UrgJob.cal : UrgJob → Bool
  | .host _ => false
  | _ => true

/-- Whether a run serves a calibration: the urgent request at the head of the queue is one. -/
def Conv.calRun (c : Conv) : Bool :=
  match c.run, c.urgent with
  | some r, u :: _ => r.entry.isNone && u.job.cal
  | _, _ => false

/-- A run starts (R345): its leading conversions, a cleared decimator; each start of an entry run counts in MSR_ENTCNT.RUNS. -/
def State.beginRun (s : State) (ad : Nat) (x : RunSpec) (entry : Option Nat) (cal : Bool) : State :=
  let c := s.conv ad
  let lead := if cal then 2 else leadOf c.prev x
  let t := s.setConv ad { c with
    run := some ⟨x, entry, lead, 0, 0, List.replicate x.order 0, List.replicate x.order 0,
      if lead = 0 && (chanLamp x.chan).isSome then some s.mono else none, none, 0, false, s.mono, true⟩,
    shown := entry.getD c.shown }
  match entry with
  | some e => t.setFld (Reg.msrEntcnt (64 * ad + e)) 0 8 (t.fld (Reg.msrEntcnt (64 * ad + e)) 0 8 + 1)
  | none => t

/-- The run in progress given up (R348, R352): its conversion is counted as aborted and nowhere else. -/
def State.abortRun (s : State) (ad : Nat) : State :=
  if (s.conv ad).run.isSome then s.onConv ad (fun c => { c with run := none, aborted := satAdd 32 c.aborted 1 }) else s

/-- A run in progress gives way to an urgent request (R352): a conversion in progress is aborted; between two conversions, which is
the CCLK in which the run's last one ended or its first would start, nothing is, and a run with no conversion yet did not start. -/
def State.yieldRun (s : State) (ad : Nat) (r : Run) : State :=
  if s.past r.since 1 then s.abortRun ad
  else
    let t := s.onConv ad (fun c => { c with run := none })
    match r.entry with
    | some e =>
      if r.fresh then t.setFld (Reg.msrEntcnt (64 * ad + e)) 0 8 (t.fld (Reg.msrEntcnt (64 * ad + e)) 0 8 + 255) else t
    | none => t

/-- The new sequence of a commit that has passed takes effect (R348): entry 0 next, MSR_ENTCNT of each entry cleared. -/
def State.startOver (s : State) (ad : Nat) : State :=
  if (s.conv ad).startOver then
    (s.each (List.range 64) (fun s e => s.setReg (Reg.msrEntcnt (64 * ad + e)) 0)).onConv ad (fun c => { c with
      startOver := false, entry := 0,
      pass := if wbit (s.liveReg (Reg.msrCvctl ad)) 7 then c.pass else s.bit (Reg.msrCvctl ad) 8 })
  else s

/-- What a converter that runs nothing does next (R345, R349, R352): nothing while a house round is due; the oldest urgent request;
the next enabled entry; at the end of a pass LOOPS counts, and a SINGLE pass ends with DONE. -/
def State.nextRun (s : State) (ad : Nat) : State :=
  let c := s.conv ad
  if !s.convsRun || c.house || c.run.isSome || c.houseDue then s
  else match c.urgent with
    | u :: _ => s.beginRun ad u.spec none u.job.cal
    | [] =>
      let t := s.startOver ad
      let c := t.conv ad
      let xs := entriesOf t.conf ad
      if !c.pass then t
      else match xs.find? (fun x => decide (c.entry ≤ x.1)) with
        | some (e, x) => (t.onConv ad (fun c => { c with entry := e })).beginRun ad x (some e) false
        | none =>
          if wbit (t.liveReg (Reg.msrCvctl ad)) 7 then
            (t.onConv ad (fun c => { c with pass := false, entry := 0, loops := wrap 16 (c.loops + 1) })).msrFlag ad 0
          else match xs with
            | (e, x) :: _ =>
              (t.onConv ad (fun c => { c with entry := e, loops := wrap 16 (c.loops + 1) })).beginRun ad x (some e) false
            | [] => t

/-- A sequence commit judged, recorded in MSR_CVSTAT, and CREF set when it is refused (R347, R360). -/
def State.recordSequence (s : State) (ad : Nat) : State :=
  let j := s.judgeSequence ad
  let t := ((s.setFld (Reg.msrCvstat ad) 26 6 j.2.2).setFld (Reg.msrCvstat ad) 16 8 j.2.1).setFld (Reg.msrCvstat ad) 8 8 j.1
  if j.1 = Status.ok then t else t.msrFlag ad 3

/-- A sequence commit that has passed (R348, R361): the staged entries, LEN and MODE become the sequence; a sequence entry in
progress is given up, an urgent run or house round completes first. -/
def State.takeSequence (s : State) (ad : Nat) : State :=
  let t := (s.each (List.range 64) (fun s e =>
    (s.setLive (Reg.msrSeqa (64 * ad + e)) (s.reg (Reg.msrSeqa (64 * ad + e)))).setLive (Reg.msrSeqb (64 * ad + e))
      (s.reg (Reg.msrSeqb (64 * ad + e))))).setLive (Reg.msrCvctl ad) (s.reg (Reg.msrCvctl ad))
  let u := t.onConv ad (fun c => { c with startOver := true })
  (match (u.conv ad).run with
    | some r => if r.entry.isSome then u.abortRun ad else u
    | none => u).nextRun ad

/-- An urgent request queued (R352): it interrupts a sequence entry and runs before a house round that has fallen due meanwhile, and
runs at once on an idle converter. -/
def State.queueUrgent (s : State) (ad : Nat) (u : Urgent) : State :=
  let t := s.onConv ad (fun c => { c with urgent := c.urgent ++ [u] })
  match (t.conv ad).run with
  | some r => if r.entry.isSome then (t.yieldRun ad r).beginRun ad u.spec none u.job.cal else t
  | none => t.nextRun ad

/-- An urgent request refused (R353, R363). -/
def State.refuseUrgent (s : State) (ad : Nat) : State :=
  s.onConv ad (fun c => { c with urgRefused := satAdd 32 c.urgRefused 1 })

/-- A calibration of a zero judged after its conversions (R357, R358): u0 held pending as OFF, and the reply. -/
def State.endZero (s : State) (ad : Nat) (x : RunSpec) (p : Packet) (u0 : Int) (clip : Bool) : State :=
  if clip || decide (u0 > 1638) || decide (u0 < -1638) then s.answer Op.msrCalZero p Status.badParam 0x60 []
  else (s.onConv ad (fun c => { c with pendingZero := some (x.chan, x.gain, u0) })).answer Op.msrCalZero p Status.ok 0
    [word (unsigned 32 u0)]

/-- round(a / b) of integers with b not 0, ties away from zero. -/
def roundDivInt (a b : Int) : Int := if b < 0 then roundDiv (-a) b.natAbs else roundDiv a b.natAbs

/-- A calibration of a span judged after its conversions (R357, R358): E and GAIN_CAL, stored with OFF, and the reply. -/
def State.endSpan (s : State) (ad : Nat) (x : RunSpec) (p : Packet) (value off u1 : Int) (clip : Bool) : State :=
  let e := roundDiv (value * 32768 * (2 ^ x.gain : Nat)) ((chanFs ad x.chan).getD 1)
  let g := if u1 = off then 0 else roundDivInt (32768 * e) (u1 - off)
  if decide (e < 3277) && decide (-3277 < e) then s.answer Op.msrCalSpan p Status.badParam 0x67 []
  else if decide (off > 1638) || decide (off < -1638) || decide (g < 29491) || decide (g > 36045) || clip then
    s.answer Op.msrCalSpan p Status.badParam 0x60 []
  else
    ((s.storeCal ad x.chan x.gain (off, g.toNat)).onConv ad (fun c => { c with
      pendingZero := match c.pendingZero with
        | some (ch, gn, _) => if ch = x.chan && gn = x.gain then none else c.pendingZero
        | none => none })).answer Op.msrCalSpan p Status.ok 0 [word (unsigned 32 u1), word (unsigned 32 off), word g.toNat]

/-- The urgent request at the head of the queue ends with its run (R353, R357, R360); `whole` unless a Vf capture was missed. -/
def State.endUrgent (s : State) (ad : Nat) (r : Run) (whole : Bool) : State :=
  match (s.conv ad).urgent with
  | [] => s
  | u :: us =>
    let t := s.onConv ad (fun c => { c with urgent := us })
    let mean := roundDiv r.calSum 512
    match u.job with
    | .host irq => if irq then t.msrFlag ad 1 else t
    | .zero p => (if whole then t.endZero ad r.spec p mean r.calClip else t.answer Op.msrCalZero p Status.state 0 []).msrFlag ad 2
    | .span p v off =>
      (if whole then t.endSpan ad r.spec p v off mean r.calClip else t.answer Op.msrCalSpan p Status.state 0 []).msrFlag ad 2

/-- A run ends (R345): the next entry is due after an entry run, the urgent request ends after an urgent run. -/
def State.endRun (s : State) (ad : Nat) (r : Run) (whole : Bool) : State :=
  let t := s.onConv ad (fun c => { c with run := none, entry := match r.entry with | some e => e + 1 | none => c.entry })
  (if r.entry.isNone then t.endUrgent ad r whole else t).nextRun ad

/-- An invalid sample counted (R350). -/
def State.countInvalid (s : State) (ad : Nat) (r : Run) : State :=
  let t := s.onConv ad (fun c => { c with invalid := satAdd 32 c.invalid 1 })
  match r.entry with
  | some e => t.incFld (Reg.msrEntcnt (64 * ad + e)) 16 16
  | none => t

/-- A completed conversion counted; it is the converter's previous conversion from now on (R350), and a clipped one is counted
(R343). -/
def State.countConversion (s : State) (ad : Nat) (r : Run) (clip : Bool) : State :=
  let t := s.onConv ad (fun c => { c with
    conversions := satAdd 32 c.conversions 1, prev := some (r.spec.chan, r.spec.gain),
    clipped := if clip then satAdd 32 c.clipped 1 else c.clipped })
  match r.entry with
  | some e => if clip then t.incFld (Reg.msrEntcnt (64 * ad + e)) 8 8 else t
  | none => t

/-- The sample instant of a conversion that completes now (R341, R344): 10 HCLK ago, or the Vf capture. -/
def State.sampleAt (s : State) (r : Run) : Nat := r.captured.getD (s.now - 160)

/-- An input conversion of a run with its corrected code (R345, R346): it feeds the decimator, or is itself the output; an output
is offered to the set, the first ORDER of a decimator as invalid. -/
def State.feed (s : State) (ad : Nat) (r : Run) (x : Int) : State :=
  let w := if (chanLamp r.spec.chan).isSome then some s.mono else none
  let put := fun (s : State) (r : Run) => s.onConv ad (fun c => { c with run := some r })
  let inputs := r.inputs + 1
  let ints := integrate r.ints x
  let cm := comb r.combs ((ints.getLast?).getD x)
  let out := if r.spec.ratio ≤ 1 then x else roundDiv cm.2 (r.spec.ratio ^ r.spec.order)
  let valid := decide (r.spec.ratio ≤ 1) || decide (r.outs ≥ r.spec.order)
  let r1 : Run := { r with inputs := inputs, wait := w, captured := none, since := s.mono, fresh := false }
  if decide (r.spec.ratio ≤ 1) || inputs % r.spec.ratio == 0 then
    let r2 : Run := { r1 with ints := ints, combs := cm.1, outs := r.outs + 1 }
    let t := s.offer ad r.spec.set valid out (s.sampleAt r) r.spec.chan r.spec.gain
    let t1 := if valid then t else t.countInvalid ad r
    if r2.outs ≥ r.spec.count then t1.endRun ad r2 true else put t1 r2
  else put s { r1 with ints := ints }

/-- Whether the conversion in progress has lasted its ACQ + 10 HCLK (R341, R344): from the previous one's end, the run's start, or the
Vf capture. -/
def State.convEnded (s : State) (r : Run) : Bool := r.wait.isNone && s.past r.since (16 * (r.spec.acq + 10))

/-- A conversion of the run in progress completes with the code u (R343, R345, R350); a clipped one sets the set's CLIP flag, a leading
one too. -/
def State.convert (s : State) (ad : Nat) (u : Int) (clip : Bool) : State :=
  let c := s.conv ad
  match c.run with
  | none => s
  | some r =>
    if !s.convEnded r then s
    else
      let cal := c.calRun
      let t1 := s.countConversion ad r clip
      let t := if clip && !cal then t1.onAcc (128 * ad + r.spec.set) (fun a => { a with clip := true }) else t1
      if r.lead > 0 then
        (t.countInvalid ad r).onConv ad (fun c => { c with run := some { r with
          lead := r.lead - 1, since := s.mono, fresh := false, wait := if r.lead = 1 && (chanLamp r.spec.chan).isSome then some s.mono else none } })
      else if cal then
        let r1 : Run := { r with
          inputs := r.inputs + 1, calSum := r.calSum + u, calClip := r.calClip || clip, captured := none, since := s.mono, fresh := false,
          wait := if (chanLamp r.spec.chan).isSome then some s.mono else none }
        if r1.inputs ≥ 512 then t.endRun ad r1 true else t.onConv ad (fun c => { c with run := some r1 })
      else
        t.feed ad r (s.correct ad r.spec.chan r.spec.gain u)

/-- A lit sample of a lamp with verdict PASS, LOW or HIGH (R344): each converter of its die that waits for it captures. -/
def State.vfCapture (s : State) (lamp : Nat) : State :=
  s.each (List.range 4) (fun s ad =>
    match (s.conv ad).run with
    | some r =>
      if r.wait.isSome && chanLamp r.spec.chan == some lamp && s.convsRun then
        s.onConv ad (fun c => { c with run := some { r with wait := none, captured := some s.now, since := s.mono } })
      else s
    | none => s)

/-- Every converter stopped (R361): the conversion in progress is discarded uncounted, house rounds stop. -/
def State.stopConvs (s : State) : State :=
  s.each (List.range 4) (fun s ad => s.onConv ad (fun c => { c with
    run := none, house := false, houseDue := false, prev := none, entry := 0 }))

/-- The converters restarted (R361, R429): sequences at entry 0, house rounds counted from now. -/
def State.restartConvs (s : State) : State :=
  s.each (List.range 4) (fun s ad => (s.onConv ad (fun c => { c with entry := 0, houseAt := s.mono })).nextRun ad)

/-- MSR_CVCTL written (R345, R347): MODE and LEN staged; RUN at once; COMMIT; START, ignored during a pass and in CONTINUOUS
mode. -/
def State.writeCvctl (s : State) (ad : Nat) (v : Word) : State :=
  if !s.served then s
  else
    let was := s.bit (Reg.msrCvctl ad) 8
    let t := s.writeReg (Reg.msrCvctl ad) v
    let now := t.bit (Reg.msrCvctl ad) 8
    let single := wbit (t.liveReg (Reg.msrCvctl ad)) 7
    let t1 :=
      if !was && now && !single then (t.onConv ad (fun c => { c with pass := true, entry := 0 })).nextRun ad
      else if was && !now then
        ((match (t.conv ad).run with
          | some r => if r.entry.isSome then t.abortRun ad else t
          | none => t).onConv ad (fun c => { c with pass := false, entry := 0 })).nextRun ad
      else t
    let t2 := if wbit v 31 then
        (if (t1.judgeSequence ad).1 = Status.ok then (t1.recordSequence ad).takeSequence ad else t1.recordSequence ad)
      else t1
    if wbit v 30 && wbit (t2.liveReg (Reg.msrCvctl ad)) 7 && !(t2.conv ad).pass then
      (t2.onConv ad (fun c => { c with pass := true, entry := 0 })).nextRun ad
    else t2

/-- The converter that takes the house rounds of a lamp die: AD1 or AD3 (R349). -/
def houseAd (die : Nat) : Nat := 2 * die + 1

/-- The channels of a house round in order (R349). -/
def houseChans (die : Nat) : List Nat :=
  if die = 0 then [0x088, 0x089, 0x08A, 0x08B, 0x096, 0x095, 0x093] else [0x08C, 0x08D, 0x08E, 0x08F, 0x097, 0x093]

/-- The payload of a summary record (R263, R356). -/
def AccSet.summary (a : AccSet) (ad k : Nat) : Nat :=
  ad + 2 ^ 2 * k + 2 ^ 9 * unsigned 64 a.sum + 2 ^ 73 * a.count + 2 ^ 105 * unsigned 16 a.mn + 2 ^ 121 * unsigned 16 a.mx

/-- The words of an accumulator set (R281). -/
def AccSet.words (a : AccSet) : List Word :=
  [lo32 (unsigned 64 a.sum), hi32 (unsigned 64 a.sum), word a.count,
   pack [(0, flag a.settled), (1, flag a.torn), (2, flag a.clip), (3, flag a.full), (4, flag a.mixed), (16, a.chan), (26, a.gain)],
   lo32 a.sumsq, hi32 a.sumsq, pack [(0, unsigned 16 a.mn), (16, unsigned 16 a.mx)], 0,
   lo32 a.tmin, hi32 a.tmin, lo32 a.tmax, hi32 a.tmax, 0, 0, 0, 0]

end Sys2Proof.Machine
end

