-- ==== Sys2Proof/Machine/Line.lean ====
section
/-! DEFINITION. The 8b/10b line code of framed lanes (R102, R104): the code groups of IEEE 802.3, clause 36, which the spec names and
does not print, and the level of a bit of a frame. PRESUMED: the tables are those of the standard. -/

namespace Sys2Proof.Machine

/-- The 6-bit groups abcdei of D.0 to D.31 at running disparity negative, a first. -/
def sixOf : List Nat := [
  0b100111, 0b011101, 0b101101, 0b110001, 0b110101, 0b101001, 0b011001, 0b111000,
  0b111001, 0b100101, 0b010101, 0b110100, 0b001101, 0b101100, 0b011100, 0b010111,
  0b011011, 0b100011, 0b010011, 0b110010, 0b001011, 0b101010, 0b011010, 0b111010,
  0b110011, 0b100110, 0b010110, 0b110110, 0b001110, 0b101110, 0b011110, 0b101011]

/-- The 4-bit groups fghj of y = 0 to 7 at running disparity negative, for data characters. -/
def fourOf : List Nat := [0b1011, 0b1001, 0b0101, 0b1100, 0b1101, 0b1010, 0b0110, 0b1110]

/-- The 10-bit groups of K28.0 to K28.5 at running disparity negative. -/
def kOf : List Nat := [0b0011110100, 0b0011111001, 0b0011110101, 0b0011110011, 0b0011110010, 0b0011111010]

/-- Ones of an n-bit group. -/
def onesOf (n v : Nat) : Nat := countTrue ((List.range n).map (fun i => v.testBit i))

/-- A symbol's 10 bits, a first, sent at a running disparity, and the running disparity after it. -/
def encodeSym (x : Sym) (neg : Bool) : Nat × Bool :=
  let b := x.b.toNat
  if x.k then
    let g := kOf.getD (b / 32) 0
    (if neg then g else 1023 - g, neg != (onesOf 10 g != 5))
  else
    let d := b % 32
    let y := b / 32
    let six := sixOf.getD d 0
    let flip6 := onesOf 6 six != 3
    let g6 := if !neg && (flip6 || d == 7) then 63 - six else six
    let mid := neg != flip6
    let alt := y == 7 && (if mid then d == 17 || d == 18 || d == 20 else d == 11 || d == 13 || d == 14)
    let four := if alt then 0b0111 else fourOf.getD y 0
    let flip4 := onesOf 4 four != 2
    let g4 := if !mid && (flip4 || y == 3) then 15 - four else four
    (16 * g6 + g4, mid != flip4)

/-- The running disparity after a list of symbols. -/
def disparityAfter (neg : Bool) (xs : List Sym) : Bool := xs.foldl (fun n x => (encodeSym x n).2) neg

/-- The 10-bit groups of a list of symbols. -/
def encodeAll : Bool → List Sym → List Nat
  | _, [] => []
  | neg, x :: xs => (encodeSym x neg).1 :: encodeAll (encodeSym x neg).2 xs

/-- Bit r (0 first sent) of a 10-bit group. -/
def groupBit (g r : Nat) : Bool := g.testBit (9 - r)

/-- The idle symbol K28.5 (R104). -/
def idleSym : Sym := ⟨true, 0xBC⟩

/-- The level of a segment and of the idle symbols that follow it at lamp time t, with bits of `bt` TCLK (R102, R104, R149); `neg` says
whether the running disparity is negative at its end. A flash holds its lit symbol times as a list of symbols. -/
def Frame.level (f : Frame) (neg : Bool) (bt t : Nat) : Bool :=
  if t < f.start then false
  else if t < f.stop then
    if f.kind == .flash then decide (t < f.start + f.syms.length * (10 * bt))
    else
      let first := if disparityAfter neg f.syms == neg then neg else !neg
      groupBit ((encodeAll first f.syms).getD ((t - f.start) / (10 * bt)) 0) ((t - f.start) / bt % 10)
  else
    let n := (t - f.stop) / (10 * bt)
    groupBit (encodeSym idleSym (neg != (n % 2 == 1))).1 ((t - f.stop) / bt % 10)

/-- The level of a framed lane at lamp time t: the segment on the line, or the one before it where it has not started yet. -/
def Stream.lineLevel (st : Stream) (bt t : Nat) : Bool :=
  match st.now with
  | none => false
  | some f =>
    if t < f.start then (match st.last with | some g => g.level st.lastNeg bt t | none => false)
    else f.level st.negative bt t

end Sys2Proof.Machine
end

