-- ==== Sys2Proof/Machine/Aspects.lean ====
section
/-! DEFINITION. Aspect streams: polarity and duty (R91, R92, R97, R98), the frames of framed lanes (R105 to R112), the
precedence of changes (R114), husk and sag aspects (R93, R380, R381). -/

namespace Sys2Proof.Machine

/-- Lane configuration of a stream (ASP_LCFG, ASP_LPHASE) in a configuration. -/
def confFramed (c : Conf) (l : Nat) : Bool := wbit (c (Reg.aspLcfg l)) 15
def confRate (c : Conf) (l : Nat) : Nat := field (c (Reg.aspLcfg l)) 13 2
def confW (c : Conf) (l : Nat) : Nat := field (c (Reg.aspLcfg l)) 8 5
def confPre (c : Conf) (l : Nat) : Nat := field (c (Reg.aspLcfg l)) 4 4
def confPol (c : Conf) (l : Nat) : Bool := wbit (c (Reg.aspLcfg l)) 3
def confHusk (c : Conf) (l : Nat) : Nat := field (c (Reg.aspLcfg l)) 1 2
def confFkind (c : Conf) (l : Nat) : Bool := wbit (c (Reg.aspLcfg l)) 0
def confPhase (c : Conf) (l : Nat) : Nat := field (c (Reg.aspLphase l)) 0 16

/-- The bit length in TCLK of a lane rate code: 32, 16, 8 at 20, 40, 80 Mbaud (R25, R103). -/
def bitTicks (rate : Nat) : Nat := if rate = 0 then 32 else if rate = 1 then 16 else 8
/-- The symbol length in TCLK (R26): 10 bits. -/
def symTicks (rate : Nat) : Nat := 10 * bitTicks rate

/-- The husk aspect of a HUSK code (ASP_LCFG.HUSK). -/
def huskAspect (code : Nat) : Aspect := if code = 0 then .bypass else if code = 1 then .block else .dark

/-- d_ins of a content at counter width W (R98). -/
def dInsOf (w : Nat) (c : Content) : Nat :=
  match c.aspect with
  | .insert => if c.pwm then c.duty / 2 ^ (16 - w) else 2 ^ w
  | _ => 0

/-- The counter value c(t) (R97). -/
def counterAt (w pre t : Nat) : Nat := t / 2 ^ pre % 2 ^ w

/-- Whether an aspect-mode generator is in its insertion interval at lamp time t (R97). -/
def inInsertion (w pre phase dIns t : Nat) : Bool :=
  decide ((counterAt w pre t + 2 ^ w - phase % 2 ^ w) % 2 ^ w < dIns)

/-- Whether the light of an aspect-mode stream is lit at a time (R97, R98): DARK forces it dark whatever POL is. -/
def State.aspectLit (s : State) (l t : Nat) : Bool :=
  let st := s.stream l
  st.content.aspect != .dark &&
    (inInsertion (confW s.conf l) (confPre s.conf l) (confPhase s.conf l) st.dIns t != confPol s.conf l)

/-- The retiming delay in TCLK from a shunt line to the lamp (R20): what the controller die does now stands at the lamp so much later. -/
def lampDelay : Nat := 28

/-- The lamp time at which a change made now stands at the lamp (R20). -/
def State.lampTime (s : State) : Nat := s.now + lampDelay

/-- Whether the light of a stream is lit at lamp time t (R97, R102). A lane that is commanded DARK is dark at once, a frame in transmission
included (R92; DESIGN CHOICE beside R110, log entry 95). -/
def State.streamLit (s : State) (l t : Nat) : Bool :=
  if confFramed s.conf l then
    (s.stream l).content.aspect != .dark && (s.stream l).lineLevel (bitTicks (confRate s.conf l)) t
  else s.aspectLit l t

/-- The level of a stream's shunt line at the lamp at interval count m. -/
def Stream.levelAt (st : Stream) (m : Nat) : Bool := st.level != ((st.edges.filter (fun e => decide (m < e))).length % 2 == 1)

/-- The last edge of a stream's shunt line that stands at the lamp by interval count m, 0 before the first. -/
def Stream.edgeBefore (st : Stream) (m : Nat) : Nat := (st.edges.find? (fun e => decide (e ≤ m))).getD 0

/-- The edges that a judgement at interval count m or later can need: those after it, and the two before. -/
def keepEdges (m : Nat) (es : List Nat) : List Nat :=
  es.filter (fun e => decide (m < e)) ++ (es.filter (fun e => decide (e ≤ m))).take 2

/-- How far back echo proving can look (R147): 255 µs and the eight symbols of a return frame at 20 Mbaud. -/
def echoSpan : Nat := usTicks 255 + 8 * symTicks 0

/-- Whether a position carries a stream: a LAMP in service or an active spare (R46, R113). -/
def State.carries (s : State) (p : Nat) : Bool := (s.prv p).retired.isNone && (confMode s.conf p == 1 || (s.prv p).active)

/-- Whether the shunt of a position is open at interval count m, now or later: the level that its die holds while it applies its husk values
(R31), else its stream's line from its last own edge on; closed where it carries no stream. -/
def State.shuntOpen (s : State) (p m : Nat) : Bool :=
  s.carries p && (if s.sinkHeld (strOf p) then (s.prv p).preload.getD false
    else decide ((s.prv p).ownEdge ≤ m) && (s.stream (s.streamOf p)).levelAt m)

/-- The last edge of a position's shunt by interval count m. -/
def State.shuntEdge (s : State) (p m : Nat) : Nat :=
  if s.carries p && !s.sinkHeld (strOf p) && decide ((s.prv p).ownEdge ≤ m) then
    max (s.prv p).ownEdge ((s.stream (s.streamOf p)).edgeBefore m)
  else (s.prv p).ownEdge

/-- Whether a string's current is at least the 2.0 mA of R5. -/
def State.conducts (s : State) (str : Nat) : Bool := decide (32 ≤ (s.str str).cur)

/-- Whether a lamp is lit now (R5): its shunt is open and its string current is at least 2.0 mA. -/
def State.lampLit (s : State) (p : Nat) : Bool := s.shuntOpen p s.mono && s.conducts (strOf p)

/-- The lamp whose shunt line carries stream l now: the lamp while in service, else its active spare (R113). -/
def State.edgeLamp (s : State) (l : Nat) : Option Nat :=
  if (s.prv l).retired.isNone then some l
  else match s.smOfLamp l with
    | some sm => if (s.smt sm).spv && (s.prv (s.smt sm).spare).active then some (s.smt sm).spare else none
    | none => none

/-- The shunt line of stream l driven as the stream now asks (R20): an edge stands at the lamp 28 TCLK later, with a LAMP_EDGE record where
the lamp die follows the line; the record shows the lamp lit by R5 (R261, R263). -/
def State.follow (s : State) (l : Nat) : State :=
  let st := s.stream l
  let v := s.streamLit l s.lampTime
  if v == st.level then s
  else
    let t := s.setStream l { st with
      level := v, edges := (s.mono + lampDelay) :: keepEdges (if confFramed s.conf l then s.mono else s.mono - echoSpan) st.edges }
    match s.edgeLamp l with
    | some p => if s.sinkHeld (strOf p) then t else t.recEdge p s.lampTime (v && s.conducts (strOf p)) false
    | none => t

/-- The lit duty that ASP_LSTAT.LDUTY reports (R98). -/
def State.litDuty (s : State) (l : Nat) : Nat :=
  if confFramed s.conf l then 0
  else if (s.stream l).content.aspect == .dark then 0
  else if confPol s.conf l then 2 ^ confW s.conf l - (s.stream l).dIns else (s.stream l).dIns

/-! Frames. -/

/-- The control characters K28.0 to K28.5 (R102). -/
def k28 (y : Nat) : Sym := ⟨true, BitVec.ofNat 8 (32 * y + 28)⟩
/-- A data character. -/
def dsym (n : Nat) : Sym := ⟨false, BitVec.ofNat 8 n⟩

/-- The check byte of a strike (R105): SEQ, ASPECT, 0, odd parity. -/
def checkByte (seq aspect : Nat) : Nat :=
  let b := 16 * seq + 4 * aspect
  b + flag (countTrue (byteBits (BitVec.ofNat 8 b)) % 2 == 0)

/-- A strike frame (R105): K28.1 INSERT, K28.2 BYPASS, K28.3 BLOCK, or K28.4 IDLE, and its check character. -/
def strikeSyms (idle : Bool) (seq : Nat) (a : Aspect) : List Sym :=
  [k28 (if idle then 4 else a.code), dsym (checkByte seq a.code)]

/-- The CMD byte of a command frame (R106): VER 1, HUSK, PWM, ASPECT. -/
def cmdByte (c : Content) : Nat := 0x10 + 8 * flag c.husk + 4 * flag c.pwm + c.aspect.code

/-- A command frame (R106, R107): K28.0, CMD, DUTY_H, DUTY_L, SEQ, CRC. -/
def commandSyms (seq : Nat) (c : Content) : List Sym :=
  let duty := if c.pwm then c.duty else 0
  let bs := [cmdByte c, duty / 256 % 256, duty % 256, 16 * (c.cyc % 16) + seq]
  k28 0 :: bs.map dsym ++ [dsym (crc8 (bs.map (BitVec.ofNat 8)))]

/-- Whether a stream's content is sent as a strike (R109): steady aspects with FKIND = 0. -/
def strikes (fkind : Bool) (c : Content) : Bool := !fkind && !c.pwm

/-- New content queued on a framed lane (R110): a newer item replaces the older pending one, counted per lane. -/
def Stream.queueNew (st : Stream) (c : Content) : Stream :=
  if st.sagPend then st
  else { st with
    newPend := some c, restartPend := false,
    replaced := if st.newPend.isSome || st.restartPend then satAdd 32 st.replaced 1 else st.replaced }

/-- A husk frame queued (R110): it replaces pending new content; only a sag frame replaces it. -/
def Stream.queueHusk (st : Stream) : Stream :=
  if st.sagPend then st
  else { st with
    huskPend := true, newPend := none, restartPend := false,
    replaced := if st.newPend.isSome || st.huskPend || st.restartPend then satAdd 32 st.replaced 1 else st.replaced }

/-- A sag frame queued (R110): it replaces whatever is pending and is never replaced. -/
def Stream.queueSag (st : Stream) : Stream :=
  { st with sagPend := true, huskPend := false, newPend := none, restartPend := false,
            replaced := if st.newPend.isSome || st.huskPend || st.restartPend then satAdd 32 st.replaced 1 else st.replaced }

/-- Nothing waits on a framed lane whose serialiser stops (R92). -/
def Stream.stopSending (st : Stream) : Stream :=
  { st with huskPend := false, newPend := none, restartPend := false, repeatPend := false, idlePend := false }

/-! Changes of a stream. -/

/-- Who changes a stream (R114). -/
inductive AspSrc where
  | sag | husk | handover | decision | pin | host
  deriving DecidableEq, Repr

/-- A content shown on stream l: aspect, PWM role and duty in force, d_ins (R98, R99), any fade ended (R101), the frame
queued on a framed lane (R109, R110), and the entry's ASPECT, PWMSM, SWCNT and CTIME (R172, R188; DESIGN CHOICE: a change of the duty
alone leaves CTIME, log entry 95). A fade of `fadeUs` µs starts from the d_ins in force where the command changes aspect or duty, or meets
a fade that runs (R100, R101). -/
def State.show (s : State) (src : AspSrc) (l : Nat) (c : Content) (fadeUs : Nat) : State :=
  let st := s.stream l
  let framed := confFramed s.conf l
  let d1 := dInsOf (confW s.conf l) c
  let same := st.content.aspect == c.aspect && st.content.pwm == c.pwm && (!c.pwm || st.content.duty == c.duty)
  let fading := fadeUs != 0 && (!same || st.fade.isSome)
  let st1 := { st with
    content := c, dIns := if fading then st.dIns else d1,
    fade := if fading then some ⟨st.dIns, d1, s.mono, fadeUs⟩ else none,
    husked := src == .husk || (src == .sag && st.husked) }
  let st2 :=
    if !framed then st1
    else match src with
      | .sag => st1.queueSag
      | .husk => if c.aspect == .dark then st1.stopSending else st1.queueHusk
      | _ => if c.aspect == .dark then st1.stopSending else if same then st1 else st1.queueNew c
  let t := s.setStream l st2
  let t1 := match s.smOfLamp l with
    | some sm => t.onSmt sm (fun e =>
        let changed := e.aspect != c.aspect || e.pwmsm != c.pwm
        { e with aspect := c.aspect, pwmsm := c.pwm, swcnt := if changed then wrap 32 (e.swcnt + 1) else e.swcnt,
                 ctime := if changed then s.now else e.ctime })
    | none => t
  t1.follow l

/-- Whether stream l is in the husk state: the device husk, or the arm husk of its submodule's arm (R381); a device husk
darkens lamps that no entry names. -/
def State.streamHusked (s : State) (l : Nat) : Bool :=
  s.devHusk || (match s.smOfLamp l with | some sm => s.armHusk (s.smt sm).arm | none => false)

/-- A fade ended at once, the duty it runs to in force (R101). -/
def State.endFade (s : State) (l : Nat) : State :=
  match (s.stream l).fade with
  | some f => (s.onStream l (fun st => { st with dIns := f.d1, fade := none })).follow l
  | none => s

/-- The content of a stream's husk aspect (R381): the configured one, DARK for a lamp that no entry names. -/
def State.huskContent (s : State) (l : Nat) : Content :=
  match s.smOfLamp l with
  | some _ => ⟨huskAspect (confHusk s.conf l), false, 0, true, 0⟩
  | none => ⟨.dark, false, 0, true, 0⟩

/-- The level that a position's die holds for it as its preloaded husk value (R31, R93, R113): the steady level of its stream's husk aspect;
dark where that aspect needs a framed stream, and where the position carries no stream. -/
def State.huskLevel (s : State) (p : Nat) : Bool :=
  let l := s.streamOf p
  s.carries p && !confFramed s.conf l && (s.huskContent l).aspect != .dark && confPol s.conf l

/-- The lamps of a die. -/
def lampsOfDie (d : Nat) : List Nat := (List.range 256).map (fun i => 256 * d + i)

/-- The positions of a die take their preloaded husk values statically (R31): `record` while the recorder is clocked. -/
def State.preloadDie (s : State) (d : Nat) (record : Bool) : State :=
  s.each ((lampsOfDie d).filter (fun p => s.shuntOpen p s.mono || s.huskLevel p)) (fun t p =>
    let v := s.huskLevel p
    let changed := v != s.shuntOpen p s.mono
    (t.onPrv p (fun x => { x with preload := some v, ownEdge := if changed then s.mono else x.ownEdge })).when (changed && record)
      (fun t => t.recEdge p s.now (v && s.conducts (strOf p)) true))

/-- The positions of a die that has released its husk values follow their shunt lines again (R33). -/
def State.followDie (s : State) (d : Nat) : State :=
  s.each ((lampsOfDie d).filter (fun p => (s.prv p).preload.isSome || s.shuntOpen p s.mono)) (fun t p =>
    let v := s.carries p && (s.stream (s.streamOf p)).levelAt s.mono
    let changed := v != (s.carries p && (s.prv p).preload.getD false)
    (t.onPrv p (fun x => { x with preload := none, ownEdge := if changed then s.mono else x.ownEdge })).when changed
      (fun t => t.recEdge p s.now (v && s.conducts (strOf p)) true))

/-- Whether a change of a source may act on a stream now (R114): from t0 to the warm restart only the sag acts; in the husk
state decisions, pins and host commands command nothing. -/
def State.mayAct (s : State) (src : AspSrc) (l : Nat) : Bool :=
  match src with
  | .sag => true
  | .husk | .handover => !s.saved
  | .decision | .pin | .host => !s.saved && !s.streamHusked l

/-- A change commanded (R114): applied, or discarded; a discarded host command sets ASP_LSTAT.REFUSED. -/
def State.commandStream (s : State) (src : AspSrc) (l : Nat) (c : Content) : State :=
  let fadeUs := if src == .host && !confFramed s.conf l then s.fld (Reg.aspLcfg l) 16 16 else 0
  if s.mayAct src l then s.show src l c fadeUs
  else if src == .host then s.setBit (Reg.aspLstat l) 20 true else s

/-- Streams that take their husk aspect when a husk begins: those husked now that were not before (R381, R114). -/
def State.huskEntry (before s : State) : State :=
  if s.saved then s
  else
    let named := (s.weir.smt.filter (fun e => e.2.valid)).map (fun e => e.2.lamp)
    let t := s.each (named.filter (fun l => s.streamHusked l && !before.streamHusked l))
      (fun s l => s.commandStream .husk l (s.huskContent l))
    if s.devHusk && !before.devHusk then
      t.each ((t.lamps.streams.map Prod.fst).filter (fun l => !named.contains l && (t.stream l).content.aspect != .dark))
        (fun s l => s.commandStream .husk l (s.huskContent l))
    else t

/-- WEIR_ASTAT.HUSKED follows each arm's husk, each change raises source 34 (R199), and the arm's next decision is its first
after the husk (R191). -/
def State.huskFlags (s : State) : State :=
  s.each (List.range 8) (fun s a =>
    let h := s.devHusk || s.armHusk a
    let t := s.when h (fun s => if (s.arm a).fromHusk then s else s.onArm a (fun x => { x with fromHusk := true }))
    if t.bit (Reg.weirAstat a) 13 = h then t else (t.setBit (Reg.weirAstat a) 13 h).irq 34)

/-- The state after an operation that may begin or end a husk (R380 to R382). -/
def State.withHusk (s : State) (f : State → State) : State := (State.huskEntry s (f s)).huskFlags

/-- A repeat queued at priority 4 on a framed stream of which a symbol of a frame was carried between two lamp times (R112). -/
def State.queueRepeat (s : State) (l since till : Nat) : State :=
  let st := s.stream l
  let hit := fun (f : Frame) => f.kind != .flash && f.kind != .restart && decide (since < f.stop) && decide (f.start < till)
  let touched := st.now.any hit || st.last.any hit
  if confFramed s.conf l && touched then s.setStream l { st with repeatPend := true } else s

end Sys2Proof.Machine
end

