-- ==== Sys2Proof/Machine/Avail.lean ====
section
/-! DEFINITION. The submodule table in operation: availability and its causes (R181 to R183), rank lists (R176), entry images
(R169, R170), retirement and takeover (R83, R154), and reaction shadows as they open (R390). -/

namespace Sys2Proof.Machine

/-- The selection authority of an arm (R167): 0 WEIR, 1 HOST, 2 MIXED. -/
def State.auth (s : State) (a : Nat) : Nat := s.fld (Reg.weirAcfg a) 0 2

/-- Whether a cause of R181 other than U_FRESH holds, a pending insertion or move between rank lists included (R174). -/
def Smt.otherCause (e : Smt) : Bool := e.uLamp || e.uCut || e.uStale || e.uGate || e.pin != 0 || e.moving.isSome

/-- An entry's availability settled after its causes changed from those of `old` (R181, R182): U_FRESH starts when the last
other cause ends, any other cause clears FRESH, and the count of transitions to unavailable follows (R170). -/
def Smt.settle (e old : Smt) : Smt :=
  let fresh := if e.otherCause then false else if old.otherCause || !old.valid then true else e.uFresh
  let av := e.valid && !e.otherCause && !fresh
  { e with
    uFresh := e.valid && fresh, fresh := if e.otherCause || (old.otherCause && !e.otherCause) then 0 else e.fresh,
    avail := av, unavcnt := if old.avail && !av then satAdd 16 e.unavcnt 1 else e.unavcnt }

/-- Whether the HEAD's last round of an arm has not completed (R233). -/
def State.roundRuns (s : State) (a : Nat) : Bool := (Tab.get (fun _ => none) s.chain.rounds a).isSome

/-- The part of this device in a round of an arm that runs over the chain (R222). -/
def State.partRuns (s : State) (a : Nat) : Option Round := Tab.get (fun _ => none) s.chain.parts a

/-- Whether a decision of an arm runs: from its snapshot until its round is decided or lost (R183, R222). -/
def State.deciding (s : State) (a : Nat) : Bool := s.roundRuns a || (s.partRuns a).isSome

/-- The BYPASS of an unavailable submodule (R183), a change with its record (R263). -/
def State.bypassSm (s : State) (sm : Nat) : State :=
  let e := s.smt sm
  if (s.stream e.lamp).content.aspect == .bypass then s
  else (s.commandStream .decision e.lamp ⟨.bypass, false, 0, false, (s.arm e.arm).cycle % 16⟩).recChange sm Aspect.bypass.code false 0 e.arm

/-- The BYPASS commands that waited for the end of an arm's decision (R183): of the candidates of its snapshot that are unavailable now. -/
def State.afterList (s : State) (a : Nat) (cands : List Cand) : State :=
  s.each (cands.map Cand.sm) (fun s sm =>
    let e := s.smt sm
    s.when (e.valid && e.arm == a && !e.avail && e.pin == 0 && s.auth a != 1) (fun s => s.bypassSm sm))

/-- This device's part of a round given up (R222, R225, R234): its aspects stay, and the BYPASS commands that waited are issued. -/
def State.dropPart (s : State) (a : Nat) : State :=
  match s.partRuns a with
  | some r => (s.onChain (fun c => { c with parts := Tab.put (fun _ => none) c.parts a none })).afterList a r.cands
  | none => s

/-- An entry's causes changed, its availability settled, and an unpinned submodule that became unavailable commanded BYPASS under WEIR or
MIXED (R183): at once, or after the change list of a decision of its arm that runs. `quiet` leaves the BYPASS to the decision that found
the cause. -/
def State.causeSmt (s : State) (sm : Nat) (quiet : Bool) (f : Smt → Smt) : State :=
  let old := s.smt sm
  let t := s.onSmt sm (fun e => (f e).settle e)
  let new := t.smt sm
  t.when (old.avail && !new.avail && new.pin == 0 && new.valid && s.auth new.arm != 1 && !quiet && !s.deciding new.arm)
    (fun t => t.bypassSm sm)

/-- Whether an entry's stream runs through a cut string or a lamp die that holds its own husk values (U_CUT, R181). -/
def State.cutNow (s : State) (e : Smt) : Bool :=
  match s.carrier e with
  | some l => (s.str (strOf l)).state == .cut || (s.str (strOf l)).state == .sagCut || (s.die (dieOfLamp l)).ownHusk
  | none => false

/-- Whether an entry's stream is on a STEADY string and its die follows its shunt lines (U_CUT ends, R181). -/
def State.cutOver (s : State) (e : Smt) : Bool :=
  match s.carrier e with
  | some l => (s.str (strOf l)).state == .steady && !(s.die (dieOfLamp l)).ownHusk
  | none => false

/-- U_LAMP and U_CUT of one entry as the lamps stand (R181). -/
def State.reviewSmt (s : State) (sm : Nat) : State :=
  s.causeSmt sm false (fun e => { e with
    uLamp := (s.carrier e).isNone,
    uCut := if s.cutNow e then true else e.uCut && !s.cutOver e })

/-- U_LAMP and U_CUT of every valid entry as the lamps stand. -/
def State.review (s : State) : State :=
  s.each ((s.weir.smt.filter (fun e => e.2.valid)).map (fun e => e.1)) (fun s sm => s.reviewSmt sm)

/-! Rank lists (R176). -/

/-- The entries an arm's unit ranks, in ascending VCAP, ties by SM id: (VCAP as ranked, SM id). -/
def State.rankList (s : State) (a : Nat) : List (Nat × Nat) :=
  sortBy (fun x y => decide (x.1 < y.1) || (x.1 == y.1 && decide (x.2 < y.2)))
    (s.weir.smt.filterMap (fun e =>
      if e.2.valid && e.2.arm == a then e.2.ranked.map (fun v => (v, e.1)) else none))

/-- RANK of an entry (R170): its position in its arm unit's list, 0x3FF when it is invalid or in no list. -/
def State.rank (s : State) (sm : Nat) : Nat :=
  let e := s.smt sm
  if e.valid && e.ranked.isSome then ((s.rankList e.arm).findIdx? (fun x => x.2 == sm)).getD 0x3FF else 0x3FF

/-- The entries of an arm, valid now, whose RANK an operation has moved and whose DEC.GEN it has not yet counted (R170). -/
def State.reranked (s before : State) (a : Nat) : State :=
  s.each (((s.weir.smt.filter (fun e => e.2.valid && e.2.arm == a)).map Prod.fst).filter (fun sm =>
      s.rank sm != before.rank sm && (s.smt sm).gen == (before.smt sm).gen))
    (fun t sm => t.setSmt sm { t.smt sm with gen := wrap 16 ((t.smt sm).gen + 1) })

/-- The words of an entry, CFG0 to the reserved word at 0x3C (R169, R170). -/
def State.smtWords (s : State) (sm : Nat) : List Word :=
  let e := s.smt sm
  [pack [(0, sm), (12, e.arm), (15, flag e.valid), (16, e.owner), (20, e.pin)],
   pack [(0, e.lamp), (16, e.spare), (31, flag e.spv)],
   pack [(0, e.rxl), (16, e.tag)], 0,
   pack [(0, e.vcap), (16, e.temp), (24, e.status)],
   pack [(0, e.echo), (8, e.age), (16, e.frames)],
   lo32 e.rtime, hi32 e.rtime,
   pack [(0, e.aspect.code), (2, flag e.pwmsm), (3, flag e.avail), (4, s.rank sm), (16, flag e.uLamp), (17, flag e.uCut),
     (18, flag e.uStale), (19, flag e.uGate), (20, flag (e.valid && e.pin != 0)), (21, flag e.uFresh), (22, e.fresh)],
   word e.swcnt,
   pack [(0, e.stalecnt), (16, e.gatecnt)],
   pack [(0, e.unavcnt), (16, e.pwmcnt)],
   lo32 e.ctime, hi32 e.ctime,
   pack [(0, e.decCycle), (16, e.gen)], 0]

/-! Reaction shadows (R390). -/

/-- A shadow opened by an event. -/
def State.openShadow (s : State) (k : ShadowKind) : State :=
  s.onFlt (fun f => { f with
    shadows := if f.shadows.contains k then f.shadows else k :: f.shadows, reinit := f.reinit.filter (fun x => x.1 != k) })

/-! Retirement (R154, R156) and takeover (R83, R113). -/

/-- Data words of a lamp report (R384): cause, voltage code, the lamp's epoch after the report; the string. -/
def State.lampData (s : State) (l mv : Nat) : Word × Word :=
  (pack [(0, match (s.prv l).retired with | some c => c.code | none => 0), (3, voltCode mv), (16, (s.prv l).epoch)],
   word (strOf l))

/-- A report about a lamp with its SM id, arm and data (R161). -/
def State.lampReport (s : State) (code l mv time : Nat) : State :=
  let tag := s.smTag l
  let d := s.lampData l mv
  s.report ⟨code, l, tag.1, tag.2, d.1, d.2, time, false, false⟩

/-- A lamp retired by the lamp die (R132, R136, R143, R154, R156): its shunt closes and stays closed against its line, its
epoch increments, and the report goes on the status bus. -/
def State.retire (s : State) (l : Nat) (c : Cause) (mv : Nat) : State :=
  if (s.prv l).retired.isSome then s
  else
    let lit := s.shuntOpen l s.mono
    let t := (if lit then s.recEdge l s.now false true else s).onPrv l (fun p => { p with
      ownEdge := if lit then s.mono else s.shuntEdge l s.mono,
      retired := some c, shuntHeld := c != .host, epoch := wrap 16 (p.epoch + 1), shortCount := 0, vfHigh := false,
      revLogged := false, counters := { p.counters with retirements := satAdd 32 p.counters.retirements 1 } })
    t.onLamps (fun x => { x with notes := x.notes ++ [⟨l, c, mv, s.now⟩] })

/-- Whether a standby spare can take a stream (R83, R139): a SPARE position not retired, not active, its string not cut. -/
def State.spareReady (s : State) (l : Nat) : Bool :=
  confMode s.conf l == 2 && (s.prv l).retired.isNone && !(s.prv l).active &&
  (s.str (strOf l)).state != .cut && (s.str (strOf l)).state != .sagCut

/-- A trickle test that ends unjudged (R143): counted and recorded; a request of the host for it waits on (R163). -/
def State.unjudged (s : State) (l code : Nat) (f : PrvCounters → PrvCounters) : State :=
  (s.onPrv l (fun p => { p with trickle := none, trkEnd := s.mono, counters := f p.counters })).recProve l 1 code 0 (s.prv l).epoch false

/-- A trickle test that ends ABORTED (R143). -/
def State.abortTrickle (s : State) (l : Nat) : State :=
  if (s.prv l).trickle.isSome then s.unjudged l 4 (fun c => { c with trkAborted := satAdd 32 c.trkAborted 1 }) else s

/-- A spare takes its partner's stream (R83, R112, R113): its trickle test ends ABORTED (R160), it becomes active under a new epoch, a
fade of the stream ends (R101), and the stream gets a repeat when a frame was touched up to the takeover's edge. -/
def State.takeover (s : State) (partner spare : Nat) (since : Nat) : State :=
  let t := (s.abortTrickle spare).endFade partner
  let lit := (t.stream partner).level
  ((if lit && !t.sinkHeld (strOf spare) then t.recEdge spare t.lampTime (t.conducts (strOf spare)) false else t).onPrv spare (fun p => { p with
    active := true, epoch := wrap 16 (p.epoch + 1),
    ownEdge := if lit then s.mono + lampDelay else p.ownEdge })).queueRepeat partner since s.lampTime

/-- The fault code of a retirement (R143, R161): none for HOST, SPARE_FAIL for a standby spare. -/
def retireCode (standby : Bool) (c : Cause) : Option Nat :=
  match c with
  | .host => none
  | .openLit | .openTrickle => if standby then some Code.spareFail else some Code.lampOpen
  | .shortLit | .shortTrickle => if standby then some Code.spareFail else some Code.lampShort

/-- The effects of one retirement on the controller die (R154): acknowledgement, takeover, availability, rail targets, source 33
and the shadow of R390; the fault report of its cause. -/
def State.applyRetirement (s : State) (n : RetireNote) : State :=
  let standby := confMode s.conf n.lamp == 2 && !(s.prv n.lamp).active
  let t1 := s.onPrv n.lamp (fun p => { p with shuntHeld := false, active := false })
  let t2 := match t1.smOfLamp n.lamp with
    | some sm => if (t1.smt sm).spv && t1.spareReady (t1.smt sm).spare then t1.takeover n.lamp (t1.smt sm).spare n.time else t1
    | none => t1
  let gs := (groupOf (strOf n.lamp)) :: (match t2.smOfLamp n.lamp with
    | some sm => if (t2.smt sm).spv then [groupOf (strOf (t2.smt sm).spare)] else []
    | none => [])
  let t3 := ((t2.retarget gs).review.irq 33).openShadow (.retirement n.lamp)
  match retireCode standby n.cause with
  | some code => t3.lampReport code n.lamp n.mv n.time
  | none => t3

end Sys2Proof.Machine
end

