-- ==== Sys2Proof/Machine/Pick.lean ====
section
/-! DEFINITION. The choice of inserted submodules by one device: order, count step, swap step, PWM submodule (R184 to R187),
grid, buckets and the merge of a spanned arm (R220 to R226), over lists of candidates. -/

namespace Sys2Proof.Machine

/-- Whether candidate a precedes b: key, then SM id (R184). -/
def Cand.before (a b : Cand) : Bool := decide (a.key < b.key) || (a.key == b.key && decide (a.sm < b.sm))

/-- Candidates in the order of R184. -/
def orderCands (l : List Cand) : List Cand := sortBy Cand.before l

/-- The key of a VCAP under DIR (R184). -/
def keyOf (dir : Bool) (v : Nat) : Nat := if dir then v else 0xFFFF - v

/-- The first k candidates whose `ins` differs from v set to v. -/
def flipFirst (v : Bool) : Nat → List Cand → List Cand
  | 0, l => l
  | _, [] => []
  | k + 1, c :: l => if c.ins == v then c :: flipFirst v (k + 1) l else { c with ins := v } :: flipFirst v k l

/-- Members of a candidate list. -/
def insCount (l : List Cand) : Nat := (l.filter Cand.ins).length

/-- k non-members with the smallest keys added. -/
def addSmallest (k : Nat) (l : List Cand) : List Cand := flipFirst true k l
/-- k members with the largest keys removed. -/
def dropLargest (k : Nat) (l : List Cand) : List Cand := (flipFirst false k l.reverse).reverse

/-- The count step of R184: members added or removed until there are n. -/
def countStep (n : Nat) (l : List Cand) : List Cand :=
  if insCount l ≤ n then addSmallest (n - insCount l) l else dropLargest (insCount l - n) l

/-- The swaps the change cap allows (R184): none is unlimited. -/
def swapsAllowed (cap mandatory : Nat) : Option Nat := if cap = 0 then none else some ((cap - mandatory) / 2)

/-- The swap pairs (out, in) that the swap step makes: members by key descending against non-members by key ascending, while
the incoming key is below the outgoing one and not both lie within the band. -/
def swapPairs (allow : Option Nat) (hi lo : Nat) (l : List Cand) : List (Nat × Nat) :=
  let m := l.filter (fun c => !c.ins)
  let o := (l.filter Cand.ins).reverse
  let pairs := (o.zip m).takeWhile (fun p =>
    decide (p.2.key < p.1.key) && !(decide (p.1.key ≤ hi) && decide (p.2.key ≥ lo)))
  (match allow with | some k => pairs.take k | none => pairs).map (fun (p : Cand × Cand) => (p.1.sm, p.2.sm))

/-- The swap step of R184 applied. -/
def swapStep (allow : Option Nat) (hi lo : Nat) (l : List Cand) : List Cand :=
  let ps := swapPairs allow hi lo l
  l.map (fun c => if ps.any (fun p => p.1 == c.sm) then { c with ins := false }
    else if ps.any (fun p => p.2 == c.sm) then { c with ins := true } else c)

/-- The PWM submodule: the non-member with the smallest key after the swap step (R187). -/
def pwmChoice (l : List Cand) : Option Nat := (l.find? (fun c => !c.ins)).map Cand.sm

/-- A plan for one arm: the candidates with their membership, n, θ (none where the rule gives none), the mandatory changes,
shortfall, CAPX, and the PWM submodule. -/
structure Plan where
  cands : List Cand
  n : Nat
  theta : Option Nat
  mandatory : Nat
  short : Bool
  capx : Bool
  pwm : Option Nat
  deriving DecidableEq, Repr

/-- The fraction's part of a plan (R187): the PWM submodule, or shortfall when every candidate is a member. -/
def Plan.withFrac (p : Plan) (frac : Nat) : Plan :=
  if frac = 0 then { p with pwm := none }
  else match pwmChoice p.cands with
    | some m => { p with pwm := some m }
    | none => { p with pwm := none, short := true }

/-- The plan of an arm held in one device (R184): reference less pinned insertions, count step, swap step. -/
def localPlan (nIns pins cap band frac : Nat) (cands : List Cand) : Plan :=
  let l := orderCands cands
  let want := nIns - pins
  let n := min want l.length
  let theta := if n = 0 then 0 else ((l.map Cand.key).getD (n - 1) 0)
  let mandatory := if insCount l ≤ n then n - insCount l else insCount l - n
  let l1 := countStep n l
  let l2 := swapStep (swapsAllowed cap mandatory) (theta + band) (theta - band) l1
  (Plan.mk l2 n (if n = 0 then none else some theta) mandatory (decide (want > l.length)) (decide (mandatory > cap) && cap != 0) none).withFrac frac

/-! Spanned arms. -/

/-- The bucket of a key in a grid (R220). -/
def bucketOf (base shift k : Nat) : Nat :=
  if k < base then 0 else if k ≥ base + 62 * 2 ^ shift then 63 else 1 + (k - base) / 2 ^ shift

/-- The counts of a candidate list by bucket: members when v holds, non-members otherwise (R222). -/
def bucketCounts (base shift : Nat) (v : Bool) (l : List Cand) : List Nat :=
  (List.range 64).map (fun j => (l.filter (fun c => c.ins == v && bucketOf base shift c.key == j)).length)

/-- Two bucket lists added, bucket by bucket. -/
def addBuckets (a b : List Nat) : List Nat := (List.range 64).map (fun j => a.getD j 0 + b.getD j 0)

/-- The sum of the buckets before j. -/
def sumBelow (l : List Nat) (j : Nat) : Nat := (l.take j).sum
/-- The sum of the buckets after j. -/
def sumAbove (l : List Nat) (j : Nat) : Nat := (l.drop (j + 1)).sum

/-- The lowest and highest keys of a bucket (R224). -/
def bucketLow (base shift j : Nat) : Nat := if j = 0 then 0 else base + (j - 1) * 2 ^ shift
def bucketHigh (base shift j : Nat) : Nat :=
  if j = 0 then base - 1 else if j = 63 then 0xFFFF else base + j * 2 ^ shift - 1

/-- What the HEAD sends of a merge (R224, THR of R211): MODE 0 none, 1 add, 2 remove. -/
structure Thr where
  mode : Nat
  short : Bool
  stale : Nat
  jb : Nat
  jt : Nat
  rr : Nat
  n : Nat
  thLo : Nat
  thHi : Nat
  offE : Nat
  offW : Nat
  tot : Nat
  deriving DecidableEq, Repr

/-- The merge of R224 over the summed buckets. `free` supplies JB, JT and RR where the rule gives them no value. -/
def mergeOf (nIns pins fixed stale base shift : Nat) (nm sc headNm headS eastNm eastS : List Nat) (free : Nat) : Thr :=
  let want := nIns - pins - fixed
  let navail := (addBuckets nm sc).sum
  let n := min want navail
  let jt := if n = 0 then free % 64 else
    (firstIdx 64 (fun j => decide (sumBelow (addBuckets nm sc) (j + 1) ≥ n))).getD 63
  let cs := sc.sum
  let mode := if cs < n then 1 else if cs > n then 2 else 0
  let k := if cs < n then n - cs else cs - n
  let jb :=
    if mode = 1 then (firstIdx 64 (fun j => decide (sumBelow nm (j + 1) ≥ k))).getD 63
    else if mode = 2 then
      ((List.range 64).reverse.find? (fun j => decide (sc.getD j 0 + sumAbove sc j ≥ k))).getD 0
    else free / 64 % 64
  let rr := if mode = 1 then k - sumBelow nm jb else if mode = 2 then k - sumAbove sc jb else free / 4096 % 2048
  let own := if mode = 2 then headS.getD jb 0 else headNm.getD jb 0
  let east := if mode = 2 then eastS.getD jb 0 else eastNm.getD jb 0
  ⟨mode, decide (want > navail), stale, jb, jt, rr, n, bucketLow base shift jt, bucketHigh base shift jt, own, own + east,
   if mode = 2 then sc.getD jb 0 else 0⟩

/-- One device's own part of a spanned arm (R225): `pre` is the count of lower positions in bucket JB. -/
def spannedPlan (t : Thr) (base shift pre cap band : Nat) (cands : List Cand) : Plan :=
  let l := orderCands cands
  let nm := bucketCounts base shift false l
  let sc := bucketCounts base shift true l
  let k :=
    if t.mode = 1 then sumBelow nm t.jb + min (t.rr - pre) (nm.getD t.jb 0)
    else if t.mode = 2 then sumAbove sc t.jb + min (t.rr - (t.tot - pre - sc.getD t.jb 0)) (sc.getD t.jb 0)
    else 0
  let l1 := if t.mode = 1 then addSmallest k l else if t.mode = 2 then dropLargest k l else l
  let l2 := swapStep (swapsAllowed cap k) (t.thHi + band) (t.thLo - band) l1
  Plan.mk l2 t.n none k false (decide (k > cap) && cap != 0) none

end Sys2Proof.Machine
end

