-- ==== Sys2Proof/Machine/Select.lean ====
section
/-! DEFINITION. Commits and decisions of arms: the ordered table of R179, the snapshot (R177, R182), the change list (R188) and
the status registers of a decision (R186, R187, R199). -/

namespace Sys2Proof.Machine

/-- What becomes of one arm bit of a commit (R179). -/
inductive Verdict where
  | refused | early | held | taken
  deriving DecidableEq, Repr

/-- The valid entries of an arm. -/
def State.armSms (s : State) (a : Nat) : List Nat :=
  (s.weir.smt.filter (fun e => e.2.valid && e.2.arm == a)).map (fun e => e.1)

/-- Whether an arm spans devices (WEIR_ACFG.SPAN). -/
def State.spans (s : State) (a : Nat) : Bool := s.bit (Reg.weirAcfg a) 4

/-- What the HEAD or a member knows of one position. -/
def State.member (s : State) (q : Nat) : Member := Tab.get (fun _ => Member.reset) s.chain.members q

/-- The positions live in the current epoch, the device's own not counted. -/
def State.livePeers (s : State) : List Nat :=
  (List.range 8).filter (fun q => s.chain.live.testBit q && q != s.chain.pos)

/-- Whether a live device reports a spanned arm husked (R234, R383), at the HEAD. -/
def State.peerHusk (s : State) (a : Nat) : Bool :=
  s.chain.role == .head && s.spans a &&
  s.livePeers.any (fun q => (s.member q).devHusk || (s.member q).armHusk.testBit a)

/-- Order 1 of R179: service state and arm state refuse commits (R470, R196, R234). -/
def State.commitsRefused (s : State) (a : Nat) : Bool :=
  s.clk.lost || !(s.service == some .run || s.service == some .maint) || s.armHusk a || (s.arm a).noSpare || s.peerHusk a

/-- The ordered table of R179 for one arm; a forwarded commit (R180, R222) passes orders 3 and 5. -/
def State.verdict (s : State) (a nIns : Nat) (forwarded : Bool) : Verdict :=
  if s.commitsRefused a then .refused
  else if s.auth a == 1 then .refused
  else if !forwarded && s.spans a && s.chain.role == .member then .refused
  else if nIns > 1024 then .refused
  else if !forwarded && ((match (s.arm a).lastTaken with
      | some t => !s.past t (usTicks 2)
      | none => false) || s.roundRuns a) then .early
  else if (s.unit (s.arm a).unit).rebuild.isSome then .held
  else .taken

/-! Snapshot (R177, R182). -/

/-- A report about a submodule (R368, R384): the lamp that carries its stream, SM id, arm, and data from an entry. -/
def State.reportSm (s : State) (code sm : Nat) (e : Smt) : State :=
  s.report ⟨code, (s.carrier e).getD e.lamp, some sm, some e.arm, pack [(0, e.vcap), (16, e.age), (24, e.status)],
    word e.echo, s.now, false, false⟩

/-- A fresh cycle of an entry at a snapshot that read AGE = `age` (R182). DESIGN CHOICE (log entry 95): once U_FRESH has ended, FRESH keeps
its 2 until another cause arises. -/
def Smt.freshen (e : Smt) (age : Nat) : Smt :=
  if !e.uFresh then e
  else if age = 0 && !e.otherCause then
    if e.fresh + 1 ≥ 2 then { e with uFresh := false, fresh := 2, avail := e.valid } else { e with fresh := e.fresh + 1 }
  else { e with fresh := 0 }

/-- An entry at a snapshot: staleness judged, fresh cycles counted, AGE incremented (R177, R182). -/
def Smt.snapshot (e : Smt) (limit : Nat) : Smt :=
  let st := decide (e.age ≥ limit)
  let e1 := { e with uStale := st, stalecnt := if st && !e.uStale then satAdd 16 e.stalecnt 1 else e.stalecnt }
  { (e1.settle e).freshen e.age with age := satAdd 8 e.age 1 }

/-- One entry at a snapshot; a transition to stale is reported once (R198). -/
def State.snapshotSm (s : State) (limit sm : Nat) : State :=
  let old := s.smt sm
  let t := s.onSmt sm (fun e => e.snapshot limit)
  if (t.smt sm).uStale && !old.uStale then t.reportSm Code.smStale sm old else t

/-- Submodules that a snapshot turned unavailable for staleness and that a decision is to command BYPASS (R183). -/
def State.newlyStale (before after : State) (a : Nat) : List Nat :=
  (after.armSms a).filter (fun sm => (before.smt sm).avail && (after.smt sm).uStale)

/-- A snapshot of an arm: every entry, and WEIR_ASTAT.NAVAIL. -/
def State.snapshotArm (s : State) (a : Nat) : State :=
  let t := s.each (s.armSms a) (fun s sm => s.snapshotSm (s.fld (Reg.weirAcfg a) 8 8) sm)
  t.setFld (Reg.weirAstat a) 16 11 ((t.armSms a).filter (fun sm => (t.smt sm).avail)).length

/-- The candidates of a decision (R184): available unpinned submodules of the arm, with their keys as ranked. -/
def State.cands (s : State) (a : Nat) (dir : Bool) : List Cand :=
  orderCands (((s.armSms a).filter (fun sm => (s.smt sm).avail)).map (fun sm =>
    let e := s.smt sm
    ⟨keyOf dir (e.ranked.getD e.vcap), sm, e.aspect == .insert && !e.pwmsm⟩))

/-- The submodules of an arm pinned INSERT (R184, R189). -/
def State.pinnedIns (s : State) (a : Nat) : Nat := ((s.armSms a).filter (fun sm => (s.smt sm).pin == 1)).length

/-! The change list (R188). -/

/-- The aspect of a pin code (R170). -/
def pinAspect (pin : Nat) : Aspect := if pin = 1 then .insert else if pin = 2 then .bypass else .block

/-- Whether a pin, a retirement, a cut or an entry write since an arm's snapshot stands against the change of a candidate (R197). -/
def State.overruled (s : State) (a sm : Nat) : Bool :=
  let e := s.smt sm
  !e.valid || e.arm != a || e.pin != 0 || e.uLamp || e.uCut

/-- One change of a decision: emitted when the commanded aspect, PWM role or duty differs from what is in force, discarded when
R114 or R197 lets it command nothing (`barred`: another event stands against it), else applied with DEC.CYCLE. -/
def State.change (s : State) (a cycle sm : Nat) (asp : Aspect) (pwm : Bool) (frac : Nat) (barred : Bool) : State :=
  let e := s.smt sm
  let now := (s.stream e.lamp).content
  let acts := s.mayAct .decision e.lamp && !barred
  if now.aspect == asp && now.pwm == pwm && (!pwm || now.duty == frac) then s
  else
    let t := s.onArm a (fun r => { r with counters := { r.counters with
      emitted := satAdd 32 r.counters.emitted 1,
      discarded := if acts then r.counters.discarded else satAdd 32 r.counters.discarded 1 } })
    if acts then
      let u := (t.commandStream .decision e.lamp ⟨asp, pwm, if pwm then frac else 0, false, cycle % 16⟩).recChange sm
        asp.code pwm frac a
      if (u.smt sm).gen = e.gen then u.onSmt sm (fun e => { e with decCycle := cycle })
      else u.setSmt sm { u.smt sm with decCycle := cycle }
    else t.recChange sm asp.code pwm frac a

/-- A report of ARM_SHORTFALL (R186, R198). -/
def State.shortfall (s : State) (a nIns navail : Nat) : State :=
  s.report ⟨Code.armShortfall, a, none, some a, pack [(0, nIns % 2048), (16, navail % 2048)], 0, s.now, false, false⟩

/-- WEIR_ASTAT.SHORT set with its report (R186, R187, R226). -/
def State.setShort (s : State) (a nIns navail : Nat) : State :=
  ((s.setBit (Reg.weirAstat a) 11 true).shortfall a nIns navail).onArm a (fun r => { r with counters :=
    { r.counters with shortfalls := satAdd 32 r.counters.shortfalls 1 } })

/-- The operand that the Weir producer deposits for each decision (R241, R247): a refusal loses the task only. -/
def State.postDecision (s : State) (a data : Nat) : State :=
  match s.deposit .weir 0x02 a 0 data none with
  | some t => t
  | none => s.refuseDeposit .weir

/-- A WEIR_DEC record (R263); where the rules give a decision no n or no θ, the field holds a free value. -/
def State.recDecision (s : State) (a cycle nIns : Nat) (plan : Option Plan) (changes : Nat) : State :=
  let d := s.draw
  let n := match plan with | some p => p.n | none => d.1
  let theta := (plan.bind (fun p => p.theta)).getD (d.1 / 2048)
  let p := plan.getD ⟨[], 0, none, 0, false, false, none⟩
  d.2.record 4 (fun w => (field w 0 8).testBit a) ⟨s.now, 0x85, 0, a + 2 ^ 3 * (cycle % 256) + 2 ^ 11 * (nIns % 2048) +
    2 ^ 22 * (n % 2048) + 2 ^ 33 * (theta % 65536) + 2 ^ 49 * min changes 255 + 2 ^ 57 * (p.mandatory % 2048) +
    2 ^ 68 * flag plan.isNone + 2 ^ 69 * flag p.short + 2 ^ 70 * flag p.capx + 2 ^ 71 * p.pwm.getD 0 + 2 ^ 83 * flag p.pwm.isSome⟩

/-- A decision's plan carried out: the change list, the pins after a husk (R191), the BYPASS of stale submodules and of those that waited
for the list (R183), and the status of the decision (R185 to R188, R199). DESIGN CHOICE (log entry 95): WEIR_ASTAT.NIN is written here
only. -/
def State.carryOut (s : State) (a cycle nIns frac pins : Nat) (p : Plan) (stale : List Nat) : State :=
  let old := (s.arm a).counters.emitted
  let t1 := s.each p.cands (fun s c =>
    let barred := s.overruled a c.sm
    if p.pwm == some c.sm then s.change a cycle c.sm .insert true frac barred
    else if c.ins then s.change a cycle c.sm .insert false 0 barred else s.change a cycle c.sm .bypass false 0 barred)
  let t2 := t1.each (((s.arm a).deferred ++ stale).filter (fun sm =>
      (t1.smt sm).valid && (t1.smt sm).arm == a && !(t1.smt sm).avail && (t1.smt sm).pin == 0))
    (fun s sm => s.change a cycle sm .bypass false 0 false)
  let t3 := t2.when (s.arm a).fromHusk (fun t => t.each ((t.armSms a).filter (fun sm => (t.smt sm).pin != 0))
    (fun s sm => s.change a cycle sm (pinAspect (s.smt sm).pin) false 0 false))
  let t4 := ((t3.afterList a p.cands).onArm a (fun r => { r with
      fromHusk := s.devHusk || s.armHusk a, deferred := [] })).setReg (Reg.weirAstat2 a)
    (pack [(24, min ((t3.arm a).counters.emitted - old) 255), (16, cycle), (12, flag p.pwm.isSome), (0, p.pwm.getD 0)])
  let t5 := t4.setFld (Reg.weirAstat a) 0 11 (insCount p.cands + pins)
  let t6 := match p.pwm with
    | some sm => t5.onSmt sm (fun e => { e with pwmcnt := satAdd 16 e.pwmcnt 1 })
    | none => t5
  let t7 := t6.when p.short (fun t => t.setShort a nIns p.cands.length)
  let t8 := t7.when p.capx (fun t => (t.setBit (Reg.weirAstat a) 12 true).onArm a (fun r => { r with counters :=
    { r.counters with capx := satAdd 32 r.counters.capx 1 } }))
  let t9 := t8.when (p.short || p.capx) (fun t => t.irq 34)
  let changes := (t3.arm a).counters.emitted - old
  (t9.recDecision a cycle nIns (some p) changes).postDecision a changes

/-- The local decision of an arm from its snapshot (R184). -/
def State.decideLocal (s : State) (a nIns : Nat) (dir : Bool) (cycle frac : Nat) (stale : List Nat) : State :=
  let pins := s.pinnedIns a
  s.carryOut a cycle nIns frac pins
    (localPlan nIns pins (s.fld (Reg.weirAcfg a) 16 10) (s.fld (Reg.weirAband a) 0 16) frac (s.cands a dir)) stale

/-! Commits (R179). -/

/-- The outcome of one arm bit counted, and the last taken commit kept with its CYCLE (R106, R179, R200). -/
def State.countVerdict (s : State) (a : Nat) (v : Verdict) : State :=
  let t := s.onArm a (fun r => { r with
    cycle := if v == .taken || v == .held then s.fld (Reg.weirAref0 a) 16 8 else r.cycle,
    lastTaken := if v == .taken || v == .held then some s.mono else r.lastTaken,
    counters := { r.counters with
      taken := satAdd 32 r.counters.taken (flag (v == .taken)), early := satAdd 32 r.counters.early (flag (v == .early)),
      refused := satAdd 32 r.counters.refused (flag (v == .refused)), held := satAdd 32 r.counters.held (flag (v == .held)) } })
  t.when (v == .early) (fun t => t.setBit (Reg.weirAstat a) 15 true)

/-- The mask of arms with a verdict. -/
def verdictMask (vs : List (Nat × Verdict)) (v : Verdict) : Nat :=
  bitsOf ((List.range 8).map (fun a => vs.contains (a, v)))

/-- The verdicts of a commit recorded in WEIR_CSTAT and counted; source 34 for an arm bit not taken (R179, R199). -/
def State.recordCommit (s : State) (vs : List (Nat × Verdict)) : State :=
  let t := (s.setReg Reg.weirCstat (pack [(0, verdictMask vs .taken), (8, verdictMask vs .early),
    (16, verdictMask vs .refused), (24, verdictMask vs .held)])).each vs (fun s v => s.countVerdict v.1 v.2)
  t.when (vs.any (fun v => v.2 == .refused || v.2 == .early)) (fun t => t.irq 34)

/-- A held arm at its snapshot: its submodules age, and its newly stale ones wait for the next decision (R179, R183). -/
def State.holdArm (s : State) (a nIns : Nat) : State :=
  let t := s.snapshotArm a
  (t.onArm a (fun r => { r with deferred := r.deferred ++ State.newlyStale s t a })).recDecision a (s.arm a).cycle nIns
    none 0

/-- A taken arm decided at once in this device (R184). -/
def State.takeArm (s : State) (a nIns : Nat) (dir : Bool) (cycle frac : Nat) : State :=
  let t := s.snapshotArm a
  t.decideLocal a nIns dir cycle frac (State.newlyStale s t a)

end Sys2Proof.Machine
end

