-- ==== Sys2Proof/Machine/Prove.lean ====
section
/-! DEFINITION. Lamp proving's shared operations: cadence analysis (R153), echo proving (R147, R148), lit and trickle verdicts (R129,
R143), string cuts (R138, R139), re-admission (R158). -/

namespace Sys2Proof.Machine

/-- DLY in a configuration (R128). -/
def confDly (c : Conf) : Nat := field (c Reg.prvCtl) 0 8
/-- The trickle interval in a configuration, TCLK (R144). -/
def confTrk (c : Conf) : Nat := 160000 * field (c Reg.prvCtl) 12 7
/-- PRV_LCFG.FLASH in a configuration. -/
def confFlash (c : Conf) (l : Nat) : Bool := wbit (c (Reg.prvLcfg l)) 0
/-- MIN and TMIN of a lamp in a configuration, mV (R127). -/
def confMin (c : Conf) (l : Nat) : Nat := 500 + 50 * field (c (Reg.prvLwin l)) 8 7
def confTmin (c : Conf) (l : Nat) : Nat := 500 + 50 * field (c (Reg.prvLwin l)) 16 7

/-- Whether the lane settings of lamp l make a lamp provable (R153). -/
def cadenceOk (c : Conf) (l : Nat) : Bool :=
  let dly := confDly c
  if confFramed c l then decide (dly + 1 ≤ 5 * bitTicks (confRate c l)) || confFlash c l
  else
    let pre := 2 ^ confPre c l
    decide (pre > dly) || decide (2 ^ confW c l * pre ≥ 1600 + pre * (dly / pre))

/-- The lamps whose settings a position may carry: its own, and for a SPARE those of the lamps it may stand for (R153). -/
def State.mayCarry (s : State) (l : Nat) : List Nat :=
  l :: (if confMode s.conf l = 2 then
    (s.weir.smt.filter (fun e => e.2.valid && e.2.spv && e.2.spare == l)).map (fun e => e.2.lamp) else [])

/-- The lowest lamp that the cadence analysis finds unprovable under staged lane settings (R153). -/
def State.cadenceFault (s : State) (c : Conf) : Option Nat :=
  firstIdx 512 (fun l =>
    (confMode s.conf l == 1 || confMode s.conf l == 2) && confCur s.conf (strOf l) != 0 &&
    !((s.mayCarry l).all (cadenceOk c)))

/-! Echo proving (R147, R148). -/

/-- Whether the commanded light of a stream did not change from one interval count to a later one (R147). -/
def Stream.steadyFrom (st : Stream) (since m : Nat) : Bool := st.edges.all (fun e => decide (e ≤ since) || decide (m < e))

/-- Whether an echo names a frame (R119). -/
def echoNames (echo : Nat) (f : Frame) : Bool :=
  echo / 16 == f.seq && echo / 4 % 4 == f.content.aspect.code && echo / 2 % 2 == flag (f.kind == .command)

/-- The judgement of an echo whose frame's first symbol reached RXL `ago` ticks before now, against stream l: none where it is not judged
(R147). -/
def State.echoVerdict (s : State) (l echo ago : Nat) : Option Bool :=
  let t0 := s.now - ago
  let m0 := s.mono - ago
  let lag := usTicks (s.fld Reg.prvCtl 24 8)
  let st := s.stream l
  if confFramed s.conf l then
    let fs := st.sentNew.filter (fun f => decide (f.stop ≤ s.now))
    match fs.find? (fun f => decide (f.stop + lag ≤ t0)) with
    | some f0 => some ((f0 :: fs.filter (fun f => decide (f.stop + lag > t0))).any (echoNames echo))
    | none => none
  else if !st.steadyFrom (m0 - lag) m0 then none
  else
    let asp := if st.levelAt m0 == confPol s.conf l then Aspect.bypass else Aspect.insert
    some (echo / 16 == 0 && echo / 2 % 2 == 0 && echo / 4 % 4 == asp.code)

/-- An accepted frame's echo judged against the lamp that carries the submodule's stream (R147, R148). -/
def State.judgeEcho (s : State) (sm ago : Nat) : State :=
  let e := s.smt sm
  match s.carrier e with
  | none => s
  | some p =>
    if s.fld Reg.prvCtl 24 8 == 0 || !s.bit (Reg.prvLcfg p) 1 || (s.stream e.lamp).content.aspect == .dark ||
        confMode s.conf p == 0 || (s.str (strOf p)).state != .steady then s
    else match s.echoVerdict e.lamp e.echo ago with
      | none => s
      | some ok =>
        let run := if ok then 0 else (s.prv p).echoRun + 1
        let t := (s.onPrv p (fun x => { x with
          echoRun := run,
          counters := { x.counters with
            echoJudged := satAdd 32 x.counters.echoJudged 1,
            echoDisagree := satAdd 32 x.counters.echoDisagree (flag (!ok)) } })).recProve p 4 (flag (!ok)) 0 (s.prv p).epoch false
        if run = 2 then ((t.setBit (Reg.prvLstat p) 10 true).reportSm Code.laneEcho sm e).irq 33 else t

/-! Judgements of positions (R126 to R152). -/

/-- Whether a position is proven at all (R47, R73, R77, R78, R126): LAMP or SPARE, on a STEADY string whose die does not hold its
husk values. -/
def State.proven (s : State) (l : Nat) : Bool :=
  confMode s.conf l != 0 && (s.str (strOf l)).state == .steady && !s.sinkHeld (strOf l)

/-- Cover of a position (R152): a new interval starts. -/
def Prove.covered (p : Prove) (t : Nat) : Prove := { p with cover := t, starvedLast := false }

/-- A lit verdict of a position (R129). -/
def litVerdict (c : Conf) (l mv : Nat) : LitVerdict :=
  if mv < confMin c l then .low else if mv > confVf c l then .high else .pass

/-- The counters after a lit verdict (R164). -/
def PrvCounters.lit (c : PrvCounters) (v : LitVerdict) : PrvCounters :=
  match v with
  | .pass => { c with litPass := wrap 32 (c.litPass + 1) }
  | .low => { c with low := satAdd 32 c.low 1 }
  | .high => { c with high := satAdd 32 c.high 1 }
  | .unproven => { c with unproven := satAdd 32 c.unproven 1 }
  | .disturbed => { c with disturbed := satAdd 32 c.disturbed 1 }

/-- A lit verdict given to a position (R129, R136): PRV_LSTAT, counters, cover, record, and what follows LOW and HIGH. -/
def State.giveLit (s : State) (l mv : Nat) (v : LitVerdict) (method : Nat) : State :=
  let p := s.prv l
  let judged := v == .pass || v == .low || v == .high
  let short := v == .low && decide (p.shortCount + 1 ≥ s.fld Reg.prvCtl 20 4)
  let t := s.setPrv l { (if judged then p.covered s.mono else p) with
    lastLit := some v, counters := p.counters.lit v,
    shortCount := match v with | .low => p.shortCount + 1 | .pass | .high => 0 | _ => p.shortCount,
    vfHigh := match v with | .high => true | .pass | .low => false | _ => p.vfHigh,
    lastLitAt := if judged then s.mono else p.lastLitAt }
  let t1 := t.recProve l method v.code mv p.epoch short
  let t2 := if judged then t1.vfCapture l else t1
  let t3 := if v == .high && !p.vfHigh then (t2.setBit (Reg.prvLstat l) 9 true).lampReport Code.lampVfHigh l mv s.now else t2
  if short then t3.retire l .shortLit mv else t3

/-- Whether a sample falls in a disturbance of its string, or within DLY after its end (R129). -/
def State.disturbedNow (s : State) (str : Nat) : Bool :=
  (s.str str).disturbed.isSome || ((s.str str).disturbEnd != 0 && !s.past (s.str str).disturbEnd (confDly s.conf))

/-- TCLK from now to the next lit edge of a dark aspect-mode stream at the lamp, none where its generator schedules none (R97, R100): a
fade takes its next step at the next start of an insertion interval. -/
def State.nextLit (s : State) (k : Nat) : Option Nat :=
  let st := s.stream k
  let w := confW s.conf k
  let pre := 2 ^ confPre s.conf k
  let t := s.lampTime
  let pos := (counterAt w (confPre s.conf k) t + 2 ^ w - confPhase s.conf k % 2 ^ w) % 2 ^ w
  if st.fade.isNone && (st.dIns == 0 || decide (st.dIns ≥ 2 ^ w)) then none
  else some (lampDelay + ((if pos < st.dIns then st.dIns - pos else 2 ^ w - pos) * pre - t % pre))

/-- Whether a position is dark, has been for 64 TCLK, and has no lit edge scheduled within 2.4 µs (R142). -/
def State.darkEnough (s : State) (l : Nat) : Bool :=
  let k := s.streamOf l
  !s.shuntOpen l s.mono && decide (s.shuntEdge l s.mono + 64 ≤ s.mono) &&
  (!s.carries l || (s.stream k).content.aspect == .dark ||
    (!confFramed s.conf k && !(s.stream k).level && (s.stream k).edges.all (fun e => decide (e ≤ s.mono)) &&
      (match s.nextLit k with | some n => decide (n ≥ 1536) | none => true)))

/-- Whether a lit edge of a position fell due between two interval counts (R143, R160). -/
def State.litDuring (s : State) (l since m : Nat) : Bool :=
  (s.carries l && (s.stream (s.streamOf l)).edges.any (fun e =>
    decide (since < e) && decide (e ≤ m) && (s.stream (s.streamOf l)).levelAt e)) ||
  (decide (since < (s.prv l).ownEdge) && decide ((s.prv l).ownEdge ≤ m) && s.shuntOpen l (s.prv l).ownEdge)

/-! Lit samples (R128 to R131). -/

/-- The next sample of the lit interval that began at interval count e (R128): DLY after its edge, then every 1,024 TCLK; none once the
interval has been counted UNPROVEN. -/
def State.sampleDue (s : State) (l e : Nat) : Option Nat :=
  if (s.prv l).sampleFrom = e then (s.prv l).sampleAt else some (e + confDly s.conf)

/-- The shunt edge of another position of the string that defers a sample at interval count m (R130): within the 8 TCLK before it. -/
def State.siblingEdge (s : State) (l m : Nat) : Option Nat :=
  (((lampsOf (strOf l)).filter (fun k => k != l)).map (fun k => s.shuntEdge k m)).find?
    (fun e => decide (e ≠ 0) && decide (e ≤ m) && decide (m < e + 8))

/-- What a lit sample taken now is (R128, R130, R131): not one, deferred to a later instant, or judged. -/
inductive SampleKind where
  | none | defer (till : Nat) | judge
  deriving DecidableEq, Repr

/-- What a lit sample of a lamp taken now is: its lamp is lit and its interval's next sample falls now; a sample that a sibling's edge meets
is deferred, once in an interval. -/
def State.sampleKind (s : State) (l : Nat) : SampleKind :=
  let e := s.shuntEdge l s.mono
  if s.lampLit l && s.sampleDue l e == some s.mono then
    (match s.siblingEdge l s.mono with
     | some x => if (s.prv l).sampleFrom = e ∧ (s.prv l).deferred.isSome then .judge else .defer (x + 8)
     | none => .judge)
  else .none

/-- The lit interval that has ended before the end of its first sample's TCLK, or of its deferred sample's (R128, R130): its lit edge. -/
def State.missedSample (s : State) (l : Nat) : Option Nat :=
  let p := s.prv l
  let last := s.shuntEdge l s.mono
  let e := max p.ownEdge ((s.stream (s.streamOf l)).edgeBefore (last - 1))
  if s.shuntOpen l s.mono || !s.carries l || last ≤ e then none
  else if p.sampleFrom ≠ e then (if last ≤ e + confDly s.conf then some e else none)
  else match p.deferred, p.sampleAt with
    | some x, some d => if x = d ∧ last ≤ d then some e else none
    | _, _ => none

/-- A judged trickle verdict (R143): at the clamp, below TMIN, or in between. -/
def trickleVerdict (c : Conf) (l mv : Nat) : TrkVerdict :=
  if mv + 50 ≥ confVf c l then .opened else if mv < confTmin c l then .short else .pass

/-- The reply to a PRV_TRICKLE_NOW whose own test was judged (R163); `own` is the request that the test was started for. -/
def State.answerTrickle (s : State) (l : Nat) (own : Option Packet) (v : TrkVerdict) (mv : Nat) : State :=
  match own, (s.prv l).hostReq with
  | some _, some r => (s.onPrv l (fun p => { p with hostReq := none })).answer Op.prvTrickleNow r.2 Status.ok 0
      [word v.code, word (voltCode mv)]
  | _, _ => s

/-- The counters after a judged trickle verdict (R164). -/
def PrvCounters.trk (c : PrvCounters) (v : TrkVerdict) (retired : Bool) : PrvCounters :=
  let c := if retired && v == .pass then { c with revPasses := satAdd 32 c.revPasses 1 } else c
  match v with
  | .pass => { c with trkPass := wrap 32 (c.trkPass + 1) }
  | .opened => { c with trkOpen := satAdd 32 c.trkOpen 1 }
  | .short => { c with trkShort := satAdd 32 c.trkShort 1 }

/-- A judged trickle verdict given to a position (R143, R146, R157). -/
def State.giveTrickle (s : State) (l mv : Nat) (v : TrkVerdict) : State :=
  let p := s.prv l
  let out := p.retired.isSome
  let t := s.setPrv l { p.covered s.mono with
    trickle := none, trkEnd := s.mono, lastTrk := some v, counters := p.counters.trk v out, revLogged := p.revLogged || (out && v == .pass) }
  let t1 := (t.recProve l 1 v.code mv p.epoch (!out && v != .pass)).answerTrickle l (p.trickle.bind Trickle.packet) v mv
  if out then
    if v == .pass && !p.revLogged then
      ((t1.setBit (Reg.prvLstat l) 8 true).lampReport Code.lampRevenant l mv s.now).irq 33
    else t1
  else match v with
    | .pass => t1
    | .opened => t1.retire l .openTrickle mv
    | .short => t1.retire l .shortTrickle mv

/-! String cuts (R138, R139). -/

/-- A STUCK_LIT report of a string: the lamp with its SM id, or the string alone, and the cuts of the stuck lamp (R139, R384). -/
def State.reportStuck (s : State) (code inst str stuck : Nat) (sm : Option Nat) : State :=
  s.report ⟨code, inst, sm, sm.map (fun x => (s.smt x).arm), pack [(0, str), (8, min (s.prv stuck).counters.cuts 255)], 0, s.now,
    false, false⟩

/-- The entries whose streams run through a string, with the lamps that carry them (R139). -/
def State.carriedBy (s : State) (str : Nat) : List (Nat × Nat) :=
  s.weir.smt.filterMap (fun e => if e.2.valid then
    (match s.carrier e.2 with | some l => if strOf l = str then some (e.1, l) else none | none => none) else none)

/-- A string cut for a stuck-lit position (R138, R139): its current ends, the submodules that run through it are reported and
unavailable, source 33 is raised and the shadow of R390 opens. -/
def State.cutString (s : State) (l : Nat) : State :=
  let str := strOf l
  let t := (((s.leaveSteady str).onStr str (fun x => { x with state := .cut, cur := 0, stuckCut := true, cutAt := s.mono })).onPrv l
    (fun p => { p with
    stuck := true, counters := { p.counters with cuts := satAdd 32 p.counters.cuts 1 } })).openShadow (.stringCut str)
  let u := match t.carriedBy str with
    | [] => t.reportStuck Code.stuckLitNone str str l none
    | es => t.each es (fun t e => t.reportStuck Code.stuckLit e.2 str l (some e.1))
  (u.each (t.carriedBy str) (fun u e => u.reviewSmt e.1)).irq 33

/-- The causes of STUCK_LIT of a string end (R140). -/
def State.endStuck (s : State) (str : Nat) : State :=
  ((lampsOf str).foldl (fun s l => s.endCause Code.stuckLit l) s).endCause Code.stuckLitNone str

end Sys2Proof.Machine
end

