-- ==== Sys2Proof/Machine/Asp.lean ====
section
/-! DEFINITION. The meanings of the aspect and lane rows (chapter 03). -/

namespace Sys2Proof.Machine

/-! The configuration commit (R94 to R96). -/

/-- Check 2 of R95 for one lamp of a staged configuration. -/
def laneFieldsOk (c : Conf) (l : Nat) : Bool :=
  decide (8 ≤ confW c l) && decide (confW c l ≤ 16) && decide (confPre c l ≤ 8) && confRate c l != 3 && confHusk c l != 3

/-- Whether an entry whose submodule is available and not pinned names a lamp as its lamp or active spare (R95, R158). -/
def State.inService (s : State) (l : Nat) : Bool :=
  s.weir.smt.any (fun e => e.2.valid && e.2.avail && e.2.pin == 0 &&
    (e.2.lamp == l || (e.2.spv && e.2.spare == l && (s.prv l).active)))

/-- Whether a lamp's mode, rate, W, PRE or POL changes from one configuration to another (R95, check 4). -/
def laneRebuilt (old new : Conf) (l : Nat) : Bool :=
  confFramed old l != confFramed new l || confRate old l != confRate new l || confW old l != confW new l ||
  confPre old l != confPre new l || confPol old l != confPol new l

/-- Whether any lane setting of a lamp changes (R96). -/
def laneChanged (old new : Conf) (l : Nat) : Bool :=
  field (old (Reg.aspLcfg l)) 0 16 != field (new (Reg.aspLcfg l)) 0 16 || confPhase old l != confPhase new l

/-- The first check of R95 that the staged configuration fails: status, detail, lamp. -/
def State.aspFault (s : State) : Option (Nat × Nat × Nat) :=
  let c := s.reg
  if s.saved then some (Status.state, 0x21, 0)
  else match firstIdx 512 (fun l => !laneFieldsOk c l) with
    | some l => some (Status.badParam, 0x0A, l)
    | none => match firstIdx 512 (fun l => !confFramed c l && confPol c l && confHusk c l == 2) with
      | some l => some (Status.badParam, 0x30, l)
      | none => match firstIdx 512 (fun l => laneRebuilt s.conf c l && s.inService l) with
        | some l => some (Status.state, 0x31, l)
        | none => (s.cadenceFault c).map (fun l => (Status.unprovable, 0x32, l))

/-- Four idle symbols K28.5 at the start of a restart (R96). -/
def restartSyms : List Sym := List.replicate 4 idleSym

/-- The next symbol boundary at the lamp (R26, R103). -/
def State.boundary (s : State) (l : Nat) : Nat :=
  symTicks (confRate s.conf l) * ceilDiv s.lampTime (symTicks (confRate s.conf l))

/-- A lane restarted under its new settings (R96, R101). Between the commit and the symbol boundary at which its four K28.5 start a framed
lane is dark (DESIGN CHOICE: the spec is silent, log entry 95). -/
def State.restartLane (s : State) (l : Nat) : State :=
  let old := s.stream l
  let st := { old with
    fade := none, dIns := dInsOf (confW s.conf l) old.content,
    replaced := if old.newPend.isSome || old.restartPend then satAdd 32 old.replaced 1 else old.replaced }
  if confFramed s.conf l && st.content.aspect != .dark then
    let t := s.boundary l
    s.setStream l { st with
      now := some ⟨.restart, st.content, st.seq, restartSyms, t, t + 4 * symTicks (confRate s.conf l)⟩, last := none,
      negative := true, newPend := none, restartPend := true, repeatPend := false, idlePend := false, sentNew := [] }
  else
    s.setStream l { st.stopSending with now := none, last := none, sentNew := [] }

/-- An ASP commit (R94 to R96): refused with the status, detail and lamp of the first failed check, or all staged values in force
and every changed lane restarted. -/
def State.commitAsp (s : State) : (Nat × Nat × Nat) × State :=
  match s.aspFault with
  | some f => (f, s)
  | none =>
    let t := (s.each (List.range 512) (fun t l =>
      ((t.setLive (Reg.aspLcfg l) (s.reg (Reg.aspLcfg l))).setLive (Reg.aspLphase l) (s.reg (Reg.aspLphase l))).setLive
        (Reg.prvLcfg l) (s.reg (Reg.prvLcfg l)))).setLive Reg.prvCtl (s.reg Reg.prvCtl)
    ((Status.ok, 0, 0), t.each ((List.range 512).filter (fun l => laneChanged s.conf t.conf l)) (fun t l =>
      (t.restartLane l).follow l))

/-- An ASP commit with ASP_CFGSTAT (R95). -/
def State.runAspCommit (s : State) : (Nat × Nat × Nat) × State :=
  let r := s.commitAsp
  (r.1, r.2.setReg Reg.aspCfgstat (pack [(0, r.1.1), (8, r.1.2.1), (16, r.1.2.2)]))

/-- ASP_COMMIT (R94, R125). -/
def execAspCommit (p : Packet) (s : State) : Out :=
  done (s.command Op.aspCommit p (fun s =>
    let r := s.runAspCommit
    r.2.reply r.1.1 r.1.2.1 [word r.1.2.1, word r.1.2.2]))

/-- ASP_CFGCMT.COMMIT written 1 (R94). -/
def State.commitAspReg (s : State) : State :=
  if s.served then s.runAspCommit.2 else s

/-- ASP_CFGCMT.COMMIT written 1 (R94). -/
def execAspCfgcmtCommit (s : State) : Out := done (s.commitAspReg)

/-! Host lamp commands (R124). -/

/-- The content that a host command's ASPECT and DUTY codes name (ASP_LCMD). -/
def hostContent (code duty : Nat) : Content :=
  match code with
  | 0 => ⟨.insert, true, duty, false, 0⟩
  | 1 => ⟨.insert, false, 0, false, 0⟩
  | 2 => ⟨.bypass, false, 0, false, 0⟩
  | _ => ⟨.block, false, 0, false, 0⟩

/-- Whether the authority and pins of an entry's arm accept host commands to its lamp (R167, R190). -/
def State.hostAccepted (s : State) (e : Smt) : Bool := s.auth e.arm == 1 || (s.auth e.arm == 2 && e.pin != 0)

/-- The first case of R124 in which a host command to a lamp is refused. -/
def State.hostRefused (s : State) (l : Nat) : Option Nat :=
  if s.saved || s.pwr.boot == .seed || s.devHusk || s.streamHusked l then some Status.state
  else if (match s.smOfLamp l with | some sm => !s.hostAccepted (s.smt sm) | none => false) then some Status.state
  else if confMode s.conf l ≠ 1 then some Status.badParam
  else if (s.prv l).retired.isSome && (s.edgeLamp l).isNone then some Status.badParam
  else none

/-- ASP_SET (R124, R125): all entries, or none. The entries act in their order, so that the last one for a lamp stands, and a refused entry
does not set ASP_LSTAT.REFUSED, which R124 names for ASP_LCMD (DESIGN CHOICE: log entry 95). -/
def execAspSet (p : Packet) (s : State) : Out :=
  done (s.command Op.aspSet p (fun s =>
    let n := (p.word 0).toNat
    if n < 1 ∨ n > 11 then s.reply Status.badParam 0 [0xFF]
    else if (List.range 12).any (fun i => decide (i > n) && p.word i != 0) then s.reply Status.badParam 0x0A [0xFF]
    else
      let ws := (List.range n).map (fun i => p.word (i + 1))
      let refused := fun (w : Word) =>
        if field w 9 5 ≠ 0 then some (Status.badParam, 0x0A) else (s.hostRefused (field w 0 9)).map (fun st => (st, 0))
      match ws.findIdx? (fun w => (refused w).isSome) with
      | some i => let f := (refused (ws.getD i 0)).getD (0, 0)
                  s.reply f.1 f.2 [word i]
      | none => (s.each ws (fun s w =>
          s.commandStream .host (field w 0 9) (hostContent (field w 14 2) (field w 16 16)))).reply Status.ok 0 [0xFF]))

/-- ASP_LCMD written with GO (R124). -/
def State.writeLcmd (s : State) (l : Nat) (v : Word) : State :=
  if s.served then
    let t := s.writeReg (Reg.aspLcmd l) v
    if wbit v 31 then
      match t.hostRefused l with
      | some _ => t.setBit (Reg.aspLstat l) 20 true
      | none => t.commandStream .host l (hostContent (t.fld (Reg.aspLcmd l) 16 2) (t.fld (Reg.aspLcmd l) 0 16))
    else t
  else s

/-- ASP_LCMD written with GO (R124). -/
def execAspLcmdGo (l : Fin 512) (v : Word) (s : State) : Out := done (s.writeLcmd l v)

/-- ASP_LANE_STATS (R125). -/
def execAspLaneStats (p : Packet) (s : State) : Out :=
  done (s.command Op.aspLaneStats p (fun s =>
    let n := field (p.word 0) 0 9
    let clear := wbit (p.word 0) 17
    if wbit (p.word 0) 16 then
      let r := s.ret n
      (s.when clear (fun s => s.onRet n (fun r => { r with
        good := 0, crc := 0, framing := 0, syncLoss := 0, unassigned := 0 }))).reply Status.ok 0
        ([r.good, r.crc, r.framing, r.syncLoss, r.unassigned].map word)
    else
      let st := s.stream n
      (s.when clear (fun s => s.onStream n (fun st => { st with sent := 0, replaced := 0, repeated := 0, idles := 0 }))).reply
        Status.ok 0 ([st.sent, st.replaced, st.repeated, st.idles].map word)))

/-! Generators and serialisers. -/

/-- FADE_STEP (R100): at the start of an insertion interval the generator takes the next d_ins, or the fade ends. -/
def execFadeStep (l : Fin 512) (s : State) : Out :=
  let st := s.stream l
  done (match st.fade with
    | none => s
    | some f =>
      let e := (s.mono - f.start) / 640
      if !s.served || counterAt (confW s.conf l) (confPre s.conf l) s.lampTime != confPhase s.conf l % 2 ^ confW s.conf l then s
      else if e ≥ f.len then (s.setStream l { st with dIns := f.d1, fade := none }).follow l
      else (s.setStream l { st with dIns := ((f.d0 : Int) + truncDiv (((f.d1 : Int) - f.d0) * e) f.len).toNat }).follow l)

/-- A segment put on the line at a boundary (R103, R104): the idle symbols before it alternate in disparity. -/
def Stream.putFrame (st : Stream) (f : Frame) (sym : Nat) : Stream :=
  let stop := match st.now with | some g => min g.stop f.start | none => f.start
  let neg := st.negative != ((f.start - stop) / sym % 2 == 1)
  { st with
    now := some f, last := st.now.map (fun g => { g with stop := stop }), lastNeg := st.negative,
    lastEnd := f.stop,
    negative := disparityAfter neg f.syms }

/-- The frames with new sequence numbers that echo proving can still need at a lamp time (R147): those of the longest ECHO_LAG and return
frame, and the newest before. -/
def keepFrames (t : Nat) : List Frame → List Frame
  | [] => []
  | f :: fs => if f.stop + echoSpan ≤ t then [f] else f :: keepFrames t fs

/-- A frame with a new sequence number (R108, R109): a strike or a command frame; a repeat that waits is dropped (R110), and the time to
the next IDLE strike counts from its end (R111). -/
def Stream.sendNew (st : Stream) (strike : Bool) (c : Content) (start sym : Nat) : Stream :=
  let seq := (st.seq + 1) % 16
  let syms := if strike then strikeSyms false seq c.aspect else commandSyms seq c
  let f : Frame := ⟨if strike then .strike else .command, c, seq, syms, start, start + sym * syms.length⟩
  let u := st.putFrame f sym
  { u with seq := seq, sentNew := f :: keepFrames start st.sentNew, repeatPend := false, idlePend := false, sent := satAdd 32 u.sent 1 }

/-- Whether something of priority 1 to 3 of R110 is pending. -/
def Stream.urgent (st : Stream) : Bool := st.sagPend || st.huskPend || st.newPend.isSome || st.restartPend

/-- Whether the line is still taken at a boundary (R110); a flash gives way to an item of priority 1 to 3 (R149). -/
def Stream.lineBusy (st : Stream) (t : Nat) : Bool :=
  st.now.any (fun f => decide (f.stop > t) && !(f.kind == .flash && st.urgent))

/-- The stream after its serialiser has started the highest-priority item at a boundary (R110); `t0` is the time of the sag. -/
def Stream.startItem (st : Stream) (fkind : Bool) (husk : Aspect) (t0 start sym : Nat) : Stream :=
  if st.sagPend then
    let c := { st with sagPend := false, huskPend := false, newPend := none, restartPend := false }
    if start + 6 * sym ≤ t0 + 2624 then c.sendNew false ⟨.block, false, 0, true, 0⟩ start sym
    else c.sendNew true ⟨.block, false, 0, false, 0⟩ start sym
  else if st.huskPend then ({ st with huskPend := false }).sendNew false ⟨husk, false, 0, true, 0⟩ start sym
  else match st.newPend with
    | some c => ({ st with newPend := none, restartPend := false }).sendNew (strikes fkind c) c start sym
    | none =>
      if st.restartPend then
        ({ st with restartPend := false }).sendNew false { st.content with husk := st.husked, cyc := 0 } start sym
      else match st.repeatPend, st.sentNew with
        | true, f :: _ =>
          let u := st.putFrame { f with start := start, stop := start + sym * f.syms.length } sym
          { u with repeatPend := false, idlePend := false, repeated := satAdd 32 u.repeated 1, sent := satAdd 32 u.sent 1 }
        | _, _ =>
          if st.idlePend then
            let syms := strikeSyms true st.seq st.content.aspect
            let u := st.putFrame ⟨.idle, st.content, st.seq, syms, start, start + sym * syms.length⟩ sym
            { u with idlePend := false, idles := satAdd 32 u.idles 1 }
          else st

/-- FRAME_TRANSMIT_START (R108 to R110). -/
def execFrameTransmitStart (l : Fin 512) (s : State) : Out :=
  let st := s.stream l
  let t := s.boundary l
  done (if !s.served || !confFramed s.conf l || st.content.aspect == .dark || st.lineBusy t then s
    else (s.setStream l (st.startItem (confFkind s.conf l) (huskAspect (confHusk s.conf l)) s.pwr.sagTime t
      (symTicks (confRate s.conf l)))).follow l)

/-- IDLE_STRIKE_REFRESH (R111). -/
def execIdleStrikeRefresh (l : Fin 512) (s : State) : Out :=
  let st := s.stream l
  let r := s.fld Reg.aspCtl 0 8
  done (if s.served && confFramed s.conf l && st.content.aspect != .dark && r != 0 && !st.lineBusy s.lampTime &&
      decide (st.lastEnd + usTicks r ≤ s.lampTime) then s.setStream l { st with idlePend := true }
    else s)

/-- PROVING_FLASH (R126, R149): k lit symbol times and a dark one, on a lane whose position is proven. -/
def execProvingFlash (l : Fin 512) (s : State) : Out :=
  let st := s.stream l
  let sym := symTicks (confRate s.conf l)
  let t := s.boundary l
  let k := ceilDiv (confDly s.conf + 4) sym
  let trk := confTrk s.conf
  done (match s.edgeLamp l with
    | none => s
    | some p =>
      if s.served && s.proven p && confFramed s.conf l && confFlash s.conf l && st.content.aspect != .dark && !st.urgent && !st.repeatPend &&
          !st.idlePend && st.now.all (fun f => decide (f.stop + 4 * sym ≤ t)) && s.past (s.prv p).lastLitAt (trk / 2) &&
          s.past st.lastFlash trk then
        (s.setStream l { st with
          now := some ⟨.flash, st.content, st.seq, List.replicate k idleSym, t, t + (k + 1) * sym⟩, last := st.now, lastNeg := st.negative,
          negative := true, lastFlash := s.mono }).follow l
      else s)

/-! Return lanes (R116 to R122). -/

/-- ASP_RCFG written (R116). -/
def State.writeRcfg (s : State) (n : Nat) (v : Word) : State :=
  if s.served then
    let t := s.writeReg (Reg.aspRcfg n) v
    t.onRet n (fun r => { r with
      state := if t.bit (Reg.aspRcfg n) 0 then .hunt else .disabled, los := false, lastEdge := s.mono, errors := [] })
  else s

/-- ASP_RCFG written (R116). -/
def execAspRcfgWrite (n : Fin 512) (v : Word) (s : State) : Out := done (s.writeRcfg n v)

/-- The operand of an accepted frame deposited for RET_TRACK (R241, R247): a refusal counts against the return lane. -/
def State.postReturn (s : State) (n sm data : Nat) : State :=
  match s.deposit .ret 0x03 sm 0 data none with
  | some t => t
  | none => (s.refuseDeposit .ret).onFab (fun f => { f with
      laneRefusals := Tab.put (fun _ => 0) f.laneRefusals n (satAdd 32 (Tab.get (fun _ => 0) f.laneRefusals n) 1) })

/-- Whether a STATUS byte sets U_GATE (R118, R181). -/
def gateCause (status : Nat) (ovpUnav : Bool) : Bool :=
  !(status.testBit 7) || status.testBit 5 || status.testBit 6 || (status.testBit 4 && ovpUnav)

/-- The fields of an accepted frame in its entry (R121, R170, R177, R181). -/
def Smt.takeFrame (e : Smt) (status vcap temp echo time : Nat) (gate : Bool) : Smt :=
  { e with
    status := status, vcap := vcap, temp := temp, echo := echo, age := 0, frames := wrap 16 (e.frames + 1), rtime := time,
    uGate := gate, gatecnt := if gate && !e.uGate then satAdd 16 e.gatecnt 1 else e.gatecnt,
    rankPend := if e.ranked.isSome then some vcap else none }

/-- An accepted return frame (R121, R122, R42, R43): written to its entry in one CCLK, its rank update and its operand under way, its
echo judged. -/
def State.acceptFrame (s : State) (n : Nat) (bs : List Nat) : State :=
  match s.weir.smt.find? (fun e => e.2.valid && e.2.rxl == n) with
  | none => (s.onRet n (fun r => { r with unassigned := satAdd 32 r.unassigned 1 })).setBit (Reg.aspRstat n) 3 true
  | some x =>
    let sm := x.1
    let old := s.smt sm
    let status := bs.getD 0 0
    let vcap := 256 * bs.getD 1 0 + bs.getD 2 0
    let gate := gateCause status (s.bit (Reg.weirAcfg old.arm) 2)
    let t := s.onRet n (fun r => { r with good := satAdd 32 r.good 1 })
    let t1 := t.when old.rankPend.isSome (fun t => t.onUnit (t.arm old.arm).unit (fun u => { u with replaced := satAdd 32 u.replaced 1 }))
    let t2 := t1.causeSmt sm false (fun e => e.takeFrame status vcap (bs.getD 3 0) (bs.getD 4 0) s.now gate)
    let t3 := if gate && !old.uGate then t2.reportSm Code.smGate sm (t2.smt sm) else t2
    let t4 := t3.recReturn sm n status vcap (bs.getD 3 0) (bs.getD 4 0) s.now
    (t4.judgeEcho sm (80 * bitTicks (s.fld (Reg.aspRcfg n) 1 2))).postReturn n sm
      (leNat ((bs.take 5).map (BitVec.ofNat 8)))

/-- Seven characters after K28.0 (R120, R121): accepted when the CRC matches. -/
def State.closeFrame (s : State) (n : Nat) (bs : List Nat) : State :=
  if crc16 ((bs.take 5).map (BitVec.ofNat 8)) = 256 * bs.getD 5 0 + bs.getD 6 0 then s.acceptFrame n bs
  else s.onRet n (fun r => { r with crc := satAdd 32 r.crc 1 })

/-- One symbol at a return input in SYNC (R121): the characters of the frame that is open, if any, and the state. -/
def returnSym (n : Nat) (a : Option (List Nat) × State) (x : RetSym) : Option (List Nat) × State :=
  let framing := fun (s : State) => s.onRet n (fun r => { r with framing := satAdd 32 r.framing 1 })
  let opens := fun (b : Byte) => if b = 0x1C then some [] else none
  match a.1, x with
  | none, .ctrl b => (opens b, a.2)
  | none, .data _ => (none, framing a.2)
  | none, .bad => (none, a.2)
  | some bs, .data b => if bs.length = 6 then (none, a.2.closeFrame n (bs ++ [b.toNat])) else (some (bs ++ [b.toNat]), a.2)
  | some _, .ctrl b => (opens b, framing a.2)
  | some _, .bad => (none, framing a.2)

/-- SYNC lost (R116): the input goes to HUNT, counted as SYNC_LOSS. -/
def State.loseSync (s : State) (n : Nat) : State :=
  (s.onRet n (fun r => { r with state := .hunt, errors := [], syncLoss := satAdd 32 r.syncLoss 1 })).setBit (Reg.aspRstat n) 2 true

/-- One symbol at an input in SYNC, and the four-error rule of R116: the fourth code violation or disparity error within 16 symbols takes
the input to HUNT, and the frame in progress is abandoned. An input not in SYNC takes no symbol. -/
def takeSym (n : Nat) (a : Option (List Nat) × State) (x : RetSym) : Option (List Nat) × State :=
  if (a.2.ret n).state != .sync then a
  else
    let t := a.2.onRet n (fun r => { r with errors := (x == .bad) :: r.errors.take 15 })
    if countTrue (t.ret n).errors ≥ 4 then (none, t.loseSync n) else returnSym n (a.1, t) x

/-- RETURN_FRAME (R116, R121): the symbols of a frame at an enabled input; they are transitions of its line, and an input in SYNC takes
them. -/
def execReturnFrame (n : Fin 512) (syms : List RetSym) (s : State) : Out :=
  done (if s.served && (s.ret n).state != .disabled then
    (syms.foldl (takeSym n) (none, s.onRet n (fun r => { r with los := false, lastEdge := s.mono }))).2
  else s)

/-- RANK_UPDATE (R42, R176). -/
def execRankUpdate (sm : Fin 4096) (s : State) : Out :=
  done (match (s.smt sm).rankPend with
    | some v => (s.onSmt sm (fun e => { e with ranked := some v, rankPend := none })).reranked s (s.smt sm).arm
    | none => s)

/-- RETURN_SYNC_ACQUIRE (R116). -/
def execReturnSyncAcquire (n : Fin 512) (s : State) : Out :=
  done (if s.served && (s.ret n).state == .hunt then s.onRet n (fun r => { r with
    state := .sync, los := false, lastEdge := s.mono, errors := [] }) else s)

/-- SYNC_LOSS (R116, R121): four errors within 16 symbols; a frame in progress is abandoned. Whether the line still has transitions
is not said by it: LOS stays. -/
def execSyncLoss (n : Fin 512) (_inFrame : Bool) (s : State) : Out :=
  done (if s.served && (s.ret n).state == .sync then s.loseSync n else s)

/-- RETURN_LOS (R116): no transition for 32 bit times. -/
def execReturnLos (n : Fin 512) (s : State) : Out :=
  let r := s.ret n
  done (if s.served && r.state != .disabled && s.past r.lastEdge (32 * bitTicks (s.fld (Reg.aspRcfg n) 1 2)) then
    s.setRet n { r with los := true }
  else s)

end Sys2Proof.Machine
end

