-- ==== Sys2Proof/Machine/Entry.lean ====
section
/-! DEFINITION. Writes of submodule table entries: the checks of R173, the pairing rules of R82, and what an entry write does (R171,
R174, R189 to R191). -/

namespace Sys2Proof.Machine

/-! Pairing rules (R82). -/

/-- The first pairing rule that a valid entry breaks under a configuration: the detail and the lamp it names. `others` are the other
valid entries. -/
def pairingFault (c : Conf) (e : Smt) (others : List Smt) : Option (Nat × Nat) :=
  if confMode c e.lamp = 0 then some (0x09, e.lamp)
  else if e.spv && confMode c e.spare == 0 then some (0x09, e.spare)
  else if confMode c e.lamp ≠ 1 then some (0x08, e.lamp)
  else if e.spv && confMode c e.spare != 2 then some (0x08, e.spare)
  else if e.spv && strOf e.spare == strOf e.lamp then some (0x06, e.spare)
  else if e.spv && others.any (fun o => o.spv && o.spare == e.spare) then some (0x08, e.spare)
  else none

/-- The valid entries but one. -/
def State.otherEntries (s : State) (sm : Nat) : List Smt :=
  (s.weir.smt.filter (fun e => e.2.valid && e.1 != sm)).map (fun e => e.2)

/-! The checks of an entry write (R173). -/

/-- An entry image, CFG0 to CFG3, put over an entry (R169, R170): SMID is ignored. -/
def Smt.withCfg (e : Smt) (w : List Word) : Smt :=
  let c0 := w.getD 0 0
  let c1 := w.getD 1 0
  let c2 := w.getD 2 0
  { e with
    arm := field c0 12 3, valid := wbit c0 15, owner := field c0 16 3, pin := field c0 20 2, lamp := field c1 0 9,
    spare := field c1 16 9, spv := wbit c1 31, rxl := field c2 0 9, tag := field c2 16 16 }

/-- Whether an entry image has a reserved bit set (R170, R173). -/
def reservedSet (w : List Word) : Bool :=
  w.getD 0 0 &&& 0xFFC80000 != 0 || w.getD 1 0 &&& 0x7E00FE00 != 0 || w.getD 2 0 &&& 0xFE00 != 0 || w.getD 3 0 != 0

/-- Whether an entry write changes what only a pinned or invalid entry may change (R173, check 4). -/
def Smt.rewired (old new : Smt) : Bool :=
  old.arm != new.arm || old.lamp != new.lamp || old.spare != new.spare || old.spv != new.spv || old.rxl != new.rxl ||
  old.valid != new.valid

/-- The first check of R173 that an entry write fails: its status and detail. -/
def State.entryRefused (s : State) (sm : Nat) (w : List Word) : Option (Nat × Nat) :=
  let old := s.smt sm
  let new := old.withCfg w
  let others := s.otherEntries sm
  if s.saved || s.pwr.boot == .seed then some (Status.state, 0x21)
  else if reservedSet w then some (Status.badParam, 0x0A)
  else if new.valid && new.owner != s.chain.pos then some (Status.badParam, 0x40)
  else if old.rewired new && old.valid && !(old.pin != 0 && new.pin != 0) then some (Status.state, 0x45)
  else if new.valid && others.any (fun o => o.lamp == new.lamp || (o.spv && o.spare == new.lamp)) then some (Status.badParam, 0x42)
  else if new.valid && others.any (fun o => o.rxl == new.rxl) then some (Status.badParam, 0x43)
  else if new.valid then (pairingFault s.conf new others).map (fun f => (Status.badParam, f.1))
  else none

/-! The effect of an entry write. -/

/-- The entry as the write leaves it, its causes included (R171, R174, R181): one made valid starts unranked, stale and with AGE 255; one
made invalid leaves its rank list; a change of ARM moves it. DESIGN CHOICE (log entry 95): ASPECT and PWMSM take what the entry's lamp
shows, and SWCNT does not count it (R172). -/
def State.rewritten (s : State) (old new : Smt) : Smt :=
  let shown := (s.stream new.lamp).content
  if !new.valid then { new with ranked := none, rankPend := none, moving := none }
  else
    let e := { new with
      aspect := shown.aspect, pwmsm := shown.pwm, uLamp := (s.carrier new).isNone,
      uCut := s.cutNow new || (old.valid && old.lamp == new.lamp && old.uCut && !s.cutOver new) }
    if !old.valid then
      { e with vcap := 0, age := 255, fresh := 0, uStale := true, ranked := none, rankPend := none, moving := some e.arm }
    else if old.arm != e.arm then { e with ranked := none, rankPend := none, moving := some old.arm }
    else e

/-- The changes of an entry that fall in one CCLK count once in DEC.GEN (R170). -/
def State.oneGen (s before : State) (sm : Nat) : State :=
  if (s.smt sm).gen = (before.smt sm).gen then s
  else s.setSmt sm { s.smt sm with gen := wrap 16 ((before.smt sm).gen + 1) }

/-- A spare that its entry no longer names is no longer active (R82, R83), and its rail follows (R62). -/
def State.dropSpare (s : State) (old new : Smt) : State :=
  if old.valid && old.spv && (s.prv old.spare).active && !(new.valid && new.spv && new.spare == old.spare && new.lamp == old.lamp) then
    (s.onPrv old.spare (fun p => { p with active := false })).retarget [groupOf (strOf old.spare)]
  else s

/-- An entry written (R173): CFG0 to CFG3 together, its causes and availability, and its pin aspect in the same CCLK (R189, R191). -/
def State.writeEntry (s : State) (sm : Nat) (w : List Word) : State :=
  s.withHusk (fun s =>
    let old := s.smt sm
    let new := old.withCfg w
    let t := (s.dropSpare old new).causeSmt sm true (fun e => s.rewritten e (e.withCfg w))
    let u := if new.valid && new.pin != 0 then t.commandStream .pin new.lamp ⟨pinAspect new.pin, false, 0, false, (s.arm new.arm).cycle % 16⟩ else t
    ((u.oneGen s sm).reranked s old.arm).reranked s new.arm)

/-- An entry write with its checks: the refusal, or none with the entry written (R173). -/
def State.tryEntry (s : State) (sm : Nat) (w : List Word) : Option (Nat × Nat) × State :=
  match s.entryRefused sm w with
  | some f => (some f, s)
  | none => (none, s.writeEntry sm w)

/-- The image CFG0 to CFG3 of an entry with its PIN replaced. -/
def State.pinImage (s : State) (sm pin : Nat) : List Word :=
  let ws := (s.smtWords sm).take 4
  (setField (ws.getD 0 0) 20 2 pin) :: ws.drop 1

end Sys2Proof.Machine
end

