-- ==== Sys2Proof/Machine/Field.lean ====
section
/-! DEFINITION. Field inputs and outputs in operation: the filter step (R317 to R319), the value in force of an output (R331),
switching and demagnetisation (R326), FIO_FAULT (R333), the fault pair (R338), and what follows a change of the husk state. -/

namespace Sys2Proof.Machine

def State.onField (s : State) (f : FieldIf → FieldIf) : State := { s with fio := f s.fio }
def State.fin (s : State) (i : Nat) : FieldIn := Tab.get (fun _ => FieldIn.reset) s.fio.ins i
def State.setFin (s : State) (i : Nat) (v : FieldIn) : State :=
  s.onField (fun w => { w with ins := Tab.put (fun _ => FieldIn.reset) w.ins i v })
def State.fout (s : State) (k : Nat) : FieldOut := Tab.get (fun _ => FieldOut.reset) s.fio.outs k
def State.setFout (s : State) (k : Nat) (v : FieldOut) : State :=
  s.onField (fun w => { w with outs := Tab.put (fun _ => FieldOut.reset) w.outs k v })
def State.onFout (s : State) (k : Nat) (f : FieldOut → FieldOut) : State := s.setFout k (f (s.fout k))

/-! Inputs. -/

/-- FIO_FCFG fields. -/
def fcTop (w : Word) : Nat := field w 24 8
def fcOn (w : Word) : Nat := field w 16 8
def fcOff (w : Word) : Nat := field w 8 8
def fcClkB (w : Word) : Bool := wbit w 7
def fcInv (w : Word) : Bool := wbit w 1
def fcEn (w : Word) : Bool := wbit w 0

/-- One step of R317 under a filter configuration, with the level r; the count is first limited to TOP (R319). `restart`: the run
between the thresholds starts again (R319). -/
def FieldIn.step (x : FieldIn) (cfg : Word) (r restart : Bool) (now : Nat) : FieldIn :=
  let c0 := min x.count (fcTop cfg)
  let c := if r then min (c0 + 1) (fcTop cfg) else c0 - 1
  let st := if !x.state && decide (c ≥ fcOn cfg) then true else if x.state && decide (c ≤ fcOff cfg) then false else x.state
  let crossed := r != x.raw
  let between := decide (fcOff cfg < c) && decide (c < fcOn cfg)
  let run := if between then (if restart then 1 else x.run + 1) else 0
  let rc := between && ((!restart && x.runCross) || crossed)
  { x with
    act := cfg, rewritten := x.rewritten && !restart, count := c, state := st, raw := r, since := if st != x.state then now else x.since,
    crossings := x.crossings + flag crossed, crossTotal := satAdd 32 x.crossTotal (flag crossed), run := run, runCross := rc,
    held := x.held || (rc && decide (run ≥ 4 * fcTop cfg)) }

/-- An input enabled at a tick (R318): the count at TOP or 0, the state as r, a new chatter window. -/
def FieldIn.enable (x : FieldIn) (cfg : Word) (r : Bool) (now : Nat) : FieldIn :=
  { x with running := true, act := cfg, rewritten := false, count := if r then fcTop cfg else 0, state := r, raw := r, since := now,
           winStart := now, crossings := 0, run := 0, runCross := false, held := false }

/-- Whether the between-thresholds case of CHATTER holds (R322). -/
def FieldIn.slow (x : FieldIn) : Bool := x.runCross && decide (x.run ≥ 4 * fcTop x.act)

/-- A condition of the inputs that starts, with its record and latched copy (R322, R333, R335). -/
def State.startChatter (s : State) (i : Nat) : State :=
  let x := s.fin i
  if x.chatter then s
  else (s.setFin i { x with chatter := true, chatterLat := true, chatterStarts := satAdd 32 x.chatterStarts 1 }).recFio 2 i true 0x04

/-- The end of STUCK of an input whose state is 0 (R321). -/
def State.endStuckIn (s : State) (i : Nat) : State :=
  if (s.fin i).stuck then (s.setFin i { s.fin i with stuck := false }).recFio 2 i false 0x03 else s

/-- An input disabled at once (R318, R319): it reads 0 and its monitors are idle. -/
def State.disableInput (s : State) (i : Nat) : State :=
  let t := s.setFin i { s.fin i with running := false, state := false, run := 0, runCross := false, held := false }
  let u := t.endStuckIn i
  if (u.fin i).chatter then (u.setFin i { u.fin i with chatter := false }).recFio 2 i false 0x05 else u

/-- One input at a tick of one filter clock (R317 to R320): enabled, reconfigured, or stepped; a change of its state is recorded
and may raise source 37 (R336). -/
def State.tickInput (s : State) (clkB : Bool) (i : Nat) (raw : Bool) : State :=
  let x := s.fin i
  let w := s.reg (Reg.fioFcfg i)
  if !fcEn w then s
  else if !x.running then
    if fcClkB w == clkB then s.setFin i (x.enable w (raw != fcInv w) s.mono) else s
  else
    let use := if x.rewritten && fcClkB w == clkB then some (w, true)
      else if fcClkB x.act == clkB then some (x.act, false) else none
    match use with
    | none => s
    | some (cfg, restart) =>
      let y := x.step cfg (raw != fcInv cfg) restart s.mono
      if y.state == x.state then
        (s.setFin i y).when y.slow (fun t => t.startChatter i)
      else
        let t := (s.setFin i { y with transitions := satAdd 32 y.transitions 1 }).recFio 0 i y.state 0x01
        let u := if y.state then t else t.endStuckIn i
        u.when (u.bit Reg.fioInirq i) (fun u => u.irq 37)

/-! Outputs. -/

/-- The value that fault reactions set for an output (R378): of the codes that drive it, the highest severity, then the lower
code. -/
def State.foValue (s : State) (k : Nat) : Option Bool :=
  let cs := codeTable.filter (fun r =>
    let w := s.reg (Reg.fltCcfg0 (idxOfCode r.code))
    s.held r.code && (s.code r.code).foAct && field w 12 4 == k)
  let best := cs.foldl (fun (b : Option (Nat × Nat)) r =>
    let sv := (s.code r.code).sev.getD 0
    match b with
    | some (v, _) => if v < sv then some (sv, r.code) else b
    | none => some (sv, r.code)) none
  best.map (fun b => s.bit (Reg.fltCcfg0 (idxOfCode b.2)) 10)

/-- The safe value of an output (FIO_OCFG.SAFE): off, on, or a value held. -/
def State.safeValue (s : State) (k : Nat) (held : Bool) : Bool :=
  match s.fld (Reg.fioOcfg k) 0 2 with
  | 0 => false
  | 1 => true
  | _ => held

/-- The rank from 3 to 8 of R331 that applies to an output where ranks 1 and 2 do not. -/
def State.lowRow (s : State) (k : Nat) : Nat :=
  if s.clk.huskLine || (s.die 1).ownHusk then 3
  else if s.saved then 4
  else if (s.foValue k).isSome then 5
  else if s.devHusk then 6
  else if s.fio.silent || s.fio.relatch then 7
  else 8

/-- What a held output keeps (R331): the value that ranks 3 to 8 gave when the row that now applies began. -/
def State.heldValue (s : State) (k : Nat) : Bool :=
  let o := s.fout k
  if o.row = s.lowRow k then o.held else o.low

/-- The value of an output under ranks 3 to 8 of R331; LD1 keeps the value that it took with its husk values. -/
def State.lowRanks (s : State) (k : Nat) : Bool :=
  match s.lowRow k with
  | 3 => if (s.fout k).row = 3 then (s.fout k).low else s.safeValue k (s.heldValue k)
  | 5 => (s.foValue k).getD false
  | 8 => s.bit Reg.fioOcmd k
  | _ => s.safeValue k (s.heldValue k)

/-- The value of an output by the ranks of R331. -/
def State.outputValue (s : State) (k : Nat) : Bool :=
  if s.pwr.boot != .ready then false
  else if s.fio.fldUv || (s.fout k).overload || (s.fout k).latchedOff then false
  else s.lowRanks k

/-- An output condition that ends is recorded (R335). -/
def State.endOut (s : State) (k : Nat) (was : Bool) (f : FieldOut → FieldOut) : State :=
  if was then (s.onFout k f).recFio 2 k false 0x19 else s

/-- A switching of an output counted, recorded, and signalled (R335, R336, R340). -/
def State.switched (s : State) (k : Nat) (on : Bool) : State :=
  let t := (s.onFout k (fun o => { o with on := on, switchings := satAdd 32 o.switchings 1 })).recFio 1 k on 0x10
  t.when (t.bit Reg.fioOnirq k) (fun t => t.irq 37)

/-- An output switched on (R327, R328): its off-state conditions end. -/
def State.switchOn (s : State) (k : Nat) : State :=
  let o := s.fout k
  let t := s.switched k true
  let u := (t.onFout k (fun o => { o with
    clamping := false, onTimes := s.mono :: o.onTimes.filter (fun t => !s.past t (msTicks 12)) })).endOut k o.due.isSome
    (fun o => { o with due := none })
  (u.endOut k o.shortSup (fun o => { o with shortSup := false })).endOut k o.extVolt (fun o => { o with extVolt := false })

/-- An output switched off (R326, R328): its load current flows through the clamp until DEMAG_END. -/
def State.switchOff (s : State) (k : Nat) : State :=
  let o := s.fout k
  ((s.switched k false).onFout k (fun o => { o with clamping := true })).endOut k o.openLoad (fun o => { o with openLoad := false })

/-- An output follows its value in force (R326, R331). -/
def State.followOutput (s : State) (k : Nat) : State :=
  let v := s.outputValue k
  let t := s.onFout k (fun o => { o with
    uvOn := o.uvOn || (s.fio.fldUv && s.lowRanks k), row := s.lowRow k, held := s.heldValue k, low := s.lowRanks k })
  let o := t.fout k
  let u := if o.value == v then t else t.setFout k { o with value := v }
  if v && !o.on then
    if !o.clamping then u.switchOn k
    else if o.due.isSome then u
    else (u.onFout k (fun o => { o with
      due := some s.mono, lat := o.lat ||| 0x10, pendings := satAdd 32 o.pendings 1 })).recFio 2 k true 0x16
  else if !v && o.on then u.switchOff k
  else if !v && o.due.isSome then u.endOut k true (fun o => { o with due := none })
  else u

/-- Whether a condition that raises FIO_FAULT is present (R333). -/
def State.fieldCond (s : State) : Bool :=
  s.fio.fldLow || s.fio.fldUv || s.fio.silent ||
  s.fio.ins.any (fun e => e.2.stuck || e.2.chatter) ||
  s.fio.outs.any (fun e => e.2.overload || e.2.openLoad || e.2.shortSup || e.2.extVolt || e.2.latchedOff)

/-- FIO_FAULT asserted or ended (R333), with FIO_STAT.FLATCH and source 37 (R336). -/
def State.fieldFault (s : State) : State :=
  if s.fieldCond == s.fio.fault then s
  else
    let t := (s.onField (fun f => { f with fault := s.fieldCond })).irq 37
    if s.fieldCond then (t.setBit Reg.fioStat 1 true).reportNow Code.fioFault 0xFFFF
    else t.endCause Code.fioFault 0xFFFF

/-! The fault pair (R337 to R339, R379). -/

/-- Whether FLT_P and FLT_N are to be released (R338). -/
def State.fltRelease (s : State) : Bool :=
  s.pwr.boot != .ready || s.saved || s.devHusk || s.clk.huskLine || s.clk.lost || s.causePresent Code.clkLoss ||
  (List.range 8).any (fun a => s.armHusk a && s.bit Reg.fioFltcfg a) ||
  codeTable.any (fun r => s.held r.code && (s.code r.code).fltRel) ||
  s.fio.pinBad || s.held Code.fltPin || s.bit Reg.fioFltcfg 8

/-- Outputs, FIO_FAULT and the fault pair follow the state (R331, R333, R338). -/
def State.fieldRefresh (s : State) : State :=
  let t := (s.each (List.range 16) (fun s k => s.followOutput k)).fieldFault
  if t.fio.drive == !t.fltRelease then t else t.onField (fun f => { f with drive := !t.fltRelease })

/-- The state after an operation on which husk states, field outputs or the fault pair may depend (R331, R338, R380 to R382). -/
def State.reacting (s : State) (f : State → State) : State := (s.withHusk f).fieldRefresh

end Sys2Proof.Machine
end

