-- ==== Sys2Proof/Machine/Fio.lean ====
section
/-! DEFINITION. The meanings of the field I/O rows (chapter 09). -/

namespace Sys2Proof.Machine

/-- The present conditions of an output in the bit order of R334; DEMAG_LONG is latched only. -/
def FieldOut.present (o : FieldOut) : Nat :=
  flag o.overload + 2 * flag o.openLoad + 4 * flag o.shortSup + 8 * flag o.extVolt + 16 * flag o.due.isSome +
  64 * flag o.latchedOff

/-- The 13 words of FIO_DIAG (R334). -/
def State.diagWords (s : State) : List Word :=
  let ins := fun (f : FieldIn → Bool) => word (bitsOf ((List.range 32).map (fun i => f (s.fin i))))
  let outs := fun (f : FieldOut → Nat) => (List.range 4).map (fun w =>
    pack ((List.range 4).map (fun b => (8 * b, f (s.fout (4 * w + b))))))
  [ins FieldIn.stuck, ins FieldIn.chatter, ins FieldIn.stuckLat, ins FieldIn.chatterLat] ++ outs FieldOut.present ++
  outs FieldOut.lat ++
  [pack [(0, flag s.fio.fldLow), (1, flag s.fio.fldUv), (2, flag s.fio.silent), (8, flag s.fio.latLow),
    (9, flag s.fio.latUv), (10, flag s.fio.latSilent)]]

/-- Every latched copy cleared (R333). -/
def State.clearLatched (s : State) : State :=
  let t := s.each (List.range 32) (fun s i => s.setFin i { s.fin i with stuckLat := false, chatterLat := false })
  (t.each (List.range 16) (fun s k => s.onFout k (fun o => { o with lat := 0 }))).onField
    (fun f => { f with latLow := false, latUv := false, latSilent := false })

/-- FIO_DIAG (R334, R340). -/
def execFioDiag (p : Packet) (s : State) : Out :=
  done (s.command Op.fioDiag p (fun s =>
    (if wbit (p.word 0) 16 then s.clearLatched else s).reply Status.ok 0 s.diagWords))

/-- FIO_OUT_RESTORE (R340): all-or-nothing; `overloads` are the outputs in current limit at their 1 ms trial retry. -/
def execFioOutRestore (p : Packet) (overloads : BitVec 16) (s : State) : Out :=
  done (s.command Op.fioOutRestore p (fun s =>
    let mask := field (p.word 0) 0 16
    let ks := (List.range 16).filter (fun k => mask.testBit k)
    if mask = 0 || ks.any (fun k => !(s.fout k).latchedOff) then s.reply Status.badParam 0 []
    else if s.fio.fldUv || ks.any (fun k => overloads.getLsbD k) then s.reply Status.causeActive 0 []
    else
      (s.reacting (fun s => s.each ks (fun s k =>
        (s.endOut k (s.fout k).overload (fun o => { o with overload := false })).endOut k true (fun o => { o with
          latchedOff := false })))).reply Status.ok 0 [word mask]))

/-- FIO_STATS (R340). -/
def execFioStats (p : Packet) (s : State) : Out :=
  done (s.command Op.fioStats p (fun s =>
    let ch := field (p.word 0) 0 6
    let clr := wbit (p.word 0) 16
    if ch ≥ 48 then s.reply Status.badParam 0 []
    else if ch < 32 then
      let x := s.fin ch
      (if clr then s.setFin ch { x with transitions := 0, crossTotal := 0, stuckStarts := 0, chatterStarts := 0 } else s).reply
        Status.ok 0 [word x.transitions, word x.crossTotal, word x.stuckStarts, word x.chatterStarts, 0]
    else
      let o := s.fout (ch - 32)
      (if clr then s.setFout (ch - 32) { o with switchings := 0, trips := 0, retries := 0, pendings := 0, longs := 0 }
       else s).reply Status.ok 0 ([o.switchings, o.trips, o.retries, o.pendings, o.longs].map word)))

/-- HOST_SILENT ends (R330): at a valid kick, or when EN is cleared; with RELATCH the outputs keep their safe values. -/
def State.endSilence (s : State) : State :=
  if s.fio.silent then
    ((s.onField (fun f => { f with silent := false, relatch := f.relatch || s.bit Reg.fioKcfg 30 })).recFio 2 0 false 0x25).irq 37
  else s

/-- FIO_KICK written (R330). -/
def State.writeKick (s : State) (v : Word) : State :=
  s.reacting (fun s =>
    if !s.served || !s.bit Reg.fioKcfg 31 then s
    else if field v 0 8 = (if s.fio.nextA5 then 0xA5 else 0x5A) then
      (s.onField (fun f => { f with nextA5 := !f.nextA5, kickAt := s.mono })).endSilence
    else ((s.setBit Reg.fioStat 4 true).onField (fun f => { f with keyErrors := satAdd 32 f.keyErrors 1 })).irq 37)

/-- FIO_KICK written (R330). -/
def execFioKickWrite (v : Word) (s : State) : Out := done (s.writeKick v)

/-- FIO_KCFG written (R330): EN = 1 starts the first interval, EN = 0 ends HOST_SILENT. -/
def State.writeKcfg (s : State) (v : Word) : State :=
  s.reacting (fun s =>
    if !s.served then s
    else
      let t := s.writeReg Reg.fioKcfg v
      if !s.bit Reg.fioKcfg 31 && t.bit Reg.fioKcfg 31 then
        t.onField (fun f => { f with nextA5 := false, kickAt := s.mono })
      else if s.bit Reg.fioKcfg 31 && !t.bit Reg.fioKcfg 31 then t.endSilence
      else t)

/-- FIO_KCFG written (R330). -/
def execFioKcfgWrite (v : Word) (s : State) : Out := done (s.writeKcfg v)

/-- FIO_FCFG written (R317 to R319): not taken unless THR_OFF < THR_ON ≤ TOP; clearing EN disables the input at once, the rest acts
at the input's next tick. -/
def State.writeFcfg (s : State) (i : Nat) (v : Word) : State :=
  if !s.served || !filterTaken v then s
    else
      let t := s.writeReg (Reg.fioFcfg i) v
      (if fcEn (t.reg (Reg.fioFcfg i)) then t.setFin i { t.fin i with rewritten := true } else t.disableInput i).fieldFault

/-- FIO_FCFG written (R319). -/
def execFioFcfgWrite (i : Fin 32) (v : Word) (s : State) : Out := done (s.writeFcfg i v)

/-- FIO_OCMD written (R330, R331): recorded under every rank; it ends the hold of RELATCH. -/
def State.writeOcmd (s : State) (v : Word) : State :=
  s.reacting (fun s =>
    if !s.served then s
    else (s.writeReg Reg.fioOcmd v).onField (fun f => { f with relatch := false }))

/-- FIO_OCMD written (R331). -/
def execFioOcmdWrite (v : Word) (s : State) : Out := done (s.writeOcmd v)

/-- FIO_FLTCFG written (R338): with FORCE = 1 outside MAINT not taken as a whole. -/
def State.writeFltcfg (s : State) (v : Word) : State :=
  s.reacting (fun s =>
    if !s.served || (wbit v 8 && !s.inMaint) then s else s.writeReg Reg.fioFltcfg v)

/-- FIO_FLTCFG written (R338). -/
def execFioFltcfgWrite (v : Word) (s : State) : Out := done (s.writeFltcfg v)

/-- FILTER_TICK (R317 to R320): one tick of filter clock A or B with the raw levels of FI0 to FI31. -/
def execFilterTick (clkB : Bool) (raw : BitVec 32) (s : State) : Out :=
  done (s.each (List.range 32) (fun s i => s.tickInput clkB i (raw.getLsbD i))).fieldFault

/-- STUCK (R321): a state of 1 for longer than MAXACT × 10 ms. -/
def execStuck (i : Fin 32) (s : State) : Out :=
  let x := s.fin i
  let lim := s.fld (Reg.fioMcfg i) 0 16
  done (if x.running && x.state && !x.stuck && lim != 0 && decide (x.since + msTicks (10 * lim) < s.mono) then
    (((s.setFin i { x with stuck := true, stuckLat := true, stuckStarts := satAdd 32 x.stuckStarts 1 }).recFio 2 i true
      0x02)).fieldFault
  else s)

/-- CHATTER_WINDOW_END (R322): CHATTER starts when a case holds in the window and ends after a whole window in which none does. -/
def execChatterWindowEnd (i : Fin 32) (s : State) : Out :=
  let x := s.fin i
  let w := s.reg (Reg.fioMcfg i)
  done (if x.running && s.past x.winStart (msTicks (field w 24 8)) then
    let case := x.held || (field w 16 8 != 0 && decide (x.crossings > field w 16 8))
    let t := s.setFin i { x with winStart := s.mono, crossings := 0, held := x.slow }
    (if case then t.startChatter i
     else if x.chatter then (t.setFin i { t.fin i with chatter := false }).recFio 2 i false 0x05
     else t).fieldFault
  else s)

/-- FIO_OCFG written (R325, R331): outputs follow a new SAFE; an output in OVERLOAD is LATCHED_OFF once LATCH_OL is set. -/
def State.writeOcfg (s : State) (k : Nat) (v : Word) : State :=
  s.reacting (fun s =>
    let t := s.writeReg (Reg.fioOcfg k) v
    let o := t.fout k
    if t.bit (Reg.fioOcfg k) 3 && o.overload && !o.latchedOff then
      (t.setFout k { o with latchedOff := true, lat := o.lat ||| 0x40 }).recFio 2 k true 0x18
    else t)

/-- OVERLOAD (R325, R332): an output that is on is switched off; with LATCH_OL it is LATCHED_OFF. -/
def execOverload (k : Fin 16) (s : State) : Out :=
  let o := s.fout k
  let latch := s.bit (Reg.fioOcfg k) 3
  done (if !o.on then s
    else
      let t := (s.setFout k { o with
        overload := true, offAt := s.mono, latchedOff := o.latchedOff || latch, trips := satAdd 32 o.trips 1,
        lat := o.lat ||| 1 ||| (if latch then 0x40 else 0) }).recFio 2 k true 0x11
      (t.when latch (fun t => t.recFio 2 k true 0x18)).fieldRefresh)

/-- OVERLOAD_RETRY (R325, R326, R329): 10 ms after the trip, once the clamp current has fallen, not under FLD_UV and not when latched;
`again`: in current limit for 1 ms again, so that the output is switched on and off. -/
def execOverloadRetry (k : Fin 16) (again : Bool) (s : State) : Out :=
  let o := s.fout k
  done (if o.overload && !o.latchedOff && !o.clamping && !s.fio.fldUv && s.lowRanks k && s.past o.offAt (msTicks 10) then
    let t := (s.setFout k { o with retries := satAdd 32 o.retries 1, offAt := s.mono }).recFio 2 k (!again) 0x12
    (if again then (t.switched k true).switchOff k else t.endOut k true (fun o => { o with overload := false })).fieldRefresh
  else s)

/-- DEMAG_END (R326): the clamp current fell below 10 mA, or (`limit`) 20 ms passed since the output became due. -/
def execDemagEnd (k : Fin 16) (limit : Bool) (s : State) : Out :=
  let o := s.fout k
  done (if !limit then (s.setFout k { o with clamping := false }).fieldRefresh
    else match o.due with
      | some t =>
        if s.past t (msTicks 20) then
          ((s.setFout k { o with clamping := false, lat := o.lat ||| 0x20, longs := satAdd 32 o.longs 1 }).recFio 2 k true
            0x17).fieldRefresh
        else s
      | none => s)

/-- OFFSTATE_VOLTAGE (R327): an off output's pin above half VFLD for 10 ms, EXTERNAL_VOLTAGE when another output switched on within
the 1 ms before it appeared or when the pin is wired to an output that is on (R332), else SHORT_TO_SUPPLY. -/
def execOffstateVoltage (pin : OffPin) (s : State) : Out :=
  let k := pin.out
  let o := s.fout k
  let ext := pin.wired.any (fun j => j != k && (s.fout j).on) || (List.range 16).any (fun j => j != k.val && (s.fout j).onTimes.any (fun t =>
    decide (t + msTicks 10 ≤ s.mono) && decide (s.mono ≤ t + msTicks 11)))
  done (if !s.bit (Reg.fioOcfg k) 4 || o.on || o.shortSup || o.extVolt || s.pwr.boot != .ready then s
    else if ext then ((s.setFout k { o with extVolt := true, lat := o.lat ||| 8 }).recFio 2 k true 0x15).fieldFault
    else ((s.setFout k { o with shortSup := true, lat := o.lat ||| 4 }).recFio 2 k true 0x14).fieldFault)

/-- OFFSTATE_VOLTAGE_END (R327): the pin below half VFLD for 10 ms. -/
def execOffstateVoltageEnd (k : Fin 16) (s : State) : Out :=
  let o := s.fout k
  done ((s.endOut k (o.shortSup || o.extVolt) (fun o => { o with shortSup := false, extVolt := false })).fieldFault)

/-- OPEN_LOAD (R328): an on output carries less than 5 mA for 10 ms. -/
def execOpenLoad (k : Fin 16) (s : State) : Out :=
  let o := s.fout k
  done (if s.bit (Reg.fioOcfg k) 5 && o.on && !o.openLoad then
    ((s.setFout k { o with openLoad := true, lat := o.lat ||| 2 }).recFio 2 k true 0x13).fieldFault
  else s)

/-- OPEN_LOAD_END (R328): 5 mA or more for 10 ms. -/
def execOpenLoadEnd (k : Fin 16) (s : State) : Out :=
  done ((s.endOut k (s.fout k).openLoad (fun o => { o with openLoad := false })).fieldFault)

/-- FLD_LOW (R329): a warning only. -/
def execFldLow (s : State) : Out :=
  done (if s.fio.fldLow then s
    else ((s.onField (fun f => { f with fldLow := true, latLow := true })).recFio 2 0 true 0x20).fieldFault)

/-- FLD_LOW_END (R329). -/
def execFldLowEnd (s : State) : Out :=
  done (if s.fio.fldLow then ((s.onField (fun f => { f with fldLow := false })).recFio 2 0 false 0x21).fieldFault else s)

/-- FLD_UV (R329): every output is switched off. -/
def execFldUv (s : State) : Out :=
  done (if s.fio.fldUv then s
    else
      let t := s.each (List.range 16) (fun s k => s.onFout k (fun o => { o with uvOn := o.on }))
      ((t.onField (fun f => { f with fldUv := true, latUv := true })).recFio 2 0 true 0x22).fieldRefresh)

/-- FLD_UV_END (R329): outputs with LATCH_UV that FLD_UV switched off or that were due on are LATCHED_OFF; the others return. -/
def execFldUvEnd (s : State) : Out :=
  done (if !s.fio.fldUv then s
    else
      let t := s.each (List.range 16) (fun s k =>
        let o := s.fout k
        if o.uvOn && s.bit (Reg.fioOcfg k) 2 && !o.latchedOff then
          (s.setFout k { o with latchedOff := true, uvOn := false, lat := o.lat ||| 0x40 }).recFio 2 k true 0x18
        else s.setFout k { o with uvOn := false })
      ((t.onField (fun f => { f with fldUv := false })).recFio 2 0 false 0x23).fieldRefresh)

/-- HOST_SILENT (R330): an interval of TIMEOUT ms without a valid kick. -/
def execHostSilent (s : State) : Out :=
  done (if s.bit Reg.fioKcfg 31 && !s.fio.silent && s.past s.fio.kickAt (msTicks (s.fld Reg.fioKcfg 0 14)) then
    (((s.onField (fun f => { f with silent := true, latSilent := true })).recFio 2 0 true 0x24).irq 37).fieldRefresh
  else s)

/-- FLT_PIN (R339): the readback of a pin has differed from its driven state for 10 µs; `p` and `n` are the levels read back. Both
pins are released, and FLT_PIN is present until a clear finds that the pins follow again. -/
def execFltPin (p n : Bool) (s : State) : Out :=
  done (if s.pwr.boot == .ready && s.fio.drive && (p || n) then
    ((s.onField (fun f => { f with pinBad := true, pinP := p, pinN := n })).reportNow Code.fltPin 0xFFFF).fieldRefresh
  else s)

end Sys2Proof.Machine
end

