-- ==== Sys2Proof/Machine/Blocks.lean ====
section
/-! DEFINITION. The blocks that the self-test names (R394, R395, R408), and their states (BIST_BSTAT). -/

namespace Sys2Proof.Machine

/-- A block by its class (R394): a Rill engine, an arm unit, an SRAM bank, the copy bank, comparator set A or B of a string, or an
unspared block. -/
inductive Blk where
  | engine (e : Nat)
  | armUnit (u : Nat)
  | bank (b : Nat)
  | copyBank
  | compSet (str : Nat) (isB : Bool)
  | unspared (n : Nat)
  deriving DecidableEq, Repr

/-- The block of a block ID, none for an ID that is not used (R394, R395). -/
def blkOf (id : Nat) : Option Blk :=
  if id ≤ 0x011 then some (.engine id)
  else if 0x020 ≤ id && id ≤ 0x028 then some (.armUnit (id - 0x020))
  else if 0x030 ≤ id && id ≤ 0x04F then some (.bank (id - 0x030))
  else if id = 0x050 then some .copyBank
  else if 0x060 ≤ id && id ≤ 0x06F then some (.unspared (id - 0x060))
  else if 0x100 ≤ id && id ≤ 0x17F then some (.compSet (id - 0x100) false)
  else if 0x180 ≤ id && id ≤ 0x1FF then some (.compSet (id - 0x180) true)
  else none

/-- Whether Riffle can slice a block: every one but the unspared blocks (R395). -/
def Blk.sliced : Blk → Bool
  | .unspared _ => false
  | _ => true

/-- The bit of BIST_CTL.CLASS that enables a block's class. -/
def Blk.classBit : Blk → Nat
  | .engine _ => 8 | .armUnit _ => 9 | .bank _ | .copyBank => 10 | .compSet _ _ => 11 | .unspared _ => 0

/-- The class number under which OTP holds a block's golden pair (R399). -/
def Blk.cls : Blk → Nat
  | .engine _ => 0 | .armUnit _ => 1 | .bank _ => 2 | .copyBank => 3 | .compSet _ _ => 4 | .unspared n => 5 + n

/-- Whether a block is UNUSABLE (R402). -/
def State.blkUnusable (s : State) (id : Nat) : Bool := s.bist.unusable.contains id

/-- Whether the slice in progress tests a block or uses it as its stand-in. -/
def State.blkInSlice (s : State) (id : Nat) : Bool :=
  match s.bist.slice with
  | none => false
  | some x => x.block == id || (!x.direct && (match blkOf x.block, blkOf id with
      | some (.engine _), some (.engine e) => x.standIn == some e
      | some (.armUnit _), some (.armUnit u) => x.standIn == some u
      | some (.bank _), some .copyBank => true
      | some (.compSet t _), some (.compSet t' _) => t == t'
      | _, _ => false))

/-- Whether a block holds a role, so that its slice needs a stand-in (R394). -/
def State.blkServes (s : State) (b : Blk) : Bool :=
  match b with
  | .engine e => (s.engine e).state == .inService
  | .armUnit u => (s.unit u).role == .inService
  | .bank k => s.bist.bankHeld != some k
  | .copyBank => s.bist.bankHeld.isSome
  | .compSet t isB => s.bist.setB.contains t == isB
  | .unspared _ => true

/-- BIST_BSTAT.STATE of a block: 0 IN_USE, 1 SPARE, 2 under test or standing in, 3 UNUSABLE. -/
def State.blkState (s : State) (id : Nat) : Nat :=
  match blkOf id with
  | none => 0
  | some b => if s.blkUnusable id then 3 else if s.blkInSlice id then 2 else if s.blkServes b then 0 else 1

/-- Whether a report's code and instance are those of a block itself (R390: lane-class codes of the block under slice). -/
def riffleCovers (id code inst : Nat) : Bool :=
  ((code == Code.riffleIncomplete || code == Code.riffleVoid) && inst == id) ||
  (match blkOf id with
   | some (.engine e) => code == Code.engineRevenant && inst == e
   | some (.bank b) => code == Code.sramUeRec && inst == b
   | _ => false)

/-- Whether the re-initialisation of a block is reported complete: no slice of it is between HANDOVER and RETURN (R390, R398). -/
def State.riffleIdle (s : State) (id : Nat) : Bool :=
  match s.bist.slice with
  | some x => x.block != id || x.phase == .prepare
  | none => true

end Sys2Proof.Machine
end

