-- ==== Sys2Proof/Machine/Collector.lean ====
section
/-! DEFINITION. The fault collector's shared operations: what a report does when it is sampled (R364 to R390), how causes end
(R371 to R375), the log (R384 to R389) and the reaction shadows (R390). -/

namespace Sys2Proof.Machine

/-- The configured severity, reaction and options of a code (FLT_CCFG0). -/
def State.codeSev (s : State) (code : Nat) : Nat := s.fld (Reg.fltCcfg0 (idxOfCode code)) 0 3
def State.codeReact (s : State) (code : Nat) : Nat := s.fld (Reg.fltCcfg0 (idxOfCode code)) 4 3
def State.codeFlt (s : State) (code : Nat) : Bool := s.bit (Reg.fltCcfg0 (idxOfCode code)) 8
def State.codeFoen (s : State) (code : Nat) : Bool := s.bit (Reg.fltCcfg0 (idxOfCode code)) 9

/-- The words of a log entry but the last (R384). -/
def LogEntry.words7 (e : LogEntry) : List Word :=
  [lo32 e.time, hi32 e.time,
   pack [(0, e.code), (16, e.sev), (19, flag e.coinc), (20, flag e.wire), (21, flag e.conseq), (22, flag e.esc),
     (23, flag e.inj), (24, e.react), (27, flag e.fo), (28, flag e.flt)],
   pack [(0, e.seq), (16, e.inst)],
   pack [(0, e.smid.getD 0), (12, flag e.smid.isSome), (13, e.arm.getD 0), (16, flag e.arm.isSome)],
   e.d0, e.d1]

/-- The eight words of a log entry with its CRC-16 over bytes 0x00 to 0x1B (R384). -/
def LogEntry.words (e : LogEntry) : List Word :=
  e.words7 ++ [pack [(0, e.boot), (16, crc16 (bytesOf e.words7))]]

/-- The boot count that log entries carry (PWR boot count of the keep store). -/
def State.bootCount (s : State) : Nat := wrap 16 s.pwr.boots

/-- An entry written to the SRAM ring (R387), FLT_SUM.NEW set, SEQ advanced; it still has to be mirrored (R388). -/
def State.writeLog (s : State) (e : LogEntry) : State :=
  (s.onFlt (fun f => { f with
    log := e :: f.log.take 255, logged := f.logged + 1, seq := e.seq, unposted := f.unposted ++ [e] })).setBit Reg.fltSum 3 true

/-- The next log sequence number (R384). -/
def State.nextSeq (s : State) : Nat := wrap 16 (s.flt.seq + 1)

/-- Whether a severity reaches a threshold field, where 7 is none (FLT_CTL.FFSEV, IRQSEV). -/
def reaches (sev thr : Nat) : Bool := thr ≤ 4 && decide (sev ≥ thr)

/-- The first entry of severity FFSEV or more after a clear is copied (R386). -/
def State.captureFirst (s : State) (e : LogEntry) : State :=
  if s.flt.first.isNone && !e.conseq && reaches e.sev (s.fld Reg.fltCtl 8 3) then
    s.onFlt (fun f => { f with first := some e }) else s

/-- The post task of an entry deposited (R388); when it is refused the collector raises source 32 itself, counts the entry in
FLT_STAT.UNPOSTED, and FAB_REFUSE_FLT is reported (R247). -/
def State.post (s : State) (e : LogEntry) : State :=
  match s.deposit .fault 0x01 e.seq 0 e.code none with
  | some t => t
  | none =>
    let t := ((s.refuseDeposit .fault).incFld Reg.fltStat 0 8).reportNow Code.fabRefuseFlt 0xFFFF
    if !e.conseq && reaches e.sev (s.fld Reg.fltCtl 0 3) then t.irq 32 else t

/-- The entries not yet mirrored written to the mirror (R388); a write that fails verification (`bad`), or an injected failure (R391), is
reported as FLT_MIRROR. -/
def State.mirrorUnposted (s : State) (bad : Bool) : State :=
  let es := s.flt.unposted
  let t := s.onFlt (fun f => { f with mirror := (es.reverse ++ f.mirror).take 64, unposted := [] })
  if t.injected 0x48 0 then t.injecting 0x48 0 (fun t => t.reportNow Code.fltMirror 0xFFFF)
  else t.when bad (fun t => t.reportNow Code.fltMirror 0xFFFF)

/-- The work of the post task of the entry with sequence number seq (R388): the entries not yet mirrored go to the mirror, and
source 32 is raised for that entry when its severity is IRQSEV or more and it is not consequential. -/
def State.runPost (s : State) (seq : Nat) (bad : Bool) : State :=
  let u := s.mirrorUnposted bad
  if s.flt.log.any (fun e => e.seq == seq && !e.conseq && reaches e.sev (s.fld Reg.fltCtl 0 3)) then u.irq 32 else u

/-! Reaction shadows (R390). -/

/-- Whether an opening event's table row covers a report's code and instance. -/
def State.shadowNames (s : State) (k : ShadowKind) (r : Report) : Bool :=
  match k with
  | .retirement l =>
    (r.code == Code.compliance && r.inst == strOf l) || (r.code == Code.laneEcho && r.smid.isSome && r.smid == (s.smTag l).1) ||
    (r.code == Code.proveStarved && (match s.smOfLamp l with
      | some sm => (s.smt sm).spv && (s.smt sm).spare == r.inst
      | none => false))
  | .stringCut t =>
    (r.code == Code.compliance && r.inst == t) ||
    ((r.code == Code.proveStarved || r.code == Code.lampVfHigh || r.code == Code.laneEcho || r.code == Code.smStale ||
      r.code == Code.smGate) && strOf r.inst == t)
  | .railHold g =>
    (r.code == Code.railUv && r.inst == g) || (r.code == Code.compliance && groupOf r.inst == g) ||
    ((r.code == Code.lampVfHigh || r.code == Code.laneEcho) && groupOf (strOf r.inst) == g)
  | .auSubst a => (r.code == Code.smStale || r.code == Code.armShortfall) && r.arm == some a
  | .engine _ tmpl =>
    r.code == Code.fabLag || r.code == Code.fabRefuseFlt || (r.code == Code.taskAbandon && some r.inst == tmpl)
  | .topology => r.code == Code.memberStale || r.code == Code.tribCrc || r.code == Code.timeUnaligned
  | .pcie => r.code == Code.hostDma
  | .relock =>
    r.code == Code.clkDrift || r.code == Code.dramClk || r.code == Code.timeUnaligned || r.code == Code.railUv ||
    r.code == Code.compliance || r.code == Code.proveStarved
  | .riffle b => !deviceClass r.code && riffleCovers b r.code r.inst

/-- Whether the guard of FLT_CTL.GUARD µs has passed since the re-initialisation of a shadow was complete: the shadow is closed from that
CCLK on (R390, R392). -/
def State.shadowOver (s : State) (k : ShadowKind) : Bool :=
  match s.flt.reinit.find? (fun x => x.1 == k) with
  | some x => s.past x.2 (usTicks (s.fld Reg.fltCtl 22 10))
  | none => false

/-- Whether an open shadow covers a report's code and instance (R390). -/
def State.shadowCovers (s : State) (k : ShadowKind) (r : Report) : Bool := !s.shadowOver k && s.shadowNames k r

/-- Whether the re-initialisation that ends a shadow is complete (R390). -/
def State.shadowDone (s : State) (k : ShadowKind) : Bool :=
  match k with
  | .retirement _ => true
  | .stringCut t => (s.str t).state == .steady
  | .railHold g => s.railReady g
  | .auSubst a => (s.unit (s.arm a).unit).rebuild.isNone
  | .engine e _ => (s.engine e).state != .restarting
  | .topology => !s.chain.noticeDue
  | .pcie => s.bit Reg.hostStat 6 && s.bit Reg.hostStat 0
  | .relock => s.bit Reg.genClkstat 0 &&
      (List.range 128).all (fun t => (s.str t).state == .steady || (s.str t).state == .disabled)
  | .riffle b => s.riffleIdle b

/-- The re-initialisations that are complete now, noted for the guard (R390). -/
def State.noteReinit (s : State) : State :=
  if s.flt.shadows.isEmpty then s
  else
    let ks := s.flt.shadows.filter (fun k => s.shadowDone k && !s.flt.reinit.any (fun x => x.1 == k))
    s.onFlt (fun f => { f with reinit := ks.map (fun k => (k, s.mono)) ++ f.reinit })

/-! Sampling (R364, R366, R376, R385). -/

/-- Whether a report falls inside an open shadow over its code and instance (R390). -/
def State.shadowed (s : State) (r : Report) : Bool :=
  !deviceClass r.code && s.flt.shadows.any (fun k => s.shadowCovers k r)

/-- The severity and main reaction that a sampled report takes (R51, R370, R376, R377): COMPLIANCE at S0 while RAIL_UV is
reported for the group, only LOG in SEED; CLK_LOSS (R32) and RIFFLE_FAIL of an unspared block (R408) husk the device whatever
reaction is programmed. -/
def State.reactionOf (s : State) (r : Report) : Nat × Nat :=
  if r.code == Code.compliance && (s.group (groupOf r.inst)).uv then (0, 1)
  else if s.pwr.boot == .seed then (s.codeSev r.code, min (s.codeReact r.code) 1)
  else if r.code == Code.clkLoss || (r.code == Code.riffleFail && decide (0x60 ≤ r.inst) && decide (r.inst ≤ 0x6F)) then
    (s.codeSev r.code, 4)
  else (s.codeSev r.code, s.codeReact r.code)

/-- The severity at which a sampled report is logged: S0 for a consequential one (R384, R390). -/
def State.sampledSev (s : State) (r : Report) : Nat := if s.shadowed r then 0 else (s.reactionOf r).1

/-- The order of reports sampled in one CCLK (R385): higher severity, lower code, ascending instance, ascending SM id. -/
def State.reportBefore (s : State) (a b : Report) : Bool :=
  let sa := s.sampledSev a
  let sb := s.sampledSev b
  decide (sa > sb) || (sa == sb && (decide (a.code < b.code) || (a.code == b.code &&
    (decide (a.inst < b.inst) || (a.inst == b.inst && decide (a.smid.getD 0 < b.smid.getD 0))))))

/-- INSTANCE as logged: 0xFFFF for Device scope and WIRE (R384). -/
def loggedInst (r : Report) : Nat :=
  if r.wire then 0xFFFF else match codeRow r.code with
    | some c => if c.scope == .device then 0xFFFF else r.inst
    | none => r.inst

/-- A consequential report (R390): logged at S0, no reaction, no interrupt, no change of its code's state. -/
def State.logConsequential (s : State) (r : Report) (coinc : Bool) : State :=
  let e : LogEntry := ⟨r.time, r.code, 0, coinc, r.wire, true, false, r.inj, 0, false, false, s.nextSeq, loggedInst r, r.smid,
    r.arm, r.d0, r.d1, s.bootCount⟩
  ((s.onCode r.code (fun c => { c with conseq := satAdd 32 c.conseq 1, lastTime := r.time })).incFld Reg.fltStat 8 8).writeLog e

/-- A sampled report that no shadow covers: its code becomes ACTIVE, the entry is logged, captured, posted and triggers the
recorder, and the programmed reaction and options act (R371, R376, R380, R385, R386, R388). -/
def State.logReport (s : State) (r : Report) (coinc : Bool) : State :=
  let sr := s.reactionOf r
  let opts := s.pwr.boot != .seed
  let fo := s.codeFoen r.code && opts
  let flt := s.codeFlt r.code && opts
  let t := s.onCode r.code (fun c => { c with
    state := .active, sev := some (max (c.sev.getD 0) sr.1), foAct := c.foAct || fo, fltRel := c.fltRel || flt,
    huskTaken := c.huskTaken || sr.2 == 3 || sr.2 == 4, devh := c.devh || sr.2 == 4,
    arms := if sr.2 == 3 then (match r.arm with | some a => c.arms ||| 2 ^ a | none => c.arms) else c.arms,
    lastInst := loggedInst r, lastSm := r.smid, lastArm := r.arm, lastTime := r.time,
    reports := satAdd 32 c.reports 1 })
  let t1 := if r.wire then (t.addCause r.code (wireInst r.d0.toNat)).incFld Reg.fltStat 16 16 else t
  if sr.2 = 0 then t1
  else
    let e : LogEntry := ⟨r.time, r.code, sr.1, coinc, r.wire, false, false, r.inj, sr.2, fo, flt, t1.nextSeq, loggedInst r,
      r.smid, r.arm, r.d0, r.d1, t1.bootCount⟩
    let t2 := (((t1.writeLog e).captureFirst e).post e).triggerFault r.code sr.1 r.time
    if sr.2 = 2 && !r.wire then t2.retire r.inst .host 0 else t2

/-- One sampled report handled, and the cause of an event code that names no lasting cause ended with its logging (R368). -/
def State.sampleOne (s : State) (coinc : Bool) (r : Report) : State :=
  if s.shadowed r then s.logConsequential r coinc
  else (s.logReport r coinc).leaveActive r.code

/-- A report of Submodule scope carries the arm of its entry as it stands when it is sampled (R368). -/
def State.sampledArm (s : State) (r : Report) : Report :=
  match codeRow r.code, r.smid with
  | some c, some sm => if c.scope == .submodule then { r with arm := some (s.smt sm).arm } else r
  | _, _ => r

/-- One sampling CCLK of the collector (R364, R385): every pair that asserts, and the WIREs, in the order of R385. -/
def State.sampleAll (s : State) (wires : List Report) : State :=
  let rs := sortBy s.reportBefore ((s.flt.asserted ++ wires).map s.sampledArm)
  (s.onFlt (fun f => { f with asserted := [] })).each rs (fun s r => s.sampleOne (decide (rs.length > 1)) r)

end Sys2Proof.Machine
end

