-- ==== Sys2Proof/Machine/Engines.lean ====
section
/-! DEFINITION. Engine roles and arm units changing hands: epochs, spares, stand-ins (R237 to R239, R250, R253, R194 to R196, R398,
R402). -/

namespace Sys2Proof.Machine

/-! The task of an engine that stops (R251). -/

/-- The reply of a packet without further data, with EXEC since its dispatch (R300). -/
def State.plainReply (s : State) (e : Entry) (p : Packet) (status detail : Nat) : Reply :=
  ⟨p.src, p.tag, p.queue, status, detail, e.opcode, if p.uart then 0 else p.sqhead, [],
    min ((s.mono - (s.engine e.engine).since) / 640) 0xFFFF, p.urgent, []⟩

/-- A running task's entry freed; its packet no longer runs on its queue (R243). -/
def State.endTask (s : State) (i : Nat) : State :=
  match (s.entry i).packet with
  | some p => (s.onQueue p.src (fun q => { q with running := none })).freeTask i
  | none => s.freeTask i

/-- The completion of a task's packet (R243, R289): discarded where the link was lost while it ran. -/
def State.completeTask (s : State) (e : Entry) (r : Reply) : State :=
  (if e.orphan then s else s.complete r).onHost (fun h => { h with results := h.results.filter (fun x => x.1 != e.order) })

/-- The packet of an abandoned task completed (R251, R302): with BUSY, having changed nothing; one whose command has already been executed
completes with its own reply (DESIGN CHOICE, log entry 98). -/
def State.abandonPacket (s : State) (e : Entry) (p : Packet) : State :=
  match s.host.results.find? (fun r => r.1 == e.order) with
  | some r => s.completeTask e r.2
  | none => (s.completeTask e (s.plainReply e p Status.busy 0)).onHost (fun h => { h with
      ended := if e.begun then p :: h.ended else h.ended })

/-- A task abandoned (R251, R252): TASK_ABANDON, and BUSY for a command. -/
def State.abandonTask (s : State) (i : Nat) : State :=
  let e := s.entry i
  let t := s.reportNow Code.taskAbandon e.template
  (match e.packet with
    | some p => t.abandonPacket e p
    | none => t).endTask i

/-- The task of an engine that has stopped handled by its RETRY bit (R251); one that was cancelled in the CCLK of the overrun is not
dispatched again (R254). -/
def State.recoverTask (s : State) (i : Nat) : State :=
  let e := s.entry i
  if e.retry && !e.retried && e.cancelAt != some (s.mono / 2) then
    (s.setEntry i { e with state := .ready, retried := true, rtime := wrap 32 s.now }).onRlist e.prio
      (fun l => { entries := i :: l.entries, lagging := false })
  else s.abandonTask i

/-! Engines. -/

/-- The current epoch of a role (R237). -/
def State.roleEpoch (s : State) (r : Nat) : Nat := Tab.get (fun _ => 0) s.fab.epochs r

/-- A role's epoch incremented (R250, R252, R398). -/
def State.bumpRole (s : State) (r : Nat) : State :=
  s.onFab (fun f => { f with epochs := Tab.put (fun _ => 0) f.epochs r (wrap 16 (Tab.get (fun _ => 0) f.epochs r + 1)) })

/-- Whether an engine is a spare that no slice has reserved. -/
def State.spareEngine (s : State) (e : Nat) : Bool :=
  (s.engine e).state == .spare && (match s.bist.slice with
    | some x => !(x.standIn == some e && (match blkOf x.block with | some (.engine _) => true | _ => false)) && x.block != e
    | none => true)

/-- The lowest free spare engine that may take a role (R239, R250): it never returns to a role it held when it was declared dead. -/
def State.freeSpare (s : State) (r : Nat) : Option Nat :=
  firstIdx 18 (fun e => s.spareEngine e && !(s.engine e).barred.contains r)

/-- Whether a role is served (FAB_STAT.INSVC). -/
def State.roleServed (s : State) (r : Nat) : Bool :=
  (List.range 18).any (fun e => (s.engine e).role == r &&
    ((s.engine e).state == .inService || (s.engine e).state == .standin || (s.engine e).state == .restarting))

/-- An engine put into service in a role under the role's current epoch. -/
def State.giveRole (s : State) (e r : Nat) : State :=
  s.onEngine e (fun x => { x with state := .inService, role := r, epoch := s.roleEpoch r })

/-- DATA0 of the epoch codes (R384): the epoch fenced or replaced, and the current one. -/
def epochData (old cur : Nat) : Word := pack [(0, old), (16, cur)]

/-- A role without an engine served by the lowest free spare, or ENGINE_NOSPARE (R250); `old` is the epoch replaced. -/
def State.fillRole (s : State) (r old : Nat) : State :=
  match s.freeSpare r with
  | some e => s.giveRole e r
  | none => s.report ⟨Code.engineNospare, r, none, none, epochData old (s.roleEpoch r), 0, s.now, false, false⟩

/-- An engine that has become free takes the lowest unserved role that it may take, whose ENGINE_NOSPARE ends (R250). -/
def State.serveRoles (s : State) : State :=
  match (List.range 16).findSome? (fun r => if s.roleServed r then none else (s.freeSpare r).map (fun e => (r, e))) with
  | some (r, e) => (s.giveRole e r).endCause Code.engineNospare r
  | none => s

/-- HANDOVER of an engine slice (R398): the stand-in serves the role under a new epoch, the engine is under test. -/
def State.engineHandover (s : State) (e by_ : Nat) : State :=
  let r := (s.engine e).role
  let t := s.bumpRole r
  (t.onEngine by_ (fun x => { x with state := .standin, role := r, epoch := t.roleEpoch r })).onEngine e
    (fun x => { x with state := .underTest })

/-- RETURN of an engine slice (R398): the engine, its local memory reloaded, serves its role again under a new epoch, the stand-in is a
spare. -/
def State.engineReturn (s : State) (e by_ : Nat) : State :=
  let r := (s.engine e).role
  let t := s.bumpRole r
  ((t.giveRole e r).onEngine e (fun x => { x with scratch := [] })).onEngine by_ (fun x => { x with state := .spare, epoch := 0 })

/-! Arm units. -/

/-- The free spare arm unit (R165, R194). -/
def State.spareUnit (s : State) : Option Nat :=
  firstIdx 9 (fun u => (s.unit u).role == .spare && !s.blkInSlice (0x020 + u))

/-- An arm's role taken by a unit under an incremented epoch (R194, R398); `rebuild`: the unit builds the rank list first. -/
def State.giveArm (s : State) (u a : Nat) (rebuild : Bool) : State :=
  let ep := wrap 16 ((s.arm a).epoch + 1)
  let t := (s.onArm a (fun x => { x with unit := u, epoch := ep, unserved := false })).onUnit u (fun x => { x with
    role := .inService, arm := a, epoch := ep, rebuild := if rebuild then some s.mono else none })
  if rebuild then (t.irq 34).openShadow (.auSubst a) else t

/-- An arm left without a unit (R196): its commits are refused, AU_NOSPARE is reported, and source 34 is raised. -/
def State.noSpareArm (s : State) (a old : Nat) : State :=
  ((s.onArm a (fun v => { v with unserved := true, noSpare := true })).report
    ⟨Code.auNospare, a, none, some a, epochData old (s.arm a).epoch, 0, s.now, false, false⟩).irq 34

/-- An arm unit that has become free (R194, R196): it takes an unserved arm, whose AU_NOSPARE cause ends, or an arm whose faulted
unit waits for it, or is the spare. -/
def State.freeUnit (s : State) (u : Nat) : State :=
  match firstIdx 8 (fun a => (s.arm a).unserved) with
  | some a => (s.giveArm u a true).endCause Code.auNospare a
  | none =>
    match firstIdx 8 (fun a => (s.unit (s.arm a).unit).role != .inService && (s.arm a).unit != u &&
        !(match s.bist.slice with | some x => x.standIn == some (s.arm a).unit | none => false)) with
    | some a => (s.onUnit (s.arm a).unit (fun x => { x with rebuild := none })).giveArm u a true
    | none => s.onUnit u (fun x => { x with role := .spare, rebuild := none })

/-- HANDOVER of an arm unit slice (R398): the stand-in serves the arm under a new epoch. -/
def State.unitHandover (s : State) (u by_ : Nat) : State :=
  let a := (s.unit u).arm
  let ep := wrap 16 ((s.arm a).epoch + 1)
  ((s.onArm a (fun x => { x with unit := by_, epoch := ep })).onUnit by_ (fun x => { x with
    role := .riffle, arm := a, epoch := ep, rebuild := none })).onUnit u (fun x => { x with role := .riffle })

/-- RETURN of an arm unit slice (R398): the unit serves its arm again under a new epoch; `free`: the stand-in is free again. -/
def State.unitReturn (s : State) (u by_ : Nat) (free : Bool) : State :=
  let t := s.giveArm u (s.unit u).arm false
  if free then t.freeUnit by_ else t

end Sys2Proof.Machine
end

