-- ==== Sys2Proof/Machine/Riffle.lean ====
section
/-! DEFINITION. The Riffle self-test: slots, slices, verdicts and their consequences (R394 to R406). -/

namespace Sys2Proof.Machine

/-- The IDs of a rotation, ascending (R394, R396). -/
def rotationIds : List Nat := (List.range 512).filter (fun id => (blkOf id).any Blk.sliced)

/-- Whether Riffle runs (R406). -/
def State.riffleRuns (s : State) : Bool :=
  s.bit Reg.bistCtl 0 && (s.lcs == 2 || s.lcs == 3) && s.served && !s.saved && s.bist.full == .off && !s.clk.huskLine

/-- The stand-in that the slice of a block needs, none when it is not free (R394, R396): an engine or arm unit number, 0 for the copy bank
and the other comparator set. A stand-in whose slice awaits a verdict that may be FAIL is not free (DESIGN CHOICE, log entry 99). -/
def State.standInFor (s : State) (b : Blk) : Option Nat :=
  let kept := fun (n : Nat) => s.bist.judging.any (fun x => x.standIn == some n && (match blkOf x.block, b with
    | some (.engine _), .engine _ => true
    | some (.armUnit _), .armUnit _ => true
    | _, _ => false))
  match b with
  | .engine d => (s.freeSpare (s.engine d).role).bind (fun e => if kept e then none else some e)
  | .armUnit _ => (s.spareUnit).bind (fun u => if kept u then none else some u)
  | .bank _ =>
    if s.bist.bankHeld.isNone && !s.blkUnusable 0x050 && !s.bist.judging.any (fun x => match blkOf x.block with
        | some (.bank _) => true
        | _ => false) then some 0 else none
  | .compSet t isB => if s.blkUnusable (if isB then 0x100 + t else 0x180 + t) then none else some 0
  | _ => none

/-- Whether a block that serves nothing is a spare, so that it is tested directly (R394): an engine that restarts holds its role. -/
def State.blkSpare (s : State) (b : Blk) : Bool :=
  match b with
  | .engine e => (s.engine e).state == .spare
  | _ => true

/-- Whether a slice of a block can start now (R396): it needs no stand-in, or its stand-in is free. -/
def State.canSlice (s : State) (id : Nat) : Bool :=
  match blkOf id with
  | some b => b.sliced && (s.blkUnusable id || s.bist.waiting.contains id ||
      (if s.blkServes b then (s.standInFor b).isSome else s.blkSpare b))
  | none => false

/-- A slice started (R397, R400): PREPARE with its stand-in, or TEST for a direct slice. -/
def State.startSlice (s : State) (id : Nat) (packet : Option Packet) : State :=
  match blkOf id with
  | none => s
  | some b =>
    let waiting := s.bist.waiting.contains id
    let direct := !s.blkServes b || s.blkUnusable id || waiting
    let by_ := if direct then none else s.standInFor b
    let x : Slice := ⟨id, if direct then .test else .prepare, direct, by_, packet, waiting, s.blkUnusable id, false,
      s.causePresent Code.msrHouseLate, 0, 0, false, false, s.mono⟩
    let t := s.onBist (fun r => { r with
      slice := some x, lastBlock := id, again := r.again.filter (fun a => a.1 != id),
      waiting := r.waiting.filter (fun w => w != id) })
    match b, by_ with
    | .armUnit u, some n => t.onUnit n (fun v => { v with role := .riffle, arm := (s.unit u).arm, rebuild := some s.mono })
    | .engine e, none => t.onEngine e (fun v => { v with state := if v.state == .spare then .underTest else v.state })
    | .armUnit u, none => t.onUnit u (fun v => { v with role := if v.role == .spare then .riffle else v.role })
    | _, _ => t

/-- Whether the rotation skips a block (R396). -/
def State.rotationSkips (s : State) (id : Nat) : Bool :=
  match blkOf id with
  | some b => s.blkUnusable id || !s.bit Reg.bistCtl b.classBit || !s.canSlice id
  | none => true

/-- A block skipped (R396): VERDICT is SKIPPED. -/
def State.skipBlock (s : State) (id : Nat) : State :=
  (s.setFld (Reg.bistBstat id) 8 3 RifVerdict.skipped.code).onBist (fun b => { b with skips := satAdd 8 b.skips 1 })

/-- The end of a rotation (R396, R413): its summary, ROT, and source 38 with ROTIRQ. -/
def State.endRotation (s : State) : State :=
  let b := s.bist
  let t := (s.setReg Reg.bistRstat (pack [(0, b.skips), (8, b.voids), (16, b.incs), (24, b.fails)])).onBist (fun b => { b with
    skips := 0, voids := 0, incs := 0, fails := 0, next := 0, rots := wrap 16 (b.rots + 1) })
  if s.bit Reg.bistCtl 1 then t.irq 38 else t

/-- The next block of the rotation from the list of IDs left: blocks skipped on the way, the first that can run started. -/
def State.rotate : State → List Nat → State
  | s, [] => s
  | s, id :: ids =>
    if s.rotationSkips id then ((s.skipBlock id).onBist (fun b => { b with next := id + 1 })).rotate ids
    else (s.startSlice id none).onBist (fun b => { b with next := id + 1 })

/-- The IDs of the rotation that are still to come. -/
def State.idsLeft (s : State) : List Nat := rotationIds.filter (fun id => decide (s.bist.next ≤ id))

/-- Whether the conditions of R400 have been clear for the last house round of both converters (R401). -/
def State.riffleClear (s : State) : Bool := !s.bist.dirty1 && !s.bist.dirty3 && !s.causePresent Code.msrHouseLate

/-- Items 2 and 3 of R396, with the repeats of R401 ahead of the rotation. -/
def State.slotOther (s : State) : State :=
  match s.bist.waiting with
  | id :: _ => s.startSlice id none
  | [] =>
    match s.bist.again.find? (fun a => s.canSlice a.1 && (!a.2 || s.riffleClear)) with
    | some a => s.startSlice a.1 none
    | none =>
      let t := if s.idsLeft.isEmpty then s.endRotation else s
      let u := t.rotate t.idsLeft
      if u.bist.slice.isSome || !u.idsLeft.isEmpty then u else (u.endRotation).rotate rotationIds

/-- What a slot starts (R396): a pending BIST_SLICE_NOW, the oldest block waiting after a failure, a block to be repeated (R401),
the next block of the rotation. -/
def State.slotPick (s : State) : State :=
  match s.bist.now with
  | some (id, p) =>
    if s.canSlice id then (s.startSlice id (some p)).onBist (fun b => { b with now := none }) else s.slotOther
  | none => s.slotOther

/-! Returns and verdicts. -/

/-- The requests of a block go back to it and its stand-in is free (R398). -/
def State.sliceReturn (s : State) (x : Slice) : State :=
  match blkOf x.block, x.standIn with
  | some (.engine e), some n => s.engineReturn e n
  | some (.armUnit u), some n => s.unitReturn u n ((s.unit n).role == .riffle && !s.bist.waiting.contains (0x020 + n))
  | some (.compSet t isB), some _ =>
    s.onBist (fun b => { b with setB := if isB then t :: b.setB.filter (fun v => v != t) else b.setB.filter (fun v => v != t) })
  | some (.engine e), none =>
    s.onEngine e (fun v => { v with state := if v.state == .underTest then .spare else v.state })
  | some (.armUnit u), none =>
    if !x.afterFail && !x.unusable && (s.unit u).role == .riffle then s.onUnit u (fun v => { v with role := .spare }) else s
  | _, _ => s

/-- What a stand-in does that served in PREPARE only: it is free again. -/
def State.standInDown (s : State) (x : Slice) : State :=
  match blkOf x.block, x.standIn with
  | some (.armUnit _), some n =>
    if s.bist.waiting.contains (0x020 + n) then s.onUnit n (fun v => { v with rebuild := none }) else s.freeUnit n
  | _, _ => s

/-- The effect of a FAIL (R402, R403): the block is UNUSABLE until the next reset, its stand-in keeps the role. A task that the engine had
taken since its RETURN is handled as R251 says (DESIGN CHOICE, log entry 96: the spec says nothing of it). -/
def State.failBlock (s : State) (id : Nat) (by_ : Option Nat) : State :=
  let t := s.onBist (fun b => { b with unusable := if b.unusable.contains id then b.unusable else id :: b.unusable })
  match blkOf id with
  | some (.engine e) =>
    let x := s.engine e
    let u := t.onEngine e (fun v => { v with state := .unusable, epoch := 0, task := none })
    let v := if x.state == .inService then
        let w := u.bumpRole x.role
        match by_ with
        | some n => if (w.engine n).state == .spare then w.giveRole n x.role else w.fillRole x.role x.epoch
        | none => w.fillRole x.role x.epoch
      else u
    match x.task with
    | some i => v.recoverTask i
    | none => v
  | some (.armUnit n) =>
    let x := s.unit n
    let u := t.onUnit n (fun v => { v with role := .unusable, rebuild := none })
    if x.role == .inService then
      match (by_.filter (fun m => (u.unit m).role == .spare)).or u.spareUnit with
      | some m => u.giveArm m x.arm by_.isNone
      | none => u.noSpareArm x.arm x.epoch
    else u
  | some (.bank b) => t.onBist (fun r => { r with bankHeld := if r.bankHeld.isNone then some b else r.bankHeld })
  | some (.compSet str isB) =>
    t.onBist (fun r => { r with setB := if isB then r.setB.filter (fun v => v != str) else
      (if r.setB.contains str then r.setB else str :: r.setB) })
  | _ => t

/-- A test after a failure that passed (R403): the engine is a spare again, the arm unit is free. -/
def State.recoverBlock (s : State) (id : Nat) : State :=
  match blkOf id with
  | some (.engine e) => (s.onEngine e (fun v => { v with state := .spare, epoch := 0, scratch := [] })).serveRoles
  | some (.armUnit u) => s.freeUnit u
  | _ => s

/-- The fault code of a verdict (R413). -/
def RifVerdict.fault : RifVerdict → Option Nat
  | .fail => some Code.riffleFail | .incomplete => some Code.riffleIncomplete | .void => some Code.riffleVoid | _ => none

/-- A verdict given (R399 to R404, R413): BIST_BSTAT, counts, report, source 38, repeats, what becomes of the block, and the reply of
BIST_SLICE_NOW. -/
def State.giveVerdict (s : State) (x : Slice) (v0 : RifVerdict) : State :=
  let inc := s.fld (Reg.bistBstat x.block) 4 2
  let v := if v0 == .incomplete && inc ≥ 2 then RifVerdict.fail else v0
  let t1 := s.setReg (Reg.bistBstat x.block) (pack [(24, s.bist.rots % 256), (8, v.code), (4,
    match v with | .pass => 0 | .incomplete => inc + 1 | _ => inc)])
  let t2 := t1.onBist (fun b => { b with
    fails := if v == .fail then satAdd 8 b.fails 1 else b.fails, incs := if v == .incomplete then satAdd 8 b.incs 1 else b.incs,
    voids := if v == .void || v == .aborted then satAdd 8 b.voids 1 else b.voids })
  let t3 := if x.unusable then t2
    else match v.fault with
      | some code => t2.reportNow code x.block
      | none => t2
  let t4 := if v == .pass then t3 else t3.irq 38
  let t5 := if x.unusable then t4
    else if v == .fail then t4.failBlock x.block x.standIn
    else if v == .pass then (if x.afterFail then t4.recoverBlock x.block else t4)
    else if x.afterFail then t4.onBist (fun b => { b with waiting := b.waiting ++ [x.block] })
    else t4.onBist (fun b => { b with again := b.again ++ [(x.block, v == .void)] })
  match x.packet with
  | some p => t5.answer Op.bistSliceNow p Status.ok 0 [word v.code, lo32 x.misr, hi32 x.misr, word x.count]
  | none => t5

/-- A slice given up (R405): the block is re-initialised and returned at once, and the verdict is ABORTED. -/
def State.abortSlice (s : State) : State :=
  match s.bist.slice with
  | none => s
  | some x =>
    let t := s.onBist (fun b => { b with slice := none })
    (if x.phase == .prepare && !x.direct then t.standInDown x else t.sliceReturn x).giveVerdict x .aborted

/-- A slice given up whose unit under test has to rebuild before it returns (R405). -/
def State.abortToReinit (s : State) : State :=
  s.onBist (fun b => { b with slice := b.slice.map (fun x => { x with phase := .reinit, aborted := true, since := s.mono }) })

/-- Whether Riffle holds a unit as the stand-in of its slice. -/
def State.unitStandsIn (s : State) (u : Nat) : Option Slice :=
  s.bist.slice.filter (fun x => x.standIn == some u && (match blkOf x.block with | some (.armUnit _) => true | _ => false))

/-- The golden pair of a slice's block matches (R399). -/
def Slice.verdict (x : Slice) : RifVerdict :=
  let c := match blkOf x.block with | some b => b.cls | none => 0
  if x.aborted then .aborted
  else if x.isVoid then .void
  else if x.count ≠ Config.goldenCount c then .incomplete
  else if x.misr ≠ Config.goldenMisr c then .fail
  else .pass

end Sys2Proof.Machine
end

