-- ==== Sys2Proof/Machine/Fab.lean ====
section
/-! DEFINITION. The meanings of the task fabric rows (chapter 07), and the declaration of a dead engine (R249 to R256). -/

namespace Sys2Proof.Machine

/-- The opcodes that are defined (R304). -/
def opcodesDefined : List Nat :=
  ([(1, 6), (2, 3), (3, 3), (4, 4), (5, 5), (6, 6), (7, 7), (8, 6), (9, 3), (10, 4), (11, 6), (12, 10), (13, 4)] : List (Nat × Nat)).flatMap
    (fun g => (List.range g.2).map (fun i => 256 * g.1 + i + 1))

/-- The 16 words of a matching store entry (R240). -/
def Entry.words (e : Entry) (i : Nat) : List Word :=
  let slots := [e.s0, e.s1, e.s2, e.s3]
  [pack [(0, i), (16, e.template), (24, e.prio), (27, flag e.retry), (28, e.state.code)],
   pack [(0, e.key), (24, e.need), (28, e.filled)],
   pack [(0, e.budget), (12, flag e.retried), (16, e.engine)], word e.rtime] ++
  slots.flatMap (fun s => match s with
    | some d => [lo32 d.data, hi32 d.data, pack [(0, d.producer), (3, flag d.replaced), (8, d.time / 256 % 2 ^ 24)]]
    | none => [0, 0, 0])

/-- The dead engine's own state (R250): fenced, its task taken from it, and not sliced again before it is handed to Riffle. -/
def State.killEngine (s : State) (e : Nat) : State :=
  (s.onBist (fun b => { b with again := b.again.filter (fun a => a.1 != e) })).onEngine e (fun x => { x with
    state := .dead, task := none, since := s.mono, halted := false, revLogged := false, oldEpoch := x.epoch,
    barred := if x.state == .inService || x.state == .standin || x.state == .restarting then x.role :: x.barred else x.barred })

/-- An engine declared dead (R250, R251, R254, R405): the role's epoch incremented, the engine fenced, a spare in its role; a
stand-in that dies gives the role back to the engine under test, that of a dead engine under test keeps it, and a spare that stands in
elsewhere, or is about to, gives up its slice. -/
def State.engineDies (s : State) (e : Nat) : State :=
  let x := s.engine e
  let task := x.task
  let s1 := match s.bist.slice with
    | some y =>
      let reserved := y.standIn == some e && x.state == EngState.spare && (match blkOf y.block with | some (.engine _) => true | _ => false)
      if (y.block == e && x.state == EngState.inService) || reserved then s.abortSlice else s
    | none => s
  let s2 := match (if x.state == .restarting then x.was else x.state), s1.bist.slice with
    | .standin, some y =>
      let t := ((s1.bumpRole x.role).giveRole y.block x.role).killEngine e
      (t.onBist (fun b => { b with slice := none })).giveVerdict y .aborted
    | .underTest, some y =>
      let t := match y.standIn with
        | some n => s1.onEngine n (fun g => { g with state := .inService })
        | none => s1
      ((t.onBist (fun b => { b with slice := none })).giveVerdict y .aborted).killEngine e
    | .inService, _ =>
      let t := if (s1.freeSpare x.role).isNone && (s1.bist.slice.any (fun (y : Slice) => match blkOf y.block with
          | some (.engine _) => y.standIn.isSome
          | _ => false)) then s1.abortSlice else s1
      ((t.bumpRole x.role).killEngine e).fillRole x.role x.epoch
    | _, _ => s1.killEngine e
  let s3 := (s2.report ⟨Code.engineDead, e, none, none, epochData x.epoch (s2.roleEpoch x.role), 0, s.now, false, false⟩).openShadow
    (.engine e (task.map (fun i => (s.entry i).template)))
  match task with
  | some i => s3.recoverTask i
  | none => s3

/-- FAB_ENGINE_STATS (R272). -/
def execFabEngineStats (p : Packet) (s : State) : Out :=
  done (s.command Op.fabEngineStats p (fun s =>
    let e := field (p.word 0) 0 5
    let x := s.engine e
    if e ≥ 18 then s.reply Status.badParam 0 []
    else
      (if wbit (p.word 0) 16 then s.setEngine e { x with tasks := 0, overruns := 0, revAcc := 0, busy := 0 } else s).reply
        Status.ok 0 ([x.tasks, x.overruns, x.revAcc, x.busy].map word)))

/-- The 16 return lanes with the most refusals and their counts, ties in ascending lane (R272). -/
def State.worstLanes (s : State) : List Word :=
  ((sortBy (fun a b => decide (a.2 > b.2) || (a.2 == b.2 && decide (a.1 < b.1)))
    ((List.range 512).map (fun l => (l, Tab.get (fun _ => 0) s.fab.laneRefusals l)))).take 16).flatMap (fun x => [word x.1, word x.2])

/-- FAB_PRODUCER_STATS (R272). -/
def execFabProducerStats (p : Packet) (s : State) : Out :=
  let k := field (p.word 0) 0 3
  done (s.command (Op.fabProducerStats (k == 0)) p (fun s =>
    let x := s.producer k
    if k > 5 then s.reply Status.badParam 0 []
    else
      (if wbit (p.word 0) 16 then
        (((s.setProducer k .reset).setFld (Reg.fabPstat k) 16 16 0).setReg Reg.fabCancel 0).onFab (fun f => { f with
          laneRefusals := if k = 0 then [] else f.laneRefusals })
       else s).reply Status.ok 0
        ([x.deposits, x.overwrites, x.refusals, x.slips].map word ++ (if k = 0 then s.worstLanes else []))))

/-- FAB_MSSEL written (R245): the whole entry copied to FAB_MSSNAP in the same CCLK. -/
def State.writeMssel (s : State) (v : Word) : State :=
  if !s.served then s
    else
      let i := field v 0 11
      let ws := (s.entry i).words i
      (s.writeReg Reg.fabMssel v).each (List.range 16) (fun s k => s.setReg (Reg.fabMssnap k) (ws.getD k 0))

/-- FAB_MSSEL written (R245). -/
def execFabMsselWrite (v : Word) (s : State) : Out := done (s.writeMssel v)

/-- Whether an engine takes a task now (R238, R244, R398, R427): in service or standing in, idle; in SAVED only the lowest engine in
service. -/
def State.engineIdle (s : State) (e : Nat) : Bool :=
  let x := s.engine e
  x.task.isNone && (x.state == .inService || x.state == .standin) &&
  (!(s.pwr.phase == .saved) || (firstIdx 18 (fun d => (s.engine d).state == .inService)) == some e)

/-- What a command packet with an undefined opcode answers (R299, checks 1 and 2); the others are executed by their own rows. -/
def State.refuseOpcode (s : State) (e : Entry) : State :=
  match e.packet with
  | some p =>
    if opcodesDefined.contains e.opcode then s
    else
      let r := if p.queue.toNat ≠ p.src then s.plainReply e p Status.badParam 0x51 else s.plainReply e p Status.badOpcode 0
      (s.onQueue p.src (fun q => { q with refusedHeader := satAdd 32 q.refusedHeader 1 })).onHost (fun h => { h with
        results := (e.order, r) :: h.results })
  | none => s

/-- TASK_DISPATCH (R244): the lowest idle engine takes the head of the lowest-numbered non-empty list. -/
def execTaskDispatch (s : State) : Out :=
  done (match firstIdx 18 s.engineIdle, (List.range 8).findSome? (fun l => (s.rlist l).entries.head?.map (fun i => (l, i))) with
    | some e, some (l, i) =>
      if !s.serving then s
      else
        let x := { s.entry i with state := .running, engine := e }
        let t := ((s.setEntry i x).onRlist l (fun r => { entries := r.entries.tail, lagging := false })).onEngine e
          (fun g => { g with task := some i, since := s.mono, tasks := satAdd 32 g.tasks 1 })
        let u := match x.packet with
          | some p => t.onQueue p.src (fun q => { q with running := some x.order })
          | none => t
        u.refuseOpcode x
    | _, _ => s)

/-- An access of an engine under an old epoch (R251 to R253): discarded and counted, the first one logged. -/
def State.fenceAccess (s : State) (e : Nat) : State :=
  let x := s.engine e
  let t := s.setEngine e { x with revenant := satAdd 8 x.revenant 1, revLogged := true, revAcc := satAdd 32 x.revAcc 1 }
  if x.revLogged then t
  else t.report ⟨Code.engineRevenant, e, none, none, epochData x.oldEpoch (s.roleEpoch x.role), 0, s.now, false, false⟩

/-- An operand that a running task deposits (R241, R247): a refusal goes back to the task. -/
def State.taskDeposit (s : State) (d : Deposit) : State :=
  (s.deposit .engine d.template (wrap 24 d.key) d.slot (wrap 64 d.data) none).getD (s.refuseDeposit .engine)

/-- One page taken for the firmware event log, or the refusal counted (R260). -/
def State.takeLogPage (s : State) : State :=
  match s.allocPage 2 with
  | some (p, t) => t.onFab (fun f => { f with dram := { f.dram with logPages := f.dram.logPages ++ [p] } })
  | none => s.countRefusal 2

/-- The oldest pages of the firmware event log given back (R260). -/
def State.giveLogPages (s : State) (n : Nat) : State :=
  (s.freePagesBack (s.fab.dram.logPages.take n)).onFab (fun f => { f with dram := { f.dram with logPages := f.dram.logPages.drop n } })

/-- What the firmware of a task does, written by its engine (R237, R241, R253, R260). -/
def State.doWork (s : State) (e : Nat) (w : TaskWork) : State :=
  let t := ((s.each w.deposits State.taskDeposit).each (List.range w.logTake) (fun t _ => t.takeLogPage)).giveLogPages w.logGive
  (t.onFab (fun f => { f with shared := w.shared.foldl (fun m c => Tab.put (fun _ => 0) m c.1 c.2) f.shared })).onEngine e (fun g => { g with
    scratch := w.scratch.foldl (fun m c => Tab.put (fun _ => 0) m c.1 c.2) g.scratch })

/-- Whether an engine writes under an epoch that stands (R253, R398): that of its role, or its own while it ends the task that it had at its
HANDOVER. -/
def State.epochStands (s : State) (e : Nat) : Bool :=
  let x := s.engine e
  x.state == .underTest || x.epoch == s.roleEpoch x.role

/-- TASK_COMPLETE (R243, R253, R388): the task of an engine ends; a command's reply is completed with EXEC, a post task mirrors and
signals. A command that has not been executed is not complete, and the writes of an engine under an old epoch are discarded. -/
def execTaskComplete (x : TaskEnd) (s : State) : Out :=
  let e := x.engine
  let w := x.work
  let x := s.engine e
  done (match x.task with
    | none => s
    | some i =>
      if !s.serving then s
      else if !s.epochStands e then s.fenceAccess e
      else
      let t := (s.doWork e w).onEngine e (fun g => { g with task := none, busy := satAdd 32 g.busy ((s.mono - x.since) / 2) })
      match (s.entry i).packet with
      | some _ =>
        match s.host.results.find? (fun r => r.1 == (s.entry i).order) with
        | some r =>
          (t.completeTask (s.entry i) { r.2 with exec := min ((s.mono - x.since) / 640) 0xFFFF }).endTask i
        | none => s
      | none => (if (s.entry i).template = 0x01 then t.runPost (s.entry i).key w.mirrorBad else t).endTask i)

/-- TASK_OVERRUN (R249 to R252): the watchdog reaches 4 × budget. A first overrun kills the engine; that of a retried task abandons the
task and restarts the engine, under a new epoch of its role unless a stand-in serves that role. -/
def execTaskOverrun (e : Fin 18) (s : State) : Out :=
  let x := s.engine e
  done (match x.task with
    | none => s
    | some i =>
      let n := s.entry i
      if s.clk.lost || !s.past x.since (128 * n.budget) then s
      else
        let t := s.onEngine e (fun g => { g with overruns := satAdd 32 g.overruns 1 })
        if n.retried then
          let b := if x.state == .underTest then t else t.bumpRole x.role
          let u := b.onEngine e (fun g => { g with
            state := .restarting, was := x.state, task := none, oldEpoch := x.epoch, epoch := b.roleEpoch x.role, revLogged := false,
            scratch := [] })
          (u.openShadow (.engine e (some n.template))).abandonTask i
        else t.engineDies e)

/-- ENGINE_RESTART_DONE (R252): the engine serves its role again, as a stand-in if it was one; one under a slice goes on to its TEST. -/
def execEngineRestartDone (e : Fin 18) (s : State) : Out :=
  done (if (s.engine e).state == .restarting then s.onEngine e (fun g => { g with state := g.was }) else s)

/-- DEAD_ENGINE_HALT (R251): the engine is halted at its next access, which is discarded and counted, or after 1 ms; it is handed to
Riffle. An access of a RESTARTING engine under its old epoch is discarded and counted too (R252). -/
def execDeadEngineHalt (e : Fin 18) (access : Bool) (s : State) : Out :=
  let x := s.engine e
  done (if x.state == .dead && !x.halted && (access || s.past x.since (msTicks 1)) then
    let t := (s.onEngine e (fun g => { g with halted := true })).onBist (fun b => { b with waiting := b.waiting ++ [e.val] })
    if access then t.fenceAccess e else t
  else if x.state == .restarting && access then s.fenceAccess e
  else s)

/-- A timer's deposit (R241, R247): a refused expiry waits for its retry and is counted once as a slip. -/
def State.timerDeposit (s : State) (t : Nat) (x : FwTimer) (first : Bool) : State :=
  let put := fun (s : State) (x : FwTimer) => s.onFab (fun f => { f with timers := Tab.put (fun _ => FwTimer.reset) f.timers t x })
  match s.deposit .timer x.template x.key x.slot x.data none with
  | some u => put u { x with retrying := false }
  | none =>
    let u := put (s.refuseDeposit .timer) { x with retrying := true }
    if first then u.onProducer Producing.timer.code (fun p => { p with slips := satAdd 32 p.slips 1 }) else u

/-- TIMER_EXPIRY (R241). -/
def execTimerExpiry (t : Fin 64) (template : Fin 256) (key : Nat) (op : SlotOperand) (s : State) : Out :=
  done (if s.serving then s.timerDeposit t ⟨template, wrap 24 key, op.slot, wrap 64 op.data, false⟩ true else s)

/-- TIMER_RETRY (R247). -/
def execTimerRetry (t : Fin 64) (s : State) : Out :=
  let x := Tab.get (fun _ => FwTimer.reset) s.fab.timers t
  done (if x.retrying && s.serving then s.timerDeposit t x false else s)

/-- FAB_LAG (R244): a list head has waited longer than LAGLIM, once per episode. -/
def execFabLag (l : Fin 8) (s : State) : Out :=
  let r := s.rlist l
  let lim := s.fld Reg.fabCtl 16 16
  done (match r.entries with
    | i :: _ =>
      if lim ≠ 0 && !r.lagging && decide (wrap 32 (s.now + 2 ^ 32 - (s.entry i).rtime % 2 ^ 32) > usTicks lim) then
        ((s.setRlist l { r with lagging := true }).setBit (Reg.fabList l) 31 true).reportNow Code.fabLag l
      else s
    | [] => s)

/-- The records that an uncorrectable error in the staging strikes, as (stream, place in its input queue), are dropped and counted as a gap
(R256, R262). -/
def State.dropStaged (s : State) (struck : List (Fin 16 × Nat)) : State :=
  s.each (List.range 16) (fun s i =>
    let t := s.strm i
    let kept := (t.queue.zipIdx.filter (fun x => !struck.any (fun y => y.1.val == i && y.2 == x.2))).map Prod.fst
    let n := t.queue.length - kept.length
    if n = 0 then s
    else (s.setStrm i ({ t with queue := kept }.dropped n)).setBit (Reg.recSstat i) 28 true)

/-- The command that a reading engine runs completes with BUSY (R256), unless it has already been executed (R302). -/
def State.failReader (s : State) (e : Nat) : State :=
  match (s.engine e).task with
  | some i =>
    match (s.entry i).packet with
    | some p =>
      if (s.entry i).begun || s.host.results.any (fun r => r.1 == (s.entry i).order) then s
      else s.onHost (fun h => { h with results := ((s.entry i).order, s.plainReply (s.entry i) p Status.busy 0) :: h.results })
    | none => s
  | none => s

/-- The bank that an access to a bank's addresses reaches (R398, R402): bank 32 while it stands in, or for good after a FAIL. -/
def State.physBank (s : State) (bank : Nat) : Nat :=
  if s.bist.bankHeld == some bank || (match s.bist.slice with
    | some x => x.block == 0x030 + bank && x.phase != RifPhase.prepare
    | none => false) then 32 else bank

/-- SRAM_ECC_ERROR (R255, R256): counted, and an uncorrectable one handled by region; `read` says who met it (the scrubber only while it
runs) and which staged records it strikes. An uncorrectable error during a bank's copy gives up the slice (R405). -/
def execSramEccError (off : Nat) (corrected : Bool) (read : SramRead) (s : State) : Out :=
  let bank := off % 0x400000 / 0x20000
  done (if !s.serving || (read.reader == .scrubber && !s.bit Reg.fabCtl 0) then s
    else s.injecting (s.physBank bank) (flag (!corrected)) (fun s => if corrected then (s.incFld Reg.fabSram 8 16).setFld Reg.fabSram 0 5 bank
    else
      let t := (s.incFld Reg.fabSram 24 8).setFld Reg.fabSram 0 5 bank
      let u := match t.bist.slice with
        | some x => if x.block = 0x030 + bank && (x.phase == RifPhase.prepare || x.phase == RifPhase.reinit) then t.abortSlice else t
        | none => t
      if bank ≤ 2 || bank = 12 then u.reportNow Code.sramUeTables bank
      else if bank ≤ 11 then
        let e := (off % 0x400000 - 0x60000) / 0x10000
        let w := u.reportNow Code.sramUeEngine bank
        if (w.engine e).state == .dead || (w.engine e).state == .unusable then w else w.engineDies e
      else if 13 ≤ bank && bank ≤ 16 then (u.dropStaged read.struck).reportNow Code.sramUeRec bank
      else
        let w := u.reportNow Code.sramUeOther bank
        match read.reader with
        | .engine e => w.failReader e
        | _ => w))

end Sys2Proof.Machine
end

