-- ==== Sys2Proof/Machine/Commit.lean ====
section
/-! DEFINITION. The LMP commit engine (R56 to R60, R64 to R68, R82 to R86) and the rails' fault conditions (R63, R499). -/

namespace Sys2Proof.Machine

/-! The checks of R65, in their order, over a configuration. Each gives the detail and the index of its first failure. -/

/-- Checks 2 to 4: CUR, position modes, all positions absent. -/
def stringFault (c : Conf) : Option (Nat × Nat) :=
  match firstIdx 128 (fun t => decide (1 ≤ confCur c t) && decide (confCur c t ≤ 0x1F)) with
  | some t => some (0x01, t)
  | none => match firstIdx 128 (fun t => (lampsOf t).any (fun l => confMode c l == 3)) with
    | some t => some (0x03, t)
    | none => (firstIdx 128 (fun t => confCur c t != 0 && (lampsOf t).all (fun l => confMode c l == 0))).map (fun t => (0x02, t))

/-- Check 5: HDRM 22 to 60, FSW listed (every CSLIM code is valid), then BUDGET at most 36.0 W. -/
def rangeFault (c : Conf) : Option (Nat × Nat) :=
  match firstIdx 8 (fun g => decide (field (c (Reg.lmpGrail g)) 16 6 < 22) || decide (field (c (Reg.lmpGrail g)) 16 6 > 60) ||
      field (c (Reg.lmpGrail g)) 24 2 == 3) with
  | some g => some (0x0A, g)
  | none => if confBudget c > 360 then some (0x0A, 0x1FF) else none

/-- Check 6: the pairing rules against every valid entry, in ascending SM id (R82). -/
def State.pairFault (s : State) (c : Conf) : Option (Nat × Nat) :=
  (s.weir.smt.filter (fun e => e.2.valid)).findSome? (fun e => pairingFault c e.2 (s.otherEntries e.1))

/-- Check 7 (R58): a string of an auto-tracking group whose reserve does not fit under the group's target. -/
def reserveFault (c : Conf) : Option (Nat × Nat) :=
  if confTrack c then none
  else (firstIdx 128 (fun t =>
    let g := groupOf t
    confCur c t != 0 && !confManual c g &&
      decide (confD c t + confQ c t + 1100 > maxOf ((confActive c g).map (confD c)) + confHdrm c g))).map (fun t => (0x07, t))

/-- Check 8 (R59): a manual rail below what its strings need. -/
def manualFault (c : Conf) : Option (Nat × Nat) :=
  (firstIdx 8 (fun g => confManual c g && !(confActive c g).isEmpty &&
    decide (railMv (confRail c g) < maxOf ((confActive c g).map (fun t => confD c t + confQ c t)) + 1100))).map (fun g => (0x05, g))

/-- Check 9 (R60): an active group whose highest auto-tracking target is above 20.00 V, or a manual code above 280. -/
def railFault (c : Conf) : Option (Nat × Nat) :=
  (firstIdx 8 (fun g => if confManual c g then decide (confRail c g > 280)
    else !(confActive c g).isEmpty && decide (vEst c g > 20000))).map (fun g => (0x04, g))

/-- Checks 2 to 9 of R65: the detail and index of the first failure. -/
def State.confFault (s : State) (c : Conf) : Option (Nat × Nat) :=
  (stringFault c).or ((rangeFault c).or ((s.pairFault c).or ((reserveFault c).or ((manualFault c).or (railFault c)))))

/-- All checks of R65: the status, detail and index of the first failure. -/
def State.lmpFault (s : State) (c : Conf) : Option (Nat × Nat × Nat) :=
  if s.pwr.boot != .ready || s.saved then some (Status.state, 0x21, 0)
  else match s.confFault c with
    | some f => some (Status.badParam, f.1, f.2)
    | none => if pEst c > 100 * confBudget c then some (Status.budget, 0x10, 0) else none

/-! The engine. -/

/-- LMP_CFGSTAT's STATUS, DETAIL and INDEX recorded, REFUSED on BUDGET, COMMIT reading 0, and the command that started the commit
answered (R65, R66, R68). -/
def State.endLmp (s : State) (packet : Option Packet) (est status detail index : Nat) : State :=
  let t := ((s.setFld Reg.lmpCfgstat 0 8 status).setFld Reg.lmpCfgstat 8 8 detail).setFld Reg.lmpCfgstat 16 9 index
  let t1 := if status = Status.budget then t.setFld Reg.lmpPest 16 16 (min est 0xFFFF) else t
  let t2 := (t1.setReg Reg.lmpCfgcmt 0).onLamps (fun l => { l with commit := none })
  match packet with
  | some p => t2.answer Op.lmpCommit p status detail [word detail, word index, word est]
  | none => t2

/-- A commit started (R64 to R66, step 1): its snapshot taken and checked; it ends with the first failure, or raises the groups whose
targets rise and waits for them. -/
def State.startLmp (s : State) (packet : Option Packet) : State :=
  let snap := s.lmpSnap
  let c := s.snapConf snap
  match s.lmpFault c with
  | some f => s.endLmp packet (pEst c) f.1 f.2.1 f.2.2
  | none =>
    let up := (List.range 8).filter (fun g => decide (s.targetOf c g > (s.group g).target))
    let t := (s.setFld Reg.lmpCfgstat 0 8 Status.busy).setReg Reg.lmpCfgcmt 1
    let u := t.onLamps (fun l => { l with commit := some ⟨snap, up, s.mono, pEst c, packet⟩ })
    u.each up (fun u g => u.setTarget g (s.targetOf c g))

/-- The same-group pairings of the submodule table (R82). -/
def State.sameGroup (s : State) : Nat :=
  countTrue (s.weir.smt.map (fun e => e.2.valid && e.2.spv && groupOf (strOf e.2.lamp) == groupOf (strOf e.2.spare)))

/-- Whether the committed set currents of a pairing's strings differ by more than 10 % of the partner's (R83). -/
def State.unevenSpare (s : State) : Bool :=
  s.weir.smt.any (fun e =>
    let i := confCur s.conf (strOf e.2.lamp)
    let j := confCur s.conf (strOf e.2.spare)
    e.2.valid && e.2.spv && decide (10 * ((i - j) + (j - i)) > i))

/-! Rail conditions (R63, R499). -/

/-- The voltage at a group's FB pin as last reported. -/
def State.measure (s : State) (g mv : Nat) : State := s.onGroup g (fun r => { r with measMv := mv })

/-- Whether a group's RAIL_UV, RAIL_OV and RAIL_OC are judged (R499). -/
def State.railJudged (s : State) (g : Nat) : Bool :=
  s.served && (s.group g).target != 0 && !s.clk.huskLine && !(s.die (g / 4)).ownHusk && !s.pwr.railsHeld

/-- A group report (R384): DATA0 is MEAS and TARGET. -/
def State.railReport (s : State) (code g : Nat) : State :=
  let r := s.group g
  s.report ⟨code, g, none, none, pack [(0, railCode r.measMv), (16, railCode r.target)], 0, s.now, false, false⟩

/-- The rail conditions of a group end where a hold begins that judges none (R499). -/
def State.endRail (s : State) (g : Nat) : State :=
  (((s.onGroup g (fun r => { r with uv := false, ov := false, oc := false, ovHold := false, ocHold := false })).endCause
    Code.railUv g).endCause Code.railOv g).endCause Code.railOc g

/-- A drive that resumes, if nothing else holds it (R499): the setpoint starts from the measured rail. -/
def State.resumeRail (s : State) (g : Nat) : State :=
  if s.drvHeld g then s else s.onGroup g (fun r => { r with setpoint := r.measMv, reached := false, slewAt := s.mono })

/-! Step 3 of R66. -/

/-- Whether a commit moves a string's current (R71): CUR changed, or RAMP changed during a ramp. -/
def State.moved (s : State) (old : Conf) (str : Nat) : Bool :=
  confCur old str != confCur s.conf str ||
  (confRamp old str != confRamp s.conf str && ((s.str str).state == .rampUp || (s.str str).state == .rampDown))

/-- Every string and position setting takes effect in one CCLK, and lowered rails start to slew down (R66, steps 3 and 4; R68,
R74, R83). -/
def State.applyLmp (s : State) (c : LmpCommit) : State :=
  let old := s.conf
  let live := c.snap.foldl (fun (t : Tab Word) e => Tab.put regReset t e.1 e.2) (s.live.without lmpStaged)
  let t := ({ s with live := live } : State).onLamps (fun l => { l with commit := none })
  let t1 := t.each (List.range 8) (fun t g =>
    let u := t.setTarget g (t.targetOf t.conf g)
    if (u.group g).target = 0 then u.endRail g else u)
  let t2 := t1.each ((List.range 128).filter (t1.moved old)) (fun t str => t.driveStr str)
  let t3 := (t2.setFld Reg.lmpPest 0 16 (min c.est 0xFFFF)).setFld Reg.lmpCfgstat 25 6 (min t2.sameGroup 63)
  (t3.setBit Reg.lmpCfgstat 31 t3.unevenSpare).endLmp c.packet c.est Status.ok 0 0

/-- A commit abandoned (R66, R430): every rail target returns to its previous value and nothing else takes effect. -/
def State.abandonLmp (s : State) (c : LmpCommit) (status detail index : Nat) : State :=
  let t := s.onLamps (fun l => { l with commit := none })
  (t.each c.upGroups (fun t g => t.setTarget g (t.targetOf t.conf g))).endLmp c.packet c.est status detail index

end Sys2Proof.Machine
end

