-- ==== Sys2Proof/Machine/Flt.lean ====
section
/-! DEFINITION. The FLT family: the collector's sample, the ends of causes, quiet periods and escalation, clears, the log and
fault injection (R364 to R393). -/

namespace Sys2Proof.Machine

/-! The collector. -/

/-- Whether the collector is clocked: out of reset, and not between CLK_LOSS and the re-lock (R364, R501). -/
def State.collects (s : State) : Bool := s.pwr.boot != .inReset && !s.clk.lost

/-- The number of instances of a scope (R369). -/
def Scope.count : Scope → Nat
  | .device => 1 | .die => 3 | .group => 8 | .string => 128 | .lamp => 512 | .submodule => 512 | .arm => 8 | .other => 65536

/-- What a detector pair forced by FLT_INJECT shows the collector at one sample (R391): a WIRE from the second CCLK of (0, 0), an
assertion with the first of (1, 0). -/
def State.forcedPair (s : State) : List Report :=
  match s.flt.inj with
  | some j =>
    if j.checker = 0x50 && j.kind == 0 && j.taken == 1 then
      [⟨j.code, 0xFFFF, none, none, Config.freeWord s.free, 0, s.now, true, true⟩]
    else if j.checker = 0x50 && j.kind == 1 && j.taken == 0 then
      match codeRow j.code with
      | some r =>
        let tag := if r.scope == .arm then (none, some j.inst) else if r.scope == .submodule then s.smTag j.inst else (none, none)
        [⟨j.code, j.inst, tag.1, tag.2, 0, 0, s.now, false, true⟩]
      | none => []
    else []
  | none => []

/-- A sample of a forced pair is one injected access (R391); an asserted condition is present while the pair is forced. -/
def State.takeForced (s : State) : State :=
  match s.flt.inj with
  | some j =>
    if j.checker = 0x50 then
      let t := match codeRow j.code with
        | some r => if j.kind = 1 && (r.condition || r.lasting) then s.addCause j.code j.inst else s
        | none => s
      (if j.kind = 0 && j.taken == 1 then { t with free := t.free + 1 } else t).takeInjection
    else s
  | none => s

/-- The WIREs of a sample (R364): the pairs found at (0, 0) or (1, 1) for the second CCLK in a row, but for those already reported. -/
def State.newWires (s : State) (pairs : List (Nat × Nat)) : List Report :=
  (pairs.filter (fun w => (codeRow w.1).isSome && s.cclk == s.flt.suspectAt + 1 && s.flt.suspects.contains w &&
    !s.flt.causes.contains (w.1, wireInst w.2))).map (fun w => ⟨w.1, 0xFFFF, none, none, word w.2, 0, s.now, true, false⟩)

/-- FAULT_REPORT (R364 to R366, R376 to R390): one sampling CCLK; `pairs` are the detector pairs at (0, 0) or (1, 1) in it, by code and
pair number. -/
def execFaultReport (pairs : List (Nat × Nat)) (s : State) : Out :=
  done (if s.collects then
    s.reacting (fun s => ((s.sampleAll (s.newWires pairs ++ s.forcedPair)).takeForced).onFlt (fun f => { f with
      suspects := pairs, suspectAt := s.cclk }))
  else s)

/-- What the end of an observed cause changes in the unit that holds its condition. -/
def State.conditionOver (s : State) (code inst : Nat) : State :=
  if code = Code.railUv then s.onGroup inst (fun r => { r with uv := false })
  else if code = Code.ntcFault then s.onGroup inst (fun r => { r with ntcFault := false })
  else if code = Code.dramClk then s.setBit Reg.genClkstat 1 true
  else if code = Code.hostFpclk then s.setBit Reg.hostFpstat 0 true
  else if code = Code.pgFault then s.onPwr (fun p => { p with good := 31 })
  else s

/-- Whether the end of a cause is an observation of its own, and not the effect of another command: a WIRE that ends, RAIL_UV,
NTC_FAULT, PLL-B in lock again, the Fast Port clock back, and PG2 to PG4 high again. -/
def endsAlone (code : Nat) : Bool :=
  code == Code.railUv || code == Code.ntcFault || code == Code.dramClk || code == Code.hostFpclk || code == Code.pgFault

/-- FAULT_CAUSE_END (R366, R368, R371): the detector of a condition, or the WIRE of a pair, no longer asserts. -/
def execFaultCauseEnd (code inst : Nat) (s : State) : Out :=
  let wire := decide (0x10000 ≤ inst)
  done (if s.collects && s.flt.causes.contains (code, inst) && (wire || endsAlone code) then
    s.reacting (fun s => (if wire then s else s.conditionOver code inst).endCause code inst)
  else s)

/-! Quiet periods and escalation (R372, R373). -/

/-- Whether an escalation window of a code is running. -/
def State.windowRuns (s : State) (code : Nat) : Bool :=
  match (s.code code).escStart with
  | some t => !s.past t (1000 * msTicks (s.fld (Reg.fltCcfg1 (idxOfCode code)) 24 8))
  | none => false

/-- A recovery (R372): IDLE, holds released, counted in the window that runs or starts. -/
def State.recover (s : State) (code : Nat) : State :=
  s.onCode code (fun c => { c.toIdle with
    rcnt := satAdd 16 c.rcnt 1, recoveries := satAdd 32 c.recoveries 1,
    escStart := if s.windowRuns code then c.escStart else some s.mono,
    escCount := if s.windowRuns code then c.escCount + 1 else 1 })

/-- An escalation (R373): LATCHED with its holds, and an entry with ESC; the spec gives its data words no value. -/
def State.escalate (s : State) (code : Nat) : State :=
  let c := s.code code
  let e : LogEntry := ⟨s.now, code, s.codeSev code, false, false, false, true, false, 0, c.foAct, c.fltRel, s.nextSeq, c.lastInst,
    c.lastSm, c.lastArm, Config.freeWord s.free, Config.freeWord (s.free + 1), s.bootCount⟩
  let t := s.onCode code (fun c => { c with
    state := .latched, sev := some (max (c.sev.getD 0) e.sev), escStart := none, escCount := 0, escalations := satAdd 32 c.escalations 1 })
  (((({ t with free := t.free + 2 } : State).writeLog e).captureFirst e).post e).triggerFault code e.sev e.time

/-- QUIET_EXPIRY (R372, R373, R392): the quiet period ends with no assertion that waits: recovery, or escalation beyond ESCN. -/
def execQuietExpiry (code : Nat) (s : State) : Out :=
  let c := s.code code
  let cfg := s.reg (Reg.fltCcfg1 (idxOfCode code))
  done (if s.collects && (codeRow code).isSome && c.state == .quiet && s.past c.quietAt (msTicks (field cfg 0 16)) &&
      !(s.flt.asserted.any (fun r => r.code == code)) then
    s.reacting (fun s =>
      if field cfg 16 8 ≠ 0 && s.windowRuns code && decide (c.escCount ≥ field cfg 16 8) then s.escalate code else s.recover code)
  else s)

/-- ESCALATION_WINDOW_END (R373): the window and its count end together. -/
def execEscalationWindowEnd (code : Nat) (s : State) : Out :=
  done (if (codeRow code).isSome && (s.code code).escStart.isSome && !s.windowRuns code then
    s.onCode code (fun c => { c with escStart := none, escCount := 0 })
  else s)

/-- SHADOW_CLOSE (R390): the k-th open shadow closes once the guard has passed since its re-initialisation was complete. -/
def execShadowClose (k : Nat) (s : State) : Out :=
  done (match s.flt.shadows[k]? with
    | some x => if s.collects && s.shadowOver x then s.onFlt (fun f => { f with
        shadows := f.shadows.eraseIdx k, reinit := f.reinit.filter (fun y => y.1 != x) }) else s
    | none => s)

/-! Commands. -/

/-- The cause of a code is present as a clear judges it (R375, R392): an assertion that waits for its sample counts. -/
def State.causeNow (s : State) (code : Nat) : Bool := s.causePresent code || s.flt.asserted.any (fun r => r.code == code)

/-- FLT_PIN judged at a clear by driving the healthy pattern (R339). -/
def State.retryPins (s : State) (healthy : Bool) : State :=
  if s.fio.pinBad && healthy then
    (s.onField (fun f => { f with pinBad := false })).endCause Code.fltPin 0xFFFF
  else s

/-- A code cleared to IDLE (R375); with AU_NOSPARE, the commits of its arms are taken again (R196). -/
def State.clearCode (s : State) (code : Nat) : State :=
  let t := s.onCode code CodeSt.toIdle
  if code = Code.auNospare then t.each (List.range 8) (fun t a => t.onArm a (fun x => { x with noSpare := false })) else t

/-- The clears of a list of codes (R375, R392, R393): how many were cleared, the first refused, and the state after. An IDLE code is
left as it is; one that is named and whose assertion meets the clear is refused. -/
def State.clearCodes (s : State) (codes : List Nat) : Nat × Nat × State :=
  codes.foldl (fun a code =>
    let s := a.2.2
    if !s.held code && (decide (codes.length > 1) || !s.flt.asserted.any (fun r => r.code == code)) then a
    else if s.causeNow code then
      (a.1, if a.2.1 = 0 then code else a.2.1, s.onCode code (fun c => { c with refusals := satAdd 32 c.refusals 1 }))
    else (a.1 + 1, a.2.1, s.clearCode code)) (0, 0, s)

/-- The codes that a clear names. -/
def clearScope (w : Word) : List Nat := if wbit w 16 then codeTable.map (fun r => r.code) else [field w 0 16]

/-- FLT_CLEAR (R375, R393): `pinsHealthy` is what the drive test of R339 reads back. -/
def execFltClear (p : Packet) (pinsHealthy : Bool) (s : State) : Out :=
  done (s.command Op.fltClear p (fun s =>
    let w := p.word 0
    if !wbit w 16 && (codeRow (field w 0 16)).isNone then s.reply Status.badParam 0 []
    else
      let t := if (clearScope w).contains Code.fltPin then s.retryPins pinsHealthy else s
      let r := t.clearCodes (clearScope w)
      (s.reacting (fun _ => r.2.2)).reply (if r.2.1 = 0 then Status.ok else Status.causeActive) 0 [word r.1, word r.2.1]))

/-- The entries of a source from a first SEQ on (R389, R393), oldest first: from that entry where the source holds it, none
where it is still to come, else from the oldest. -/
def logFrom (oldest : List LogEntry) (first : Nat) : List LogEntry :=
  match oldest.getLast? with
  | none => []
  | some e =>
    match oldest.findIdx? (fun e => e.seq == first) with
    | some i => oldest.drop i
    | none => if (e.seq + 65536 - first) % 65536 < 32768 then oldest else []

/-- FLT_LOG_READ (R387, R389, R393): with no entry written, the SEQ of the first written is a value the spec does not give. -/
def execFltLogRead (p : Packet) (s : State) : Out :=
  done (s.command Op.fltLogRead p (fun s =>
    let n := (p.word 2).toNat
    if n < 1 ∨ n > 256 then s.reply Status.badParam 0 []
    else
      let first := field (p.word 1) 0 16
      let es := (logFrom ((if wbit (p.word 0) 0 then s.flt.mirror else s.flt.log).reverse) first).take n
      match es.head?, es.getLast? with
      | some a, some b => (s.dmaWrite p.ptr.toNat (bytesOf (es.flatMap LogEntry.words))).reply Status.ok 0
          [word es.length, word a.seq, word (wrap 16 (b.seq + 1))]
      | _, _ => ({ s with free := s.free + 1 } : State).reply Status.ok 0 [0, Config.freeWord s.free, word first]))

/-- Whether a checker has a kind of injection (R391). -/
def injectable (checker kind code : Nat) : Bool :=
  (decide (checker ≤ 0x20) && decide (kind ≤ 1)) ||
  ((decide (0x28 ≤ checker ∧ checker ≤ 0x2B) || decide (0x30 ≤ checker ∧ checker ≤ 0x38) || checker == 0x40 || checker == 0x41 ||
    checker == 0x48) && kind == 0) ||
  (checker == 0x50 && decide (kind ≤ 1) && (codeRow code).isSome)

/-- FLT_INJECT (R391, R393, R465). The instance of an injected assertion is a value the spec does not give. -/
def execFltInject (p : Packet) (s : State) : Out :=
  done (s.command Op.fltInject p (fun s =>
    let checker := field (p.word 0) 0 8
    let kind := field (p.word 0) 8 2
    let n := field (p.word 0) 16 8
    let code := field (p.word 1) 0 16
    if !s.inMaint || s.lcs != 3 then s.reply Status.state 0 []
    else if s.flt.inj.isSome then s.reply Status.busy 0 []
    else if !injectable checker kind code || n == 0 then s.reply Status.badParam 0 []
    else
      let inst := if checker = 0x50 && kind == 1 then
          Config.freeNat s.free % (match codeRow code with | some r => r.scope.count | none => 1)
        else 0xFFFF
      let t := ({ s with free := s.free + 1 } : State).onFlt (fun f => { f with inj := some ⟨checker, kind, code, inst, n, 0⟩ })
      (t.reportNow Code.fltInject checker).reply Status.ok 0 []))

/-- FLT_CODE_STATS (R393). -/
def execFltCodeStats (p : Packet) (s : State) : Out :=
  done (s.command Op.fltCodeStats p (fun s =>
    let code := field (p.word 0) 0 16
    let c := s.code code
    if (codeRow code).isNone then s.reply Status.badParam 0 []
    else (s.when (wbit (p.word 0) 16) (fun s => s.setCode code { c with
        rcnt := 0, reports := 0, conseq := 0, recoveries := 0, escalations := 0, refusals := 0 })).reply Status.ok 0
      [word c.reports, word c.conseq, word c.recoveries, word c.escalations, word c.refusals, lo32 c.lastTime, hi32 c.lastTime]))

/-- FLT_CTL.FFCLR written 1 (R386): the first-fault register cleared. -/
def State.clearFirst (s : State) : State := s.onFlt (fun f => { f with first := none })

/-- FLT_CTL.FFCLR written 1 (R386). -/
def execFltFfclr (s : State) : Out := done (if s.served then s.clearFirst else s)

/-- FLT_HOLD written (R380): not taken in SEED and while SAVED. -/
def State.writeHold (s : State) (v : Word) : State := if s.saved then s else s.reacting (fun s => s.writeReg Reg.fltHold v)

/-- FLT_HOLD written (R380, R392). -/
def execFltHoldWrite (v : Word) (s : State) : Out := done (if s.served then s.writeHold v else s)

end Sys2Proof.Machine
end

