-- ==== Sys2Proof/Machine/Queues.lean ====
section
/-! DEFINITION. Command queues in operation (R290 to R296): fetches, completions, coalescing, disabling, and what a lost PCIe link
resets (R289). -/

namespace Sys2Proof.Machine

/-! Register fields. -/

/-- Whether the endpoint may be a bus master (R285, R289): Bus Master Enable, and not in D3hot. The link state as HOST_STAT shows it. -/
def State.busMaster (s : State) : Bool := s.bit Reg.hostStat 0 && !s.host.d3
def State.linkUp (s : State) : Bool := s.bit Reg.hostStat 6

/-- The base addresses of a queue pair (R290). -/
def State.sqBase (s : State) (q : Nat) : Nat := (s.reg (Reg.hostQsqbl q)).toNat + 2 ^ 32 * (s.reg (Reg.hostQsqbh q)).toNat
def State.cqBase (s : State) (q : Nat) : Nat := (s.reg (Reg.hostQcqbl q)).toNat + 2 ^ 32 * (s.reg (Reg.hostQcqbh q)).toNat

/-- HOST_SEL as sampled at reset release (R273, PWR_RESET). -/
def State.hostSel (s : State) : Bool := s.bit Reg.pwrReset 6

/-- Whether the PCIe endpoint is enabled (R273): by HOST_SEL, or for the Seed ROM. -/
def State.endpointOn (s : State) : Bool :=
  s.pwr.boot != .inReset && (!s.hostSel || (s.pwr.boot == .seed && s.fld Reg.pwrReset 4 2 == 3))

/-! Fetching (R291, R243, R423, R427, R459, R464). -/

/-- Whether command queues fetch: packets are executed, and the device is not between t0 and its entry to SAVED. -/
def State.fetching (s : State) : Bool := s.serving && s.pwr.phase != .save

/-- Whether a queue pair is served in the present state: in SEED and HALT only pair 0. -/
def State.pairServed (s : State) (q : Nat) : Bool := s.pwr.boot == .ready || q == 0

/-- Whether queue q has a packet to fetch. -/
def State.fetchable (s : State) (q : Nat) : Bool :=
  let x := s.queue q
  x.enabled && !x.err && s.pairServed q && x.sqHead != x.sqTail && decide ((s.notStarted q).length < 4)

/-- The queue that the round robin serves next. -/
def State.nextQueue (s : State) : Option Nat :=
  ((List.range 32).map (fun i => (s.host.rrNext + i) % 32)).find? s.fetchable

/-- A packet of 64 bytes from a source (R297). -/
def packetOf (src sqhead : Nat) (bs : List Byte) : Packet × Nat :=
  (⟨src, sqhead, bs.getD 2 0, bs.getD 3 0, BitVec.ofNat 16 (leNat ((bs.drop 4).take 2)), BitVec.ofNat 16 (leNat ((bs.drop 6).take 2)),
    BitVec.ofNat 64 (leNat ((bs.drop 8).take 8)), wordsOf 12 (bs.drop 16)⟩, leNat (bs.take 2))

/-- A fetched packet deposited as a CMD_EXEC task; refused, it completes with QUEUE_FULL (R247, R299). -/
def State.takePacket (s : State) (p : Packet) (opcode : Nat) : State :=
  let t := s.onQueue p.src (fun q => { q with fetched := satAdd 32 q.fetched 1 })
  match t.deposit .cmd 0x04 t.fab.order 0 0 (some (p, opcode)) with
  | some u => u
  | none =>
    ((t.refuseDeposit .cmd).onQueue p.src (fun q => { q with refusedDeposit := satAdd 32 q.refusedDeposit 1 })).complete
      ⟨p.src, p.tag, p.queue, Status.queueFull, 0, opcode, if p.uart then 0 else p.sqhead, [], 0, p.urgent, []⟩

/-- One fetch (R291): the packet at the SQ head of the next queue, the head advanced modulo SIZE. -/
def State.fetchOne (s : State) (q : Nat) : State :=
  let x := s.queue q
  let head := (x.sqHead + 1) % x.size
  let r := packetOf q head (s.dmaRead (s.sqBase q + 64 * x.sqHead) 64)
  ((s.onQueue q (fun x => { x with sqHead := head })).onHost (fun h => { h with rrNext := (q + 1) % 32 })).takePacket r.1 r.2

/-! Completions (R292, R295). -/

/-- Whether the CQ of a queue has no room: full one entry before its head. -/
def Queue.cqFull (x : Queue) : Bool := (x.cqTail + 1) % x.size == x.cqHead

/-- Heads and tails return to 0 once a disabled queue is idle (R293). -/
def State.settleQueue (s : State) (q : Nat) : State :=
  let x := s.queue q
  if !x.enabled && x.running.isNone && x.due.isEmpty && x.stopping then
    s.setQueue q { x with stopping := false, sqHead := 0, sqTail := 0, cqHead := 0, cqTail := 0, phase := true, holding := false }
  else s

/-- The completions written and not yet signalled raise the queue's source (R295). -/
def State.signal (s : State) (q : Nat) (urgent : Bool) : State :=
  let x := s.queue q
  if urgent || decide (x.unsignalled ≥ max (s.fld (Reg.hostQctl q) 16 8) 1) then
    (s.setQueue q { x with unsignalled := 0 }).irq q
  else s

/-- A completion written at the CQ tail with its PHASE bit (R292). -/
def State.writeCompletion (s : State) (q : Nat) (r : Reply) : State :=
  let x := s.queue q
  let t := s.dmaWrite (s.cqBase q + 32 * x.cqTail) (r.bytes x.phase)
  let u := t.setQueue q { x with
    due := x.due.tail, cqTail := (x.cqTail + 1) % x.size, phase := if x.cqTail + 1 = x.size then !x.phase else x.phase,
    unsignalled := x.unsignalled + 1, oldest := if x.unsignalled = 0 then s.mono else x.oldest, holding := false }
  u.signal q r.urgent

/-- A completion of a queue is off its hands: the queue's next packet may become READY (R243, R253, R292). -/
def State.completionDone (s : State) (q : Nat) : State := (s.settleQueue q).promote

/-- The oldest completion that is due (R289, R292, R293): written, held while the CQ is full, or discarded on a queue that is
disabled. -/
def State.nextCompletion (s : State) (q : Nat) : State :=
  let x := s.queue q
  match x.due with
  | [] => s.settleQueue q
  | r :: rs =>
    if !x.enabled && !x.stopping then (s.setQueue q { x with due := rs }).promote
    else if x.err || !s.busMaster then s
    else if x.size = 0 ∨ x.cqFull then
      if x.enabled then
        (if x.holding then s else s.setQueue q { x with holding := true, holds := satAdd 32 x.holds 1 })
      else (s.setQueue q { x with due := rs }).completionDone q
    else (s.writeCompletion q r).completionDone q

/-! Disabling and the lost link (R289, R293). -/

/-- The fetched packets of a queue that have not started cancelled, without a completion. -/
def State.cancelQueue (s : State) (q : Nat) : State := s.each (s.notStarted q) (fun s e => s.cancelTask e.1)

/-- HOST_QCTL.EN written 0 on an enabled queue (R293). -/
def State.disableQueue (s : State) (q : Nat) : State :=
  (((s.setBit (Reg.hostQctl q) 0 false).onQueue q (fun x => { x with enabled := false, err := false, stopping := true })).cancelQueue
    q).settleQueue q

/-- HOST_QCTL written (R290, R293): fields taken while EN = 0, EN = 1 while SIZE is valid; EN = 0 disables. -/
def State.writeQctl (s : State) (q : Nat) (v : Word) : State :=
  if (s.queue q).enabled then (if wbit v 0 then s else s.disableQueue q)
  else
    let size := field v 5 11
    let on := wbit v 0 && decide (2 ≤ size) && decide (size ≤ 1024)
    let t := (s.setReg (Reg.hostQctl q) (v &&& 0xFFFFFFE0)).setBit (Reg.hostQctl q) 0 on
    let x := t.queue q
    t.setQueue q (if on then { x with
        enabled := true, size := size, sqHead := 0, sqTail := 0, cqHead := 0, cqTail := 0, phase := true, err := false,
        stopping := false, due := [], unsignalled := 0, holding := false, doneTags := [] }
      else { x with size := size })

/-- A tail doorbell (R291). -/
def State.writeSqTail (s : State) (q : Nat) (v : Word) : State :=
  let x := s.queue q
  let n := field v 0 10
  if !x.enabled then s
  else if n ≥ x.size then (s.setQueue q { x with doorbellErrors := satAdd 32 x.doorbellErrors 1 }).setBit (Reg.hostQstat q) 2 true
  else s.setQueue q { x with sqTail := n }

/-- A head doorbell (R292). -/
def State.writeCqHead (s : State) (q : Nat) (v : Word) : State :=
  let x := s.queue q
  let n := field v 0 10
  if !x.enabled then s
  else if n ≥ x.size then (s.setQueue q { x with doorbellErrors := satAdd 32 x.doorbellErrors 1 }).setBit (Reg.hostQstat q) 2 true
  else s.setQueue q { x with cqHead := n }

/-- The running packets of a queue marked (R289): they finish, and their completions are discarded. -/
def State.orphanQueue (s : State) (q : Nat) : State :=
  s.each ((s.fab.store.filter (fun e => e.2.state == .running && (match e.2.packet with | some p => p.src == q | none => false))).map Prod.fst)
    (fun s i => s.onEntry i (fun e => { e with orphan := true }))

/-- A queue pair on a lost link (R289): disabled, its waiting packets cancelled, its completions discarded, those of its running packets
too. -/
def State.dropQueue (s : State) (q : Nat) : State :=
  let t := ((s.cancelQueue q).orphanQueue q).setBit (Reg.hostQctl q) 0 false
  t.onQueue q (fun x => { x with
    enabled := false, err := false, stopping := false, due := [], sqHead := 0, sqTail := 0, cqHead := 0, cqTail := 0, phase := true,
    unsignalled := 0, holding := false })

/-- A hot reset, or a link that goes down after having been up (R289): the endpoint and its queue state are reset, HOST_LINK is
reported, and the shadow of R390 opens. -/
def State.loseLink (s : State) : State :=
  if !s.linkUp then s
  else
    let t := (s.each (List.range 32) State.dropQueue).onHost (fun h => { h with
      msix := [], pba := [], funcMask := false, d3 := false, payload := 0 })
    (((t.setReg Reg.hostStat (t.reg Reg.hostStat &&& 0xFFFFFF80)).openShadow .pcie).reportNow Code.hostLink 0xFFFF)

/-! The UART queue (R311, R312). -/

/-- The bytes between two flags without their stuffing (R311). -/
def unstuff : List Byte → List Byte
  | [] => []
  | [b] => [b]
  | b :: c :: bs => if b = 0x7D then (c ^^^ 0x20) :: unstuff bs else b :: unstuff (c :: bs)

/-- The command packet that a frame carries: TYPE 0x01, 64 bytes and a right CRC (R311). -/
def framePacket (line : List Byte) : Option (Packet × Nat) :=
  let bs := unstuff line
  if bs.length = 67 && bs.getD 0 0 == 0x01 && crcBytes (crc16 (bs.take 65)) == bs.drop 65 then some (packetOf 255 0 ((bs.drop 1).take 64))
  else none

/-- A UART packet for which there is no place, answered with QUEUE_FULL (R312). -/
def State.refuseUart (s : State) (r : Packet × Nat) : State :=
  (s.onQueue 255 (fun q => { q with fetched := satAdd 32 q.fetched 1, refusedDeposit := satAdd 32 q.refusedDeposit 1 })).complete
    ⟨255, r.1.tag, r.1.queue, Status.queueFull, 0, r.2, 0, [], 0, false, []⟩

/-- A UART packet taken: a fifth that would wait is refused (R312). -/
def State.takeUart (s : State) (r : Packet × Nat) : State :=
  if (s.notStarted 255).length ≥ 4 then s.refuseUart r else s.takePacket r.1 r.2

end Sys2Proof.Machine
end

