-- ==== Sys2Proof/Machine/Gen.lean ====
section
/-! DEFINITION. The GEN family (R306, R466, R467). -/

namespace Sys2Proof.Machine

/-- GEN_NOP (R306): device time at execution. -/
def execGenNop (p : Packet) (s : State) : Out :=
  done (s.command Op.genNop p (fun s => s.reply Status.ok 0 [lo32 s.now, hi32 s.now]))

/-- The running image: of slot A or B, none for the Seed ROM. -/
def State.runImage (s : State) : Option Image :=
  match s.upd.run with
  | 0 => s.upd.devA.image
  | 1 => s.upd.devB.image
  | _ => none

/-- The firmware version: VERSION of the running image's manifest, or the Seed ROM's own (R306, R439). -/
def State.fwVersion (s : State) : Word :=
  match s.runImage with
  | some im => word (leNat ((im.manifest.drop 8).take 4))
  | none => Config.seedVersion s.otp.step

/-- GEN_ID as it reads: vendor and part, stepping and grade from OTP (R3). -/
def State.genId (s : State) : Word := pack [(0, 0x0512), (16, s.otp.grade), (20, s.otp.step), (24, 0x4D)]

/-- The code of the reported service state (R464). -/
def State.serviceCode (s : State) : Nat := match s.service with | some v => v.code | none => 0

/-- The reply data of GEN_IDENTIFY (R306). -/
def State.identifyData (s : State) : List Word :=
  [s.genId, s.fwVersion, pack [(0, s.upd.run), (4, s.lcs), (8, s.serviceCode), (12, s.chain.role.code), (16, s.chain.pos)],
    lo32 s.otp.serial, hi32 s.otp.serial]

/-- GEN_IDENTIFY (R306). -/
def execGenIdentify (p : Packet) (s : State) : Out :=
  done (s.command Op.genIdentify p (fun s => s.reply Status.ok 0 s.identifyData))

/-- What leaving MAINT does (R467). -/
def State.leaveMaint (s : State) : State :=
  let t := (s.setBit Reg.fioFltcfg 8 false).endInjection
  t.each (List.range 4) (fun t ad => t.onConv ad (fun c => { c with pendingZero := none }))

/-- GEN_SET_STATE (R466, R467). -/
def execGenSetState (p : Packet) (s : State) : Out :=
  done (s.command Op.genSetState p (fun s =>
    let target := field (p.word 0) 0 2
    if target ≥ 2 then s.reply Status.badParam 0 []
    else if target = 0 && s.pwr.base == .maint && s.otp.grade == 0 then s.reply Status.state 0 []
    else if target = 0 && s.pwr.base == .maint && s.scanHusk then s.reply Status.causeActive 0 []
    else
      let t := s.reacting (fun s =>
        if target = 0 then (if s.pwr.base == .maint then (s.onPwr (fun w => { w with base := .run })).leaveMaint else s)
        else s.onPwr (fun w => { w with base := .maint }))
      t.reply Status.ok 0 [word s.serviceCode, word t.serviceCode]))

/-- Whether a queue number names a queue pair or the UART. -/
def queueOk (q : Nat) : Bool := decide (q ≤ 31) || q == 255

/-- The reply data of GEN_QUEUE_STATS (R306). -/
def Queue.statWords (x : Queue) : List Word := [x.fetched, x.completed, x.refusedDeposit, x.refusedHeader, x.holds].map word

/-- GEN_QUEUE_STATS (R306). -/
def execGenQueueStats (p : Packet) (s : State) : Out :=
  done (s.command Op.genQueueStats p (fun s =>
    let q := field (p.word 0) 0 8
    let x := s.queue q
    if !queueOk q then s.reply Status.badParam 0 []
    else (s.when (wbit (p.word 0) 16) (fun s => s.setQueue q { x with
        fetched := 0, completed := 0, refusedDeposit := 0, refusedHeader := 0, holds := 0 })).reply Status.ok 0
      x.statWords))

/-- Whether an entry is the task of a packet of a queue with a TAG. -/
def Entry.carries (e : Entry) (q : Nat) (tag : Byte) : Bool :=
  match e.packet with
  | some x => x.src == q && x.tag == tag
  | none => false

/-- GEN_ABORT (R306, R248): the oldest fetched packet of the TAG that has not started is cancelled. -/
def execGenAbort (p : Packet) (s : State) : Out :=
  done (s.command Op.genAbort p (fun s =>
    let q := field (p.word 0) 0 8
    let tag := BitVec.ofNat 8 (field (p.word 0) 8 8)
    if !queueOk q then s.reply Status.badParam 0 []
    else match (s.notStarted q).find? (fun e => e.2.carries q tag) with
      | some e => (s.cancelTask e.1).reply Status.ok 0 [0]
      | none =>
        match s.fab.store.find? (fun e => e.2.state == .running && e.2.carries q tag && e.2.packet != some p) with
        | some e => (s.cancelTask e.1).reply Status.ok 0 [1]
        | none => s.reply Status.ok 0 [if (s.queue q).doneTags.contains tag then 1 else 2]))

/-- GEN_VECTOR_TEST (R306). -/
def execGenVectorTest (p : Packet) (s : State) : Out :=
  done (s.command Op.genVectorTest p (fun s =>
    if s.hostSel || !s.msixEnabled then s.reply Status.state 0 []
    else (s.triggerVector (field (p.word 0) 0 6)).reply Status.ok 0 []))

end Sys2Proof.Machine
end

