-- ==== Sys2Proof/Machine/Msr.lean ====
section
/-! DEFINITION. The meanings of the measurement rows (chapter 10), and the consumers of a house round: temperatures (R79, R80,
R435) and the conditions of Riffle verdicts (R400). -/

namespace Sys2Proof.Machine

/-! Commits and register writes (R345, R347, R352, R354). -/

/-- MSR_COMMIT (R347, R363): all-or-nothing over the named converters. -/
def execMsrCommit (p : Packet) (s : State) : Out :=
  done (s.command Op.msrCommit p (fun s =>
    let mask := field (p.word 0) 0 4
    let ads := (List.range 4).filter (fun ad => mask.testBit ad)
    if mask = 0 then s.reply Status.badParam 0 []
    else
      let data := (List.range 4).map (fun ad =>
        if mask.testBit ad then
          let j := s.judgeSequence ad
          pack [(0, j.1), (8, j.2.1), (16, j.2.2)]
        else 0)
      let t := s.each ads State.recordSequence
      match ads.find? (fun ad => (s.judgeSequence ad).1 != Status.ok) with
      | some ad => t.reply (s.judgeSequence ad).1 (s.judgeSequence ad).2.1 data
      | none => (t.each ads State.takeSequence).reply Status.ok 0 data))

/-- MSR_CVCTL written with COMMIT (R347). -/
def execMsrCvctlCommit (ad : Fin 4) (v : Word) (s : State) : Out := done (s.writeCvctl ad v)

/-- MSR_CVCTL written with START (R345). -/
def execMsrCvctlStart (ad : Fin 4) (v : Word) (s : State) : Out := done (s.writeCvctl ad v)

/-- MSR_CVCTL written with RUN (R345). -/
def execMsrCvctlRun (ad : Fin 4) (v : Word) (s : State) : Out := done (s.writeCvctl ad v)

/-- MSR_URGENT (R352, R353): the reply says how many requests are ahead. -/
def execMsrUrgent (p : Packet) (s : State) : Out :=
  done (s.command Op.msrUrgent p (fun s =>
    let ad := field (p.word 0) 0 2
    let x := specOf (p.word 1) (p.word 2)
    let j := s.judgeUrgent ad x
    if j.1 = Status.ok then
      (s.queueUrgent ad ⟨x, .host (wbit (p.word 1) 18)⟩).reply Status.ok 0 [word (s.conv ad).urgent.length]
    else (s.refuseUrgent ad).reply j.1 j.2 []))

/-- MSR_URGA written with GO (R352, R353): a refused request sets MSR_CVRUN.URGREF. -/
def State.writeUrga (s : State) (ad : Nat) (v : Word) : State :=
  if !s.served then s
    else
      let t := s.writeReg (Reg.msrUrga ad) v
      let x := specOf v (t.reg (Reg.msrUrgb ad))
      if (t.judgeUrgent ad x).1 = Status.ok then t.queueUrgent ad ⟨x, .host (wbit v 18)⟩
      else (t.refuseUrgent ad).setBit (Reg.msrCvrun ad) 11 true

/-- MSR_URGA written with GO (R352). -/
def execMsrUrgaGo (ad : Fin 4) (v : Word) (s : State) : Out := done (s.writeUrga ad v)

/-- MSR_ACLR written (R354): one set, or all 128 of a converter. -/
def State.writeAclr (s : State) (v : Word) : State :=
  if !s.served then s
    else s.each (if wbit v 31 then List.range 128 else [field v 0 7]) (fun s k =>
      s.onAcc (128 * field v 7 2 + k) AccSet.clear)

/-- MSR_ACLR written (R354). -/
def execMsrAclrWrite (v : Word) (s : State) : Out := done (s.writeAclr v)

/-! Calibration (R357, R358). -/

/-- The pair a calibration command names: converter, gain, channel. -/
def calPair (p : Packet) : Nat × Nat × Nat := (field (p.word 0) 0 2, field (p.word 0) 16 2, field (p.word 1) 0 10)

/-- Check 2 of R358: the detail of its failure. -/
def calChannel (ad gain chan : Nat) : Option Nat :=
  if (chanFs ad chan).isNone || chanTemp chan then some 0x62 else if !gainOk chan gain then some 0x63 else none

/-- The run of a calibration command (R357): 512 conversions at ACQ = 16 and RATIO = 1. -/
def calSpec (gain chan : Nat) : RunSpec := ⟨chan, gain, 0, 1, 1, 512, 16⟩

/-- MSR_CAL_ZERO (R357, R358). -/
def execMsrCalZero (p : Packet) (s : State) : Out :=
  done (s.command Op.msrCalZero p (fun s =>
    let (ad, gain, chan) := calPair p
    match calChannel ad gain chan with
    | some d => s.reply Status.badParam d []
    | none =>
      if (s.conv ad).urgent.length ≥ 8 then s.reply Status.busy 0 []
      else (s.queueUrgent ad ⟨calSpec gain chan, .zero p⟩).later))

/-- MSR_CAL_SPAN (R357, R358). -/
def execMsrCalSpan (p : Packet) (s : State) : Out :=
  done (s.command Op.msrCalSpan p (fun s =>
    let (ad, gain, chan) := calPair p
    match calChannel ad gain chan with
    | some d => s.reply Status.badParam d []
    | none =>
      match (s.conv ad).pendingZero with
      | some (c, g, off) =>
        if c ≠ chan || g ≠ gain then s.reply Status.state 0x61 []
        else if (s.conv ad).urgent.length ≥ 8 then s.reply Status.busy 0 []
        else (s.queueUrgent ad ⟨calSpec gain chan, .span p (signed 32 (p.word 2).toNat) off⟩).later
      | none => s.reply Status.state 0x61 []))

/-- MSR_CAL_CLEAR (R358, R363). -/
def execMsrCalClear (p : Packet) (s : State) : Out :=
  done (s.command Op.msrCalClear p (fun s =>
    let (ad, gain, chan) := calPair p
    if wbit (p.word 0) 31 then
      (s.onMsr (fun m => { m with cals := [] })).reply Status.ok 0 [word s.msr.cals.length]
    else match calChannel ad gain chan with
      | some d => s.reply Status.badParam d []
      | none =>
        (s.onMsr (fun m => { m with cals := m.cals.filter (fun c => c.1 != (ad, chan, gain)) })).reply Status.ok 0
          [word (s.msr.cals.filter (fun c => c.1 == (ad, chan, gain))).length]))

/-- MSR_STATS (R363). -/
def execMsrStats (p : Packet) (s : State) : Out :=
  done (s.command Op.msrStats p (fun s =>
    let ad := field (p.word 0) 0 2
    let c := s.conv ad
    (if wbit (p.word 0) 16 then s.setConv ad { c with
        conversions := 0, invalid := 0, clipped := 0, aborted := 0, houseRounds := 0, vfMisses := 0, urgRefused := 0 }
     else s).reply Status.ok 0
      ([c.conversions, c.invalid, c.clipped, c.aborted, c.houseRounds, c.vfMisses, c.urgRefused].map word)))

/-! Conversions (R343 to R346, R350). -/

/-- CONVERSION_DONE: the conversion in progress of a converter completes with the code `u` computed with the factory values (R355);
`clipped` at either end of the converter's range (R343). -/
def execConversionDone (ad : Fin 4) (u : BitVec 16) (clipped : Bool) (s : State) : Out :=
  done (if s.convsRun then s.convert ad u.toInt clipped else s)

/-- VF_CAPTURE_TIMEOUT (R344, R350): no capture within VFTO µs of the wait's start; the missing sample is offered as invalid and the
run ends at once. -/
def execVfCaptureTimeout (ad : Fin 4) (s : State) : Out :=
  done (match (s.conv ad).run with
    | some r =>
      match r.wait with
      | some t =>
        if s.convsRun && s.past t (usTicks s.vfto) then
          let u := (s.onConv ad (fun c => { c with vfMisses := satAdd 32 c.vfMisses 1 })).countInvalid ad r
          (if (s.conv ad).calRun then u
           else u.offer ad r.spec.set false 0 0 r.spec.chan r.spec.gain).endRun ad r false
        else s
      | none => s
    | none => s)

/-! House rounds (R349, R362). -/

/-- HOUSE_ROUND_DUE (R349): 250 µs after the previous round's start. -/
def execHouseRoundDue (die : Fin 2) (s : State) : Out :=
  let ad := houseAd die
  done (if s.convsRun && !(s.conv ad).houseDue && s.past (s.conv ad).houseAt (usTicks 250) then
    s.onConv ad (fun c => { c with houseDue := true })
  else s)

/-- HOUSE_ROUND_START (R349): at an entry boundary or the end of an urgent request; MSR_HOUSE_LATE ends. -/
def execHouseRoundStart (die : Fin 2) (s : State) : Out :=
  let ad := houseAd die
  let c := s.conv ad
  done (if s.convsRun && c.houseDue && c.run.isNone && !c.house then
    (s.setConv ad { c with house := true, houseDue := false, houseAt := s.mono }).endCause Code.msrHouseLate ad
  else s)

/-- T_MAX of the grade in °C (R1, R435). -/
def State.tMax (s : State) : Int := if s.otp.grade = 2 then 125 else 115

/-- A die temperature in 1/16 °C judged (R435): DIE_OT_WARN and DIE_OT start and end after two consecutive rounds. -/
def State.judgeHeat (s : State) (die : Nat) (t : Int) : State :=
  let h := Tab.get (fun _ => DieHeat.reset) s.pwr.heat die
  let run := fun (c : Bool) (n : Nat) => if c then n + 1 else 0
  let h' : DieHeat := ⟨run (decide (t ≥ 16 * (s.tMax - 10))) h.warm, run (decide (t ≤ 16 * (s.tMax - 15))) h.cool,
    run (decide (t > 16 * s.tMax)) h.hot, run (decide (t ≤ 16 * (s.tMax - 5))) h.calm⟩
  let t1 := s.onPwr (fun p => { p with
    temps := Tab.put (fun _ => none) p.temps die (some t), heat := Tab.put (fun _ => DieHeat.reset) p.heat die h' })
  let edge := fun (s : State) (code up down : Nat) =>
    if up ≥ 2 && !(s.flt.causes.contains (code, die)) then s.reportNow code die
    else if down ≥ 2 && s.flt.causes.contains (code, die) then s.endCause code die
    else s
  edge (edge t1 Code.dieOtWarn h'.warm h'.cool) Code.dieOt h'.hot h'.calm

/-- Whether a die temperature lies in the Tj range of the grade (R1, R400). -/
def State.tjOk (s : State) (t : Int) : Bool := decide (-640 ≤ t) && decide (t ≤ 16 * s.tMax)

/-- Whether a VCORE code lies within 0.776 to 0.824 V (R400). -/
def vcoreOk (r : Int) : Bool := decide (15520 ≤ r) && decide (r ≤ 16480)

/-- A condition of R400 seen: the slice in its judging span, and every slice whose verdict is due, is VOID, and a repeat waits for a whole
house round that is clear (R401). -/
def State.voidSlices (s : State) : State :=
  s.onBist (fun b => { b with
    slice := b.slice.map (fun x => { x with isVoid := true }), judging := b.judging.map (fun x => { x with isVoid := true }),
    dirty1 := true, dirty3 := true, dirtyAt := s.mono })

/-- What Riffle takes from a house round (R400, R401): the conditions, and its completion for the slices whose verdict is due. -/
def State.riffleRound (s : State) (die : Nat) (dirty : Bool) : State :=
  let t := if dirty then s.voidSlices else s
  let clear := !dirty && decide (s.bist.dirtyAt ≤ (s.conv (houseAd die)).houseAt)
  t.onBist (fun b => { b with
    dirty1 := b.dirty1 && !(clear && die == 0), dirty3 := b.dirty3 && !(clear && die != 0),
    judging := b.judging.map (fun x => if die = 0 then { x with round1 := true } else { x with round3 := true }) })

/-- One reading of a house round delivered to its consumer: the NTC of a group (R80), with the first of its readings out of range (R63),
or a die temperature (R435). -/
def State.deliver (s : State) (chan : Nat) (r : Int) : State :=
  if chanNtc chan then
    let beta := s.fld Reg.lmpNtccfg 0 13
    let t := ntcOf r beta
    s.onGroup (chan - 0x088) (fun g => { g with
      ntc := some (t.getD (Config.ntcBeyond r beta)),
      ntcOut := if ntcInRange t then none else some (g.ntcOut.getD s.mono) })
  else if chanTemp chan then s.judgeHeat (chan - 0x095) r
  else s

/-- HOUSE_ROUND_DONE (R349): the codes of the round's channels in order, corrected as every conversion (R355), delivered to the
derating, the over-temperature detectors and Riffle; never to an accumulator set. Each code comes with whether it is clipped (R343).
The round lasts 26 HCLK a conversion. -/
def execHouseRoundDone (die : Fin 2) (codes : List (BitVec 16 × Bool)) (s : State) : Out :=
  let ad := houseAd die
  let xs := ((houseChans die).zip codes).map (fun x => (x.1, s.correct ad x.1 0 x.2.1.toInt))
  done (if (s.conv ad).house && codes.length == (houseChans die).length && s.past (s.conv ad).houseAt (16 * 26 * codes.length) then
    let t := s.onConv ad (fun c => { c with
      house := false, clipped := satAdd 32 c.clipped (codes.filter (·.2)).length, houseRounds := satAdd 32 c.houseRounds 1,
      conversions := satAdd 32 c.conversions xs.length,
      prev := some (0x093, 0) })
    let dirty := xs.any (fun x => (x.1 == 0x093 && !vcoreOk x.2) || (chanTemp x.1 && !s.tjOk x.2))
    ((t.each xs (fun s x => s.deliver x.1 x.2)).riffleRound die dirty).nextRun ad
  else s)

/-- MSR_HOUSE_LATE (R362, R400): no house round started on AD1 or AD3 for 2 ms. -/
def execMsrHouseLate (die : Fin 2) (s : State) : Out :=
  let ad := houseAd die
  done (if s.convsRun && s.past (s.conv ad).houseAt (msTicks 2) && !(s.flt.causes.contains (Code.msrHouseLate, ad)) then
    (s.reportNow Code.msrHouseLate ad).voidSlices
  else s)

/-- MSR_SUM (R356): a summary that is late keeps the nominal instants of its period (R247). One record for each set with SUMREC and a
count above 0, in ascending converter and set order; CLRSUM clears the set with it. -/
def execMsrSum (s : State) : Out :=
  let per := s.fld Reg.msrCtl 24 8
  done (if per ≠ 0 && s.past s.msr.summaryAt (msTicks per) && s.served then
    (s.each (List.range 512) (fun s i =>
      let w := s.reg (Reg.msrAcfg i)
      let a := s.acc i
      let t := if wbit w 0 && a.count != 0 then
          s.record 6 (fun f => (field f 0 4).testBit (i / 128)) ⟨s.now, 0x88, 0, a.summary (i / 128) (i % 128)⟩
        else s
      if wbit w 1 then t.onAcc i AccSet.clear else t)).onMsr (fun m => { m with summaryAt := s.mono - (s.mono - m.summaryAt) % msTicks per })
  else s)

end Sys2Proof.Machine
end

