-- ==== Sys2Proof/Machine/Prv.lean ====
section
/-! DEFINITION. The meanings of the lamp proving rows (chapter 04). -/

namespace Sys2Proof.Machine

/-! Re-admission (R158). -/

/-- PRV_READMIT (R158): accepted, the group's target counts the lamp again, and the command completes when the rail is there. -/
def execPrvReadmit (p : Packet) (s : State) : Out :=
  done (s.command Op.prvReadmit p (fun s =>
    let l := field (p.word 0) 0 9
    let x := s.prv l
    if x.retired.isNone then s.reply Status.badParam 0 []
    else if s.weir.smt.any (fun e => e.2.valid && e.2.avail && e.2.pin == 0 && (e.2.lamp == l || (e.2.spv && e.2.spare == l))) then
      s.reply Status.state 0 []
    else if (s.str (strOf l)).state != .steady || x.readmit.isSome then s.reply Status.state 0 []
    else if x.lastTrk != some .pass then s.reply Status.causeActive 0 []
    else ((s.setPrv l { x with readmit := some (s.mono, some p) }).retarget [groupOf (strOf l)]).later))

/-- The role of a re-admitted lamp taken back in one CCLK (R158): an active spare returns to standby. -/
def State.takeBack (s : State) (l : Nat) : State :=
  let sp := match s.smOfLamp l with
    | some sm => if (s.smt sm).spv && (s.prv (s.smt sm).spare).active then some (s.smt sm).spare else none
    | none => none
  let lit := confMode s.conf l == 1 && (s.stream l).level
  let edge := fun (x : Prove) => if lit then s.mono + lampDelay else x.ownEdge
  let t := s.onPrv l (fun p => { p with
    cover := s.mono, retired := none, readmit := none, active := false, shuntHeld := false, epoch := wrap 16 (p.epoch + 1), vfHigh := false,
    shortCount := 0, echoRun := 0, ownEdge := edge p })
  let u := match sp with
    | some q => (if lit && !s.sinkHeld (strOf q) then t.recEdge q s.lampTime false false else t).onPrv q (fun p => { p with
        active := false, ownEdge := edge p })
    | none => t
  let w := if lit && !s.sinkHeld (strOf l) then u.recEdge l s.lampTime (s.conducts (strOf l)) false else u
  ((w.retarget (groupOf (strOf l) :: (match sp with | some q => [groupOf (strOf q)] | none => []))).review).irq 33

/-- READMIT_COMPLETE (R158, R162). -/
def execReadmitComplete (l : Fin 512) (s : State) : Out :=
  done (match (s.prv l).readmit with
    | some (_, p) =>
      if s.served && s.railReady (groupOf (strOf l)) then
        let t := s.takeBack l
        match p with
        | some q => t.answer Op.prvReadmit q Status.ok 0 [word (t.prv l).epoch]
        | none => t
      else s
    | none => s)

/-- READMIT_TIMEOUT (R158): after 10 ms the lamp stays retired and the target leaves it out again. -/
def execReadmitTimeout (l : Fin 512) (s : State) : Out :=
  done (match (s.prv l).readmit with
    | some (t0, p) =>
      if s.served && s.past t0 (msTicks 10) then
        let t := (s.onPrv l (fun p => { p with readmit := none })).retarget [groupOf (strOf l)]
        match p with
        | some q => t.answer Op.prvReadmit q Status.state 0 []
        | none => t
      else s
    | none => s)

/-- PRV_LAMP_STATS (R164). -/
def execPrvLampStats (p : Packet) (s : State) : Out :=
  done (s.command Op.prvLampStats p (fun s =>
    let l := field (p.word 0) 0 9
    (s.when (wbit (p.word 0) 16) (fun t => t.onPrv l (fun x => { x with counters := .reset }))).reply Status.ok 0
      ((s.prv l).counters.words.map word)))

/-- PRV_TRICKLE_NOW (R163). -/
def execPrvTrickleNow (p : Packet) (s : State) : Out :=
  done (s.command Op.prvTrickleNow p (fun s =>
    let l := field (p.word 0) 0 9
    if (s.prv l).hostReq.isSome then s.reply Status.busy 0 []
    else if (s.str (strOf l)).state != .steady then s.reply Status.state 0 []
    else if confMode s.conf l = 0 then s.reply Status.badParam 0 []
    else (s.onPrv l (fun x => { x with hostReq := some (s.mono, p) })).later))

/-- TRICKLE_NOW_TIMEOUT (R163): no opportunity within one trickle interval. -/
def execTrickleNowTimeout (l : Fin 512) (s : State) : Out :=
  done (match (s.prv l).hostReq with
    | some (t0, p) =>
      if s.served && s.past t0 (confTrk s.conf) then
        (s.onPrv l (fun x => { x with hostReq := none })).answer Op.prvTrickleNow p Status.unprovable 0 []
      else s
    | none => s)

/-- PRV_RETIRE (R159, R160): with cause HOST, its effects those of R154; a retirement whose report is still on the status buses stands,
and the command is OK. -/
def execPrvRetire (p : Packet) (s : State) : Out :=
  done (s.command Op.prvRetire p (fun s =>
    let l := field (p.word 0) 0 9
    if confMode s.conf l = 0 then s.reply Status.badParam 0 []
    else if (s.prv l).retired.isSome then
      (if s.lamps.notes.any (fun n => n.lamp == l) then s.reply Status.ok 0 [word (s.prv l).epoch] else s.reply Status.badParam 0 [])
    else
      let t := ((s.retire l .host 0).onLamps (fun x => { x with notes := s.lamps.notes })).applyRetirement ⟨l, .host, 0, s.now⟩
      t.reply Status.ok 0 [word (t.prv l).epoch]))

/-! Proving on the lamp dies. -/

/-- The lit interval of a lamp whose sample was taken or missed, and when its next sample falls. -/
def State.sampled (s : State) (l e : Nat) (next deferred : Option Nat) : State :=
  s.onPrv l (fun p => { p with sampleFrom := e, sampleAt := next, deferred := deferred })

/-- LIT_SAMPLE (R128 to R131, R136, R156): a sample that falls due now on a lit lamp is judged, or deferred once past a sibling's edge; an
interval that ended before its sample is UNPROVEN, counted in aspect mode only. Its tag is the epoch in force when the sample's interval
began: a result of an older epoch is discarded and counted as fenced. A sample of a proving flash is recorded as one. -/
def execLitSample (l : Fin 512) (o : LitSample) (s : State) : Out :=
  let k := s.streamOf l
  let flash := confFramed s.conf k && (s.stream k).now.any (fun f => f.kind == .flash && decide (f.start ≤ s.now) && decide (s.now ≤ f.stop))
  let e := s.shuntEdge l s.mono
  done (if !s.served || confMode s.conf l == 0 then s
    else if o.tag.toNat ≠ (s.prv l).epoch then
      s.onPrv l (fun p => { p with counters := { p.counters with fenced := satAdd 32 p.counters.fenced 1 } })
    else if !s.proven l then s
    else match o.obs with
      | .tooShort => match s.missedSample l with
        | some e => let t := s.sampled l e none none
                    if confFramed s.conf k then t else t.giveLit l 0 .unproven 0
        | none => s
      | .volts mv => match s.sampleKind l with
        | .none => s
        | .defer till => s.sampled l e (some till) (some till)
        | .judge =>
          (s.sampled l e (some (s.mono + 1024)) (if (s.prv l).sampleFrom = e then (s.prv l).deferred else none)).giveLit l mv
            (if s.disturbedNow (strOf l) then .disturbed else litVerdict s.conf l mv) (if flash then 5 else 0))

/-- Whether a string was cut by a stuck-lit detection in this CCLK (R160). -/
def State.cutHere (s : State) (n : Nat) : Bool := (s.str n).state == .cut && (s.str n).cutAt / 2 == s.cclk

/-- COMPLIANCE_LOSS (R51, R132 to R134): a disturbance of the string starts; every position whose shunt is open and whose voltage
exceeds its MAX is retired; where none is, COMPLIANCE is reported. A stuck-lit cut of the same CCLK does not hide it (R160). -/
def execComplianceLoss (n : Fin 128) (v0 v1 v2 v3 : Nat) (s : State) : Out :=
  let found := ([(4 * n.val, v0), (4 * n.val + 1, v1), (4 * n.val + 2, v2), (4 * n.val + 3, v3)] : List (Nat × Nat)).filter
    (fun x => confMode s.conf x.1 != 0 && s.shuntOpen x.1 s.mono && decide (x.2 > confVf s.conf x.1))
  done (if !s.served || !((s.str n).state == .steady || s.cutHere n) || s.sinkHeld n then s
    else
      let t := s.onStr n (fun x => { x with
        disturbed := some (x.disturbed.getD s.now), disturbOpen := x.disturbOpen || !found.isEmpty })
      let u := t.each (lampsOf n) (fun t l => t.onPrv l (fun p => { p with
        trickle := p.trickle.map (fun y => { y with disturbed := true }) }))
      if found.isEmpty then u.report ⟨Code.compliance, n, none, none, word n, 0, s.now, false, false⟩
      else u.each found (fun u x => (u.recProve x.1 2 1 x.2 (u.prv x.1).epoch true).retire x.1 .openLit x.2))

/-- SIBLING_DISTURBANCE_END (R112, R134): recorded, and framed streams it touched get a repeat. -/
def execSiblingDisturbanceEnd (n : Fin 128) (s : State) : Out :=
  done (match (s.str n).disturbed with
    | none => s
    | some t0 =>
      let t := (s.recDisturb n t0 (s.now - t0) (s.str n).disturbOpen).onStr n (fun x => { x with
        disturbed := none, disturbOpen := false, disturbEnd := s.mono })
      t.each ((lampsOf n).filter (fun l => (t.prv l).retired.isNone && (confMode t.conf l == 1 || (t.prv l).active)))
        (fun t l => t.queueRepeat (t.streamOf l) t0 s.now))

/-- Whether the disturbance of a string, if any, began in this CCLK (R160). -/
def State.lossHere (s : State) (n : Nat) : Bool := (s.str n).disturbed.all (fun t => t / 2 == s.now / 2)

/-- Whether a position's shunt has been commanded closed, and its stuck-lit test has run, for long enough (R137): 16 TCLK of the test,
which starts 8 TCLK after the dark edge, with its string STEADY, and after a trickle test or a disturbance that suspended it. -/
def State.stuckRun (s : State) (l : Nat) : Bool :=
  !s.shuntOpen l s.mono && decide (s.shuntEdge l s.mono + 24 ≤ s.mono) && s.past (s.str (strOf l)).steadySince 16 &&
  ((s.prv l).trkEnd == 0 || s.past (s.prv l).trkEnd 16) && ((s.str (strOf l)).disturbEnd == 0 || s.past (s.str (strOf l)).disturbEnd 16)

/-- STUCK_LIT_DETECT (R137, R138): above 0.45 V for 16 TCLK while its shunt is commanded closed; not judged during the position's trickle
tests or a disturbance of its string, unless the disturbance begins in the CCLK of the detection (R160). -/
def execStuckLitDetect (l : Fin 512) (mv : Nat) (s : State) : Out :=
  done (if s.served && s.proven l && s.stuckRun l && (s.prv l).trickle.isNone && s.lossHere (strOf l) && decide (mv > 450) then
    (s.recProve l 3 1 mv (s.prv l).epoch false).cutString l
  else s)

/-- TRICKLE_START (R142, R144, R500): one position of a string at a time, dark long enough and not stuck. -/
def execTrickleStart (l : Fin 512) (s : State) : Out :=
  let p := s.prv l
  done (if s.served && s.proven l && !p.stuck && (lampsOf (strOf l)).all (fun k => (s.prv k).trickle.isNone) && s.darkEnough l then
    s.setPrv l { p with
      trickle := some ⟨s.mono, p.epoch, false, (s.str (strOf l)).disturbed.isSome, p.hostReq.map Prod.snd⟩, trkLast := s.mono }
  else s)

/-- TRICKLE_JUDGE (R141, R143, R146, R156): a test in which a lit edge fell due is ABORTED (R160); one that a disturbance touched is
DISTURBED whether or not the guard acted too (DESIGN CHOICE: log entry 95). -/
def execTrickleJudge (l : Fin 512) (mv : Nat) (guard : Bool) (s : State) : Out :=
  let p := s.prv l
  done (match p.trickle with
    | none => s
    | some t =>
      if !s.served || !s.past t.start 1200 || !s.proven l then s
      else if t.epoch ≠ p.epoch then
        s.setPrv l { p with trickle := none, trkEnd := s.mono, counters := { p.counters with fenced := satAdd 32 p.counters.fenced 1 } }
      else if s.litDuring l t.start s.mono then s.abortTrickle l
      else if t.disturbed then s.unjudged l 5 (fun c => { c with trkDisturbed := satAdd 32 c.trkDisturbed 1 })
      else if guard then s.unjudged l 6 (fun c => { c with trkGuarded := satAdd 32 c.trkGuarded 1 })
      else s.giveTrickle l mv (trickleVerdict s.conf l mv))

/-- TRICKLE_ABORT (R143, R160, R500). -/
def execTrickleAbort (l : Fin 512) (s : State) : Out :=
  done (if s.served then s.abortTrickle l else s)

/-- PROVE_STARVED (R152, R162): a whole trickle interval without cover. -/
def execProveStarved (l : Fin 512) (s : State) : Out :=
  let p := s.prv l
  done (if s.served && s.proven l && p.retired.isNone && s.past (max p.cover (s.str (strOf l)).steadySince) (confTrk s.conf) then
    (((s.setPrv l { p with
      cover := s.mono, starvedLast := true, counters := { p.counters with starved := satAdd 32 p.counters.starved 1 } }).setBit
      (Reg.prvLstat l) 11 true).lampReport Code.proveStarved l 0 s.now).irq 33
  else s)

/-- RETIREMENT_REPORT (R154): the oldest retirement on the status buses takes its effects. -/
def execRetirementReport (s : State) : Out :=
  done (match s.lamps.notes with
    | n :: ns => if s.served then (s.onLamps (fun x => { x with notes := ns })).applyRetirement n else s
    | [] => s)

end Sys2Proof.Machine
end

