-- ==== Sys2Proof/Machine/Rec.lean ====
section
/-! DEFINITION. The meanings of the recorder rows (R261 to R272). -/

namespace Sys2Proof.Machine

/-- The capture being taken ends (R265): its pages are held, and the last carries the end flag. -/
def Strm.endCapture (t : Strm) : Strm :=
  match t.curCap with
  | none => t
  | some c =>
    let ps := match c.pages.reverse with
      | p :: rest => ({ p with capEnd := true } :: rest).reverse
      | [] => []
    { t with curCap := none, caps := t.caps ++ [{ c with pages := ps }] }

/-- The ring of a stream released (R267): its closed pages and the open one. -/
def State.dropRing (s : State) (i : Nat) : State :=
  let t := s.strm i
  (s.setStrm i { t with ring := [], opened := none, queue := [] }).freePagesBack
    (t.ring.map Page.num ++ (match t.opened with | some p => [p.num] | none => []))

/-- Whether a TRIGGERED stream may run a new ring (R265): fewer than CAPMAX captures, and PRE + 1 more pages within its quota. -/
def Strm.mayRing (t : Strm) : Bool := decide (t.caps.length < t.capmax) && decide (t.pages + t.pre + 1 ≤ t.quota)

/-- A TRIGGERED stream back in ARMED with a new ring, or in HELD (R265, R271). -/
def State.rearm (s : State) (i : Nat) : State :=
  if (s.strm i).mayRing then (s.onStrm i (fun t => { t with state := .armed })).openNext i
  else (s.onStrm i (fun t => { t with state := .held })).irq 40

/-- A stream disarmed (R267): the open page closed, a capture in progress kept, the ring released. -/
def State.disarm (s : State) (i : Nat) : State :=
  if (s.strm i).state == .off then s
  else
    ((s.onStrm i (fun t => (if t.curCap.isSome then t.closePage.endCapture else t))).dropRing i).onStrm i
      (fun t => { t with state := .off, postLeft := 0, sinceDrop := 0, pageDrops := 0, gapDue := 0, fixed := 0 })

/-- The quotas of the armed streams but one (R267). -/
def State.otherQuotas (s : State) (i : Nat) : Nat :=
  ((List.range 16).map (fun j => if j ≠ i && (s.strm j).state != .off then (s.strm j).quota else 0)).sum

/-- Whether the configuration of a stream is refused at arming with BAD_PARAM (R267). -/
def State.armRefused (s : State) (i : Nat) : Bool :=
  let c := s.reg (Reg.recScfg i)
  let d := s.reg (Reg.recSdep i)
  let q := s.fld (Reg.recSquota i) 0 17
  let src := field c 8 4
  src == 0 || decide (src > 6) || decide (field c 0 2 > 1) || field c 28 4 == 0 ||
  (if field c 0 2 = 0 then decide (q < field c 28 4 * (field d 0 16 + 1 + field d 16 16)) else decide (q < 2)) ||
  decide (s.otherQuotas i + q > s.fld (Reg.fabAquota 0) 0 17)

/-- Whether arming and triggering are refused with STATE (R259, R267, R476). -/
def State.noRecorder (s : State) : Bool := !s.bit Reg.recCtl 0 || s.fab.dram.total == 0

/-- A stream armed from its registers (R261, R267): captures kept, the ring discarded, the first page opened. -/
def State.armStream (s : State) (i : Nat) : State :=
  let c := s.reg (Reg.recScfg i)
  let d := s.reg (Reg.recSdep i)
  let t := (s.disarm i).onStrm i (fun t => { t with
    source := field c 8 4, mode := field c 0 2, capmax := field c 28 4, filter := s.reg (Reg.recSflt i), pre := field d 0 16,
    post := field d 16 16, trg := s.reg (Reg.recStrg i), quota := s.fld (Reg.recSquota i) 0 17, drops := 0, sinceDrop := 0,
    missed := 0, missedAt := 0, curCap := none, pins := [] })
  if field c 0 2 = 1 then (t.onStrm i (fun t => { t with state := .run })).openNext i else t.rearm i

/-- REC_ARM (R267): what R267 refuses with STATE is looked at before what it refuses with BAD_PARAM (DESIGN CHOICE, log entry 97). -/
def execRecArm (p : Packet) (s : State) : Out :=
  done (s.command Op.recArm p (fun s =>
    let i := field (p.word 0) 0 4
    let act := field (p.word 0) 8 2
    let fin := fun (t : State) => t.reply Status.ok 0 [word (t.strm i).state.code]
    if act = 3 then s.reply Status.badParam 0 []
    else if act = 0 && s.noRecorder then s.reply Status.state 0 []
    else if act = 0 && s.armRefused i then s.reply Status.badParam 0 []
    else if act = 0 then fin (s.armStream i)
    else if act = 1 then fin (s.disarm i)
    else if (s.strm i).state == .run then
      fin (((s.onStrm i Strm.closePage).openNext i).onStrm i (fun t => t.place (markRec s.now 5 0 0 0)))
    else fin s))

/-- The capture ids that a host trigger has started, one byte for each stream, 0 for none (R272). -/
def startedIds (before after : State) : List Word :=
  (List.range 4).map (fun w => pack ((List.range 4).map (fun b =>
    let i := 4 * w + b
    (8 * b, if (before.strm i).state == .armed && (after.strm i).state == .post then
        ((after.strm i).curCap.map Capture.id).getD 0 else 0))))

/-- REC_TRIGGER (R266, R272): as a write of REC_TRIG. -/
def execRecTrigger (p : Packet) (s : State) : Out :=
  done (s.command Op.recTrigger p (fun s =>
    if s.noRecorder then s.reply Status.state 0 []
    else
      let t := s.triggerHost (field (p.word 0) 0 16)
      t.reply Status.ok 0 (startedIds s t)))

/-- REC_TRIG written (R266). -/
def State.writeTrig (s : State) (v : Word) : State :=
  if !s.served || s.saved then s else s.triggerHost (field v 0 16)

/-- REC_TRIG written (R266). -/
def execRecTrigWrite (v : Word) (s : State) : Out := done (s.writeTrig v)

/-- REC_CTL written (R267): EN = 0 disarms every stream, captures are kept. -/
def State.writeRecCtl (s : State) (v : Word) : State :=
  if !s.served then s
    else
      let t := s.writeReg Reg.recCtl v
      if t.bit Reg.recCtl 0 then t else t.each (List.range 16) State.disarm

/-- REC_CTL written (R267). -/
def execRecCtlWrite (v : Word) (s : State) : Out := done (s.writeRecCtl v)

/-- Pages with their next links as the chain has them (R264); `tail` is the page that follows the last. -/
def linkPages : List Page → Option Nat → List Page
  | [], _ => []
  | [p], tail => [{ p with next := tail }]
  | p :: q :: rest, tail => { p with next := some q.num } :: linkPages (q :: rest) tail

/-- Pages copied to host memory, 64 KB apart (R268). -/
def State.copyPages (s : State) (stream at_ : Nat) : List Page → State
  | [] => s
  | p :: ps => (s.dmaWrite at_ (p.image stream)).copyPages stream (at_ + 65536) ps

/-- Pages of a stream's ring that a REC_READ has copied (R265, R268): read, and pinned while its task runs. -/
def State.noteRead (s : State) (i : Nat) (p : Packet) (nums : List Nat) : State :=
  s.onStrm i (fun t => { t with
    ring := t.ring.map (fun g => if nums.contains g.num then { g with read := true } else g),
    pins := match s.runningEntry p with
      | some e => (e.2.order, nums) :: t.pins.filter (fun x => s.fab.store.any (fun y => y.2.state == .running && y.2.order == x.1))
      | none => t.pins })

/-- REC_READ (R268, R272): a capture, or the closed pages of a CONTINUOUS ring from a SEQ on, in chain order. -/
def execRecRead (p : Packet) (s : State) : Out :=
  done (s.command Op.recRead p (fun s =>
    let i := field (p.word 0) 0 4
    let id := field (p.word 0) 8 8
    let t := s.strm i
    let copy := fun (ps : List Page) (first : Nat) =>
      let xs := ps.take (p.word 2).toNat
      ((s.copyPages i p.ptr.toNat xs).noteRead i p (xs.map Page.num)).reply Status.ok 0
        [word xs.length, word (match xs.getLast? with | some l => wrap 32 (l.seq + 1) | none => first)]
    if id = 0 then
      if t.state != .run then s.reply Status.state 0 []
      else copy ((linkPages t.ring (t.opened.map Page.num)).filter (fun g => decide ((p.word 1).toNat ≤ g.seq))) (p.word 1).toNat
    else match t.caps.find? (fun c => c.id == id) with
      | some c => copy (linkPages c.pages none) ((c.pages.head?.map Page.seq).getD 0)
      | none => s.reply Status.badParam 0 []))

/-- REC_RELEASE (R268): refused with BUSY while a REC_READ of the capture runs; the capture's pages go to the free list; a stream in HELD
re-arms when R265 allows. -/
def execRecRelease (p : Packet) (s : State) : Out :=
  done (s.command Op.recRelease p (fun s =>
    let i := field (p.word 0) 0 4
    let id := field (p.word 0) 8 8
    match (s.strm i).caps.find? (fun c => c.id == id) with
    | none => s.reply Status.badParam 0 []
    | some c =>
      if s.opRuns Op.recRead (fun q => field (q.word 0) 0 4 == i && field (q.word 0) 8 8 == id) then s.reply Status.busy 0 []
      else
      let t := (s.onStrm i (fun t => { t with caps := t.caps.filter (fun d => d.id != id) })).freePagesBack (c.pages.map Page.num)
      (if (t.strm i).state == .held && (t.strm i).mayRing && !s.saved then t.rearm i else t).reply Status.ok 0
        [word c.pages.length]))

/-- The words of a capture in REC_LIST (R272). -/
def Capture.words (c : Capture) : List Word :=
  [word c.id, lo32 c.time, hi32 c.time, word c.cause, word ((c.pages.head?.map Page.num).getD 0), word c.pages.length,
   word (flag c.survived)]

/-- REC_LIST (R268, R272): the captures of a stream written to host memory. -/
def execRecList (p : Packet) (s : State) : Out :=
  done (s.command Op.recList p (fun s =>
    let ws := (s.strm (field (p.word 0) 0 4)).caps.flatMap Capture.words
    (s.dmaWrite p.ptr.toNat (bytesOf ws)).reply Status.ok 0 [word (4 * ws.length)]))

/-- Whether the open page of a stream takes no further record (R264). -/
def Strm.pageFull (t : Strm) : Bool :=
  match t.opened, t.queue with
  | some p, r :: _ => decide (p.units + r.units > t.room)
  | some p, [] => decide (p.units ≥ t.room)
  | none, _ => true

/-- REC_PAGE_FULL (R264, R265): the page is closed and the next opened; in POST the last page of the capture has none after it. A
stream that could get no page tries again. -/
def execRecPageFull (i : Fin 16) (s : State) : Out :=
  let t := s.strm i
  done (if t.writing && t.pageFull && s.pwr.phase != .saved then
    let u := s.setStrm i { t.closePage with postLeft := if t.state == .post && t.opened.isSome then t.postLeft - 1 else t.postLeft }
    if t.state == .post && (u.strm i).postLeft = 0 then u else u.openNext i
  else s)

/-- CAPTURE_END (R265, R271). -/
def execCaptureEnd (i : Fin 16) (s : State) : Out :=
  let t := s.strm i
  done (if t.state == .post && t.postLeft = 0 then
    ((s.setStrm i { t.closePage.endCapture with state := .off }).irq 40).rearm i
  else s)

/-- REC_DROP (R262, R270, R271): a GAP record has been written, before the first record after the gap; it is reported. -/
def execRecDrop (i : Fin 16) (s : State) : Out :=
  let t := s.strm i
  done (if t.gapDue > 0 && s.pwr.phase != .saved then
    ((s.setStrm i { t with gapDue := t.gapDue - 1 }).reportNow Code.recDrop i).irq 40
  else s)

/-- Entry to SAVED (R269): every open page closed. -/
def State.stopRecorder (s : State) : State := s.each (List.range 16) (fun s i => s.onStrm i Strm.closePage)

/-- A warm restart (R269, R271): captures whose pages all pass their CRC are kept as SURVIVED, the one that was being taken at SAVED among
them; every other capture and every ring is released. `lost` says which captures (stream, id) fail. -/
def State.restartRecorder (s : State) (lost : List (Nat × Nat)) : State :=
  (s.each (List.range 16) (fun s i =>
    let t := (s.strm i).endCapture
    let bad := t.caps.filter (fun c => lost.contains (i, c.id))
    ((s.setStrm i { t with
      caps := (t.caps.filter (fun c => !lost.contains (i, c.id))).map (fun c => { c with survived := true }),
      state := .off, postLeft := 0, sinceDrop := 0, pageDrops := 0, gapDue := 0, fixed := 0, pins := [] }).dropRing i).freePagesBack
        (bad.flatMap (fun c => c.pages.map Page.num)))).irq 40

end Sys2Proof.Machine
end

