-- ==== Sys2Proof/Machine/Chain.lean ====
section
/-! DEFINITION. Tributary frames and ports (R201 to R216), the chain epoch and topology (R228 to R232), contact and time
(R36, R37, R231), and rounds (R222 to R227). -/

namespace Sys2Proof.Machine

/-! Frames (R209, R211). -/

/-- Byte i of a frame header, D1 first. -/
def hdrByte (f : TribFrame) (i : Nat) : Nat := (f.hdr.getD i 0).toNat
def fType (f : TribFrame) : Nat := hdrByte f 0
def fSrc (f : TribFrame) : Nat := hdrByte f 1 % 8
def fKind (f : TribFrame) : Nat := hdrByte f 1 / 8 % 8
def fLeg (f : TribFrame) : Bool := (hdrByte f 1).testBit 6
def fBr (f : TribFrame) : Bool := (hdrByte f 1).testBit 7
def fEpoch (f : TribFrame) : Nat := hdrByte f 2 + 256 * hdrByte f 3
def fTopseq (f : TribFrame) : Nat := hdrByte f 4
def fLen (f : TribFrame) : Nat := hdrByte f 5

/-- Data block i of a frame, as a number. -/
def fBlock (f : TribFrame) (i : Nat) : Nat := (f.data.getD i 0).toNat

/-- The bytes the CRC-32 covers: D1 to D6 and every data byte (R209). -/
def crcBytesOf (f : TribFrame) : List Byte := f.hdr.take 6 ++ f.data.flatMap (fun b => leBytes 8 b.toNat)
/-- The CRC-32 of a frame's content. -/
def crcOf (f : TribFrame) : Word := word (crc32 (crcBytesOf f))
/-- Whether HCRC is right (R209). -/
def hcrcOk (f : TribFrame) : Bool := crc8 (f.hdr.take 6) == hdrByte f 6

/-- A frame sealed: HCRC and CRC-32 computed, the CRC inverted when stomped (R212). -/
def sealFrame (hdr : List Byte) (data : List (BitVec 64)) (stomped : Bool) : TribFrame :=
  let f : TribFrame := ⟨hdr ++ [BitVec.ofNat 8 (crc8 hdr)], data, 0, 0, 0⟩
  { f with crc := if stomped then ~~~(crcOf f) else crcOf f }

/-- Header bytes D1 to D6 (R209). -/
def hdrOf (type src kind : Nat) (leg br : Bool) (epoch topseq len : Nat) : List Byte :=
  [BitVec.ofNat 8 type, BitVec.ofNat 8 (src + 8 * kind + 64 * flag leg + 128 * flag br), BitVec.ofNat 8 epoch,
   BitVec.ofNat 8 (epoch / 256), BitVec.ofNat 8 topseq, BitVec.ofNat 8 len]

/-- A number cut into n blocks of 64 bits, lowest first. -/
def blocksOf : Nat → Nat → List (BitVec 64)
  | 0, _ => []
  | k + 1, n => BitVec.ofNat 64 n :: blocksOf k (n / 2 ^ 64)

/-- The number held by blocks i to i + n - 1 of a frame. -/
def joinBlocks (f : TribFrame) (i n : Nat) : Nat :=
  ((List.range n).map (fun k => fBlock f (i + k) * 2 ^ (64 * k))).sum

/-- One REF block (R211). -/
def refBlock (r : ArmRef) : BitVec 64 :=
  BitVec.ofNat 64 (r.nIns % 2048 + 2 ^ 11 * flag r.dir + 2 ^ 12 * r.arm + 2 ^ 16 * r.cycle + 2 ^ 24 * r.frac +
    2 ^ 40 * r.base + 2 ^ 56 * r.shift + 2 ^ 60 * r.pwmPos)

/-- A number's bits [lo + n - 1 : lo]. -/
def bitsAt (v lo n : Nat) : Nat := v / 2 ^ lo % 2 ^ n

/-- The reference in a REF block (R211). -/
def refOf (b : Nat) : ArmRef :=
  ⟨bitsAt b 12 3, bitsAt b 0 11, b.testBit 11, bitsAt b 16 8, bitsAt b 24 16, bitsAt b 40 16, bitsAt b 56 4, bitsAt b 60 3⟩

/-- The data blocks of a HIST (R211). -/
def histBlocks (a : Nat) (h : HistData) : List (BitVec 64) :=
  BitVec.ofNat 64 (a + 2 ^ 8 * h.contrib + 2 ^ 16 * h.husked) ::
  (blocksOf 3 (((List.range 8).map (fun q =>
    ((h.tot.getD q (0, 0)).1 % 2048 + 2048 * ((h.tot.getD q (0, 0)).2 % 2048)) * 2 ^ (24 * q))).sum) ++
  blocksOf 22 (((List.range 64).map (fun j =>
    (h.nm.getD j 0 % 2048 + 2048 * (h.s.getD j 0 % 2048)) * 2 ^ (22 * j))).sum))

/-- The content of a HIST frame (R211). -/
def histOf (f : TribFrame) : HistData :=
  let slots := joinBlocks f 1 3
  let bucks := joinBlocks f 4 22
  ⟨bitsAt (fBlock f 0) 8 8, bitsAt (fBlock f 0) 16 8,
   (List.range 8).map (fun q => (bitsAt slots (24 * q) 11, bitsAt slots (24 * q + 11) 11)),
   (List.range 64).map (fun j => bitsAt bucks (22 * j) 11), (List.range 64).map (fun j => bitsAt bucks (22 * j + 11) 11)⟩

/-- The data blocks of a THR (R211). -/
def thrBlocks (a : Nat) (t : Thr) : List (BitVec 64) :=
  [BitVec.ofNat 64 (a + 2 ^ 3 * t.mode + 2 ^ 5 * flag t.short + 2 ^ 8 * t.stale + 2 ^ 16 * t.jb + 2 ^ 22 * t.jt +
     2 ^ 28 * (t.rr % 2048) + 2 ^ 39 * (t.n % 2048)),
   BitVec.ofNat 64 (t.thLo % 65536 + 2 ^ 16 * (t.thHi % 65536) + 2 ^ 32 * (t.offE % 2048) + 2 ^ 43 * (t.offW % 2048)),
   BitVec.ofNat 64 (t.tot % 2048)]

/-- The content of a THR frame (R211). -/
def thrOf (f : TribFrame) : Thr :=
  let b0 := fBlock f 0
  let b1 := fBlock f 1
  ⟨bitsAt b0 3 2, b0.testBit 5, bitsAt b0 8 8, bitsAt b0 16 6, bitsAt b0 22 6, bitsAt b0 28 11, bitsAt b0 39 11,
   bitsAt b1 0 16, bitsAt b1 16 16, bitsAt b1 32 11, bitsAt b1 43 11, bitsAt (fBlock f 2) 0 11⟩

/-! Ports (R202, R205, R206, R215). -/

/-- Port 0 is TRIB_E, port 1 TRIB_W. -/
def State.port (s : State) (p : Nat) : TribPort := if p = 0 then s.chain.portE else s.chain.portW
def State.onPort (s : State) (p : Nat) (f : TribPort → TribPort) : State :=
  s.onChain (fun c => if p = 0 then { c with portE := f c.portE } else { c with portW := f c.portW })

/-- Whether the ports are electrically active (R471): not in reset, SEED or HALT. -/
def State.portsActive (s : State) : Bool := s.pwr.boot == .ready && !s.clk.lost

/-- Whether a port carries chain traffic (TRIB_PSTAT.USED). -/
def State.portUsed (s : State) (p : Nat) : Bool :=
  s.portsActive && s.chain.role != .solo && (s.port p).up && !(s.port p).wiring

/-- A frame put on a port: counted as originated or forwarded when the port carries it. -/
def State.putFrame (s : State) (p : Nat) (own : Bool) (f : TribFrame) : State :=
  (s.onPort p (fun x => if own then { x with originated := satAdd 32 x.originated 1 }
    else { x with forwarded := satAdd 32 x.forwarded 1 })).onChain (fun c => { c with frames := (p, f) :: c.frames })

/-- Whether HEAD-originated frames travel on a port: TRIB_E in ring mode, both in linear mode (R213, R214). -/
def State.headPorts (s : State) : List Nat := if s.chain.linear then [0, 1] else [0]

/-- A frame that the HEAD originates, on each port it leaves by, with BR set to the branch (R213, R214). -/
def State.sendHead (s : State) (type kind : Nat) (data : List (BitVec 64)) : State :=
  s.each (s.headPorts.filter s.portUsed) (fun s p => s.putFrame p true
    (sealFrame (hdrOf type s.chain.pos kind false (s.chain.linear && p == 1) s.chain.epoch s.chain.topseq data.length) data false))

/-- The port of a MEMBER that faces the HEAD (R213, R214). -/
def State.homePort (s : State) : Nat := if s.chain.linear && decide (s.chain.pos ≤ s.chain.brk) then 1 else 0

/-- A frame that a MEMBER originates towards the HEAD (R213, R214). -/
def State.sendHome (s : State) (p type kind : Nat) (data : List (BitVec 64)) : State :=
  if s.portUsed p then s.putFrame p true
    (sealFrame (hdrOf type s.chain.pos kind false (s.chain.linear && decide (s.chain.pos > s.chain.brk)) s.chain.epoch
      s.chain.topseq data.length) data false)
  else s

/-- Whether this device turns a HEAD-originated frame back: the last of its branch (R214). -/
def State.turnsBack (s : State) (f : TribFrame) : Bool :=
  s.chain.linear && !fLeg f && fSrc f == 0 && s.chain.pos == (if fBr f then s.chain.brk + 1 else s.chain.brk)

/-- A received frame sent onward (R212 to R214): by the other port, or back by the same port with LEG = 1 at the end of a
branch; with its CRC inverted when stomped. Nothing is forwarded at the HEAD or a SOLO device. -/
def State.forward (s : State) (p : Nat) (f : TribFrame) (stomped : Bool) : State :=
  if s.chain.role != .member then s
  else
    let back := s.turnsBack f
    let q := if back then p else 1 - p
    if s.portUsed q then
      s.putFrame q false (sealFrame (hdrOf (fType f) (fSrc f) (fKind f) (fLeg f || back) (fBr f) (fEpoch f) (fTopseq f) (fLen f))
        f.data stomped)
    else s

/-! Reports of chain codes (R235, R384). -/

/-- A report whose DATA0 holds CHEPOCH. -/
def State.chainReport (s : State) (code inst : Nat) : State :=
  s.report ⟨code, inst, none, none, word s.chain.epoch, 0, s.now, false, false⟩

def State.setMember (s : State) (q : Nat) (m : Member) : State :=
  s.onChain (fun c => { c with members := Tab.put (fun _ => Member.reset) c.members q m })
def State.onMember (s : State) (q : Nat) (f : Member → Member) : State := s.setMember q (f (s.member q))

/-- A report about a position: the epoch given, the current one, and its miss count (R384). -/
def State.memberReport (s : State) (code q epoch : Nat) : State :=
  s.report ⟨code, q, none, none, pack [(0, epoch), (16, s.chain.epoch)], word (s.member q).miss, s.now, false, false⟩

/-- A fenced frame of a position at the HEAD (R230): counted, and logged once in an episode, which ends at admission. -/
def State.fencedFrame (s : State) (q epoch : Nat) : State :=
  let t := s.onMember q (fun m => { m with revenant := satAdd 8 m.revenant 1, revLogged := true })
  if (s.member q).revLogged then t else t.memberReport Code.memberRevenant q epoch

/-- A CRC event of a port; the sixteenth within 1 ms is reported (R235). -/
def State.crcEvent (s : State) (p : Nat) : State :=
  let recent := s.mono :: ((s.port p).crcTimes.filter (fun t => !s.past t (msTicks 1)))
  if recent.length ≥ 16 then (s.onPort p (fun x => { x with crcTimes := [] })).chainReport Code.tribCrc p
  else s.onPort p (fun x => { x with crcTimes := recent })

/-! Reception (R202, R209, R210, R212). -/

/-- What the checks of R212 make of a received frame. -/
inductive Rx where
  | dropped | stomped | good
  deriving DecidableEq, Repr

/-- The chain epochs under which a device takes a frame: its own, and at the HEAD a HIST under the epoch of its round, unless a
declaration of death has fenced it (R212, R234). -/
def State.epochOk (s : State) (f : TribFrame) : Bool :=
  fEpoch f == s.chain.epoch ||
  (s.chain.role == .head && fType f == 2 && (match Tab.get (fun _ => none) s.chain.rounds (fBlock f 0 % 8) with
    | some hr => !hr.fenced && fEpoch f == hr.epoch
    | none => false))

/-- The blocks of no frame that came with or before a frame counted (R202). -/
def State.countStray (s : State) (p : Nat) (f : TribFrame) : State :=
  if f.strayBefore + f.strayIn = 0 then s else
    s.onPort p (fun x => { x with otherBlocks := satAdd 32 x.otherBlocks (f.strayBefore + f.strayIn) })

/-- A frame that a port hears judged by R212 and counted; a block of another type in it abandons it (R202). A frame whose terminate block
does not follow LEN data blocks has its CRC-32 wrong (DEDUCED, log entry 55). -/
def State.judgeHeard (s : State) (p : Nat) (f : TribFrame) : Rx × State :=
  let pd := fType f == 4 && fKind f != 0
  if (s.port p).wiring && !pd then (.dropped, s)
  else if !hcrcOk f then (.dropped, s.onPort p (fun x => { x with hcrc := satAdd 32 x.hcrc 1 }))
  else if fType f = 0 || fType f > 6 then (.dropped, s.onPort p (fun x => { x with badType := satAdd 32 x.badType 1 }))
  else if f.strayIn != 0 then (.dropped, s)
  else if fType f != 6 && !s.epochOk f then
    let t := s.onPort p (fun x => { x with oldEpoch := satAdd 32 x.oldEpoch 1 })
    (.dropped, if s.chain.role == .head then t.fencedFrame (fSrc f) (fEpoch f) else t)
  else if s.chain.role == .head && fType f != 6 && !s.chain.live.testBit (fSrc f) then
    (.dropped, s.fencedFrame (fSrc f) (fEpoch f))
  else if s.injected (0x40 + p) 0 then
    (.stomped, s.injecting (0x40 + p) 0 (fun s =>
      ((s.onPort p (fun x => { x with crcErr := satAdd 32 x.crcErr 1 })).setBit (Reg.tribPstat p) 6 true).crcEvent p))
  else if f.crc == crcOf f && f.data.length == fLen f then (.good, s)
  else if f.crc == ~~~(crcOf f) && f.data.length == fLen f then
    (.stomped, ((s.onPort p (fun x => { x with stomp := satAdd 32 x.stomp 1 })).setBit (Reg.tribPstat p) 7 true).crcEvent p)
  else
    (.stomped, ((s.onPort p (fun x => { x with crcErr := satAdd 32 x.crcErr 1 })).setBit (Reg.tribPstat p) 6 true).crcEvent p)

/-- A received frame: nothing at a port that is not in use or down; else its stray blocks are counted, wherever they come (R202), and the
frame is judged. -/
def State.judgeFrame (s : State) (p : Nat) (f : TribFrame) : Rx × State :=
  if !s.portsActive || s.chain.role == .solo || !(s.port p).up then (.dropped, s) else (s.countStray p f).judgeHeard p f

/-- A joined member's contact with the HEAD: any frame from SRC 0 with the current epoch, accepted (R231). -/
def State.contact (s : State) (f : TribFrame) : State :=
  if s.chain.mstate == .joined && fSrc f == 0 && fEpoch f == s.chain.epoch then
    s.onChain (fun c => { c with contactAt := s.mono }) else s

/-- The REF frames that a member sees outbound, numbered whether their CRC-32 passes or not (R222). -/
def State.noteRef (s : State) (f : TribFrame) : State :=
  if s.chain.role == .member && fType f == 1 && !fLeg f then s.onChain (fun c => { c with refs := c.refs + 1 }) else s

/-- One received frame: judged, used when its CRC-32 passes, and forwarded (R212). `use` answers the state after the use and
the frame to send onward, none when the frame goes no further. -/
def State.receive (s : State) (p : Nat) (f : TribFrame) (use : State → State × Option TribFrame) : State :=
  match s.judgeFrame p f with
  | (.dropped, t) => t
  | (.stomped, t) => if fType f == 4 && fKind f != 0 then t else (t.noteRef f).forward p f true
  | (.good, t) =>
    let u := use ((t.noteRef f).contact f)
    match u.2 with
    | some g => u.1.forward p g false
    | none => u.1

/-! Epoch, topology, bound (R213 to R216, R228, R232). -/

/-- TRIB_STAT.EVT set. -/
def State.chainEvent (s : State) : State := s.setBit Reg.tribStat 2 true

/-- HOPS (R232). -/
def hopsOf (linear : Bool) (ndev brk : Nat) : Nat := if linear then 2 * max brk (ndev - 1 - brk) else ndev

/-- The mean of a port's last eight link delays, 1/16 TCLK (R219). -/
def TribPort.delay (x : TribPort) : Int := if x.delays.isEmpty then 0 else truncDiv x.delays.sum x.delays.length

/-- A link's measured delay beyond 10 ns, in 1/256 ns: 1/16 TCLK is 25/256 ns (R232). -/
def State.linkExcess (s : State) (l : Nat) : Nat :=
  if l = s.chain.pos then ((s.port 0).delay * 25 - 2560).toNat
  else if (l + 1) % s.chain.ndev = s.chain.pos then ((s.port 1).delay * 25 - 2560).toNat
  else Config.linkExcess l

/-- The links of the longest path (R232): every link of the ring, or those of the longer branch. -/
def State.pathLinks (s : State) : List Nat :=
  if !s.chain.linear then List.range s.chain.ndev
  else if s.chain.brk ≥ s.chain.ndev - 1 - s.chain.brk then List.range s.chain.brk
  else (List.range s.chain.ndev).filter (fun l => decide (l > s.chain.brk))

/-- The reported bound in ns (R232). -/
def State.boundOf (s : State) : Nat :=
  240 + 60 * hopsOf s.chain.linear s.chain.ndev s.chain.brk + ceilDiv (2 * (s.pathLinks.map s.linkExcess).sum) 256

/-- HOPS and BOUND recomputed at the HEAD; a change of the bound raises source 35 (R232). -/
def State.rebound (s : State) : State :=
  if s.chain.role != .head then s
  else
    let t := s.onChain (fun c => { c with hops := hopsOf c.linear c.ndev c.brk, bound := s.boundOf })
    if s.boundOf = s.chain.bound then t else t.irq 35

/-- The chain epoch incremented at the HEAD (R228): the notice that follows is due, and the shadow of R390 opens. -/
def State.newEpoch (s : State) : State :=
  ((s.onChain (fun c => { c with epoch := wrap 16 (c.epoch + 1), noticeDue := true })).chainEvent).openShadow .topology

/-- A topology published by the HEAD (R213, R215, R216): TOPSEQ incremented, the notice due. -/
def State.newTopology (s : State) (linear : Bool) (brk : Nat) : State :=
  (((s.onChain (fun c => { c with linear := linear, brk := brk, topseq := wrap 8 (c.topseq + 1), noticeDue := true
    })).chainEvent).openShadow .topology).rebound

/-- A break published (R215): linear topology, CHAIN_LINEAR reported. -/
def State.breakAt (s : State) (brk : Nat) : State :=
  if s.chain.linear && s.chain.brk == brk then s
  else
    let t := s.newTopology true brk
    if s.chain.linear then t else t.chainReport Code.chainLinear 0

/-- A member declared dead (R230); what it contributes late to the rounds that run is fenced by epoch (R234). -/
def State.declareDead (s : State) (q : Nat) : State :=
  let t := s.newEpoch.onChain (fun c => { c with
    live := c.live &&& (255 - 2 ^ q),
    rounds := Tab.mapVals (fun _ => none) c.rounds (fun _ r => r.map (fun r => { r with fenced := true })) })
  (t.onMember q (fun m => { m with dead := true, stale := false })).memberReport Code.memberDead q (s.member q).lastEpoch

/-- One miss of a member; DEADMISS of them declare it dead (R230). -/
def State.miss (s : State) (q : Nat) : State :=
  let t := s.onMember q (fun m => { m with miss := satAdd 4 m.miss 1 })
  if (t.member q).miss ≥ t.fld Reg.tribCfg 28 4 then t.declareDead q else t

/-- A member admitted at the HEAD (R208). -/
def State.admitMember (s : State) (q : Nat) : State :=
  (s.newEpoch.onChain (fun c => { c with live := c.live ||| 2 ^ q })).onMember q (fun m =>
    { m with req := false, dead := false, miss := 0, stale := false, revLogged := false, heard := true })

/-! Contact and time at a member (R36, R37, R207, R231). -/

/-- A member that enters LOST or EXCLUDED: CHAIN_LOST reported, rounds dropped, slewing ended (R231). -/
def State.leaveChain (s : State) (m : MState) : State :=
  ((s.onChain (fun c => { c with mstate := m, joining := false, parts := [], unaligned := none })).onClk
    (fun c => { c with slew := 0 })).chainReport Code.chainLost 0

/-- A JOINED member loses contact (R231). -/
def State.loseContact (s : State) : State := if s.chain.mstate == .joined then s.leaveChain .lost else s

/-- An offset in 1/16 TCLK as TCLK, to nearest. -/
def offsetTicks (o : Int) : Int := roundDiv o 16

/-- GEN_TSYNC.OFFSET (R218): signed, saturating at ±127. -/
def State.showOffset (s : State) (o : Int) : State := s.setFld Reg.genTsync 8 8 (unsigned 8 (clampInt 127 (offsetTicks o)))

/-- The join step (R36): the counter set to HEAD time, STEPPED and STEPS, TIME_STEP with the old and new low words, and the
member JOINED, which ends the cause of CHAIN_LOST (R208). -/
def State.joinStep (s : State) (o : Int) : State :=
  let new := (s.now - offsetTicks o).toNat % 2 ^ 64
  let r := if new < s.now then s.sealRecords else s
  let t := ((r.onClk (fun c => { c with time := new, slew := 0 })).setBit Reg.genTsync 1 true).incFld Reg.genTsync 16 16
  let u := (t.setBit Reg.genTsync 0 true).report ⟨Code.timeStep, 0xFFFF, none, none, lo32 s.now, lo32 new, new, false, false⟩
  (u.onChain (fun c => { c with
    mstate := .joined, joining := false, contactAt := s.mono, syncAt := s.mono, unaligned := none })).endCauses Code.chainLost

/-- A measured offset of a joined member (R36, R37): slewed; beyond ±2 TCLK UNALIGNED and reported; beyond ±64 TCLK, or
beyond ±2 TCLK for more than 1 ms, contact is lost. -/
def State.measured (s : State) (o : Int) : State :=
  let t := s.onClk (fun c => { c with slew := -offsetTicks o })
  if o.natAbs ≤ 32 then
    ((t.setBit Reg.genTsync 0 true).onChain (fun c => { c with unaligned := none })).endCauses Code.timeUnaligned
  else
    let u := (t.setBit Reg.genTsync 2 true).setBit Reg.genTsync 0 false
    let since := s.chain.unaligned.getD s.mono
    let v := (if s.chain.unaligned.isNone then u.reportNow Code.timeUnaligned 0xFFFF else u).onChain
      (fun c => { c with unaligned := some since })
    if o.natAbs > 1024 || decide (since + msTicks 1 < s.mono) then v.loseContact else v

/-! Rounds (R221 to R227). -/

/-- The grid base of a decision (R221). -/
def State.gridBase (s : State) (a : Nat) : Nat :=
  let w := 2 ^ s.fld (Reg.tribAcfg a) 8 4
  if s.bit (Reg.tribAcfg a) 4 then s.fld (Reg.tribAcfg a) 16 16
  else match Tab.get (fun _ => none) s.chain.thLo a with
    | some lo => min (lo - 31 * w) (65536 - 62 * w)
    | none => 0

/-- The reference of a spanned arm at the HEAD's snapshot (R178, R221). -/
def State.armRef (s : State) (a : Nat) : ArmRef :=
  ⟨a, s.fld (Reg.weirAref0 a) 0 11, s.bit (Reg.weirAref0 a) 15, s.fld (Reg.weirAref0 a) 16 8, s.fld (Reg.weirAref1 a) 0 16,
   s.gridBase a, s.fld (Reg.tribAcfg a) 8 4, s.fld (Reg.tribAcfg a) 0 3⟩

/-- The part of this device in a round of an arm, after its snapshot (R222). -/
def State.partOf (s : State) (r : ArmRef) (husked : Bool) : Round :=
  ⟨r, if husked then [] else s.cands r.arm r.dir, if husked then 0 else s.pinnedIns r.arm, husked, false, [], [],
   s.fld (Reg.weirAcfg r.arm) 16 10, s.fld (Reg.weirAband r.arm) 0 16, s.chain.refs⟩

/-- The branches that hold devices: 0 the ring or the east branch, 1 the west branch (R214). -/
def State.branches (s : State) : List Nat :=
  if !s.chain.linear then [0]
  else (if s.chain.brk ≥ 1 then [0] else []) ++ (if s.chain.brk + 1 < s.chain.ndev then [1] else [])

/-- Whether a position lies on a branch (R214). -/
def State.onBranch (s : State) (b q : Nat) : Bool :=
  !s.chain.linear || (if b = 0 then decide (q ≤ s.chain.brk) else decide (q > s.chain.brk))

/-- A HIST with nothing recorded. -/
def HistData.zero : HistData := ⟨0, 0, List.replicate 8 (0, 0), List.replicate 64 0, List.replicate 64 0⟩

/-- The rounds of the spanned arms of one commit started at the HEAD (R222): one REF, then one HIST per arm, ascending. -/
def State.startRounds (s : State) (refs : List ArmRef) : State :=
  if refs.isEmpty then s
  else
    let t := s.each refs (fun s r => s.onChain (fun c => { c with
      rounds := Tab.put (fun _ => none) c.rounds r.arm
        (some ⟨s.partOf r false, s.mono, c.hops, none, none, s.branches, [], c.epoch, c.live, false⟩) }))
    (t.sendHead 1 0 (refs.map refBlock)).each refs (fun s r => s.sendHead 2 0 (histBlocks r.arm .zero))

/-- The forwarded commit of one arm at a member (R222): taken, it snapshots and takes part; refused by a husk, it takes part
with zero counts; held or otherwise refused, it does not. -/
def State.joinRound (s : State) (r : ArmRef) (v : Verdict) : State :=
  let s := if v == .taken || v == .held then s.onArm r.arm (fun x => { x with cycle := r.cycle }) else s
  let t := match v with
    | .taken => let u := s.snapshotArm r.arm
                u.onArm r.arm (fun x => { x with deferred := x.deferred ++ State.newlyStale s u r.arm })
    | .held => s.holdArm r.arm r.nIns
    | _ => s
  let part := if v == .taken then some (t.partOf r false)
    else if v == .refused && s.commitsRefused r.arm then some (t.partOf r true) else none
  (t.dropPart r.arm).onChain (fun c => { c with parts := Tab.put (fun _ => none) c.parts r.arm part })

/-- A HIST with a device's part added (R222, R211). -/
def HistData.add (h : HistData) (pos : Nat) (r : Round) : HistData :=
  let nm := bucketCounts r.ref.base r.ref.shift false r.cands
  let sc := bucketCounts r.ref.base r.ref.shift true r.cands
  ⟨h.contrib ||| 2 ^ pos, if r.husked then h.husked ||| 2 ^ pos else h.husked,
   (List.range 8).map (fun q => if q = pos then (sc.sum, r.pins) else h.tot.getD q (0, 0)),
   addBuckets h.nm nm, addBuckets h.s sc⟩

/-- A decision of a device's part of a spanned arm (R225, R226). `frac` is 0 where this device chooses no PWM submodule. -/
def State.decidePart (s : State) (r : Round) (t : Thr) (pre frac : Nat) (short : Bool) : State :=
  let a := r.ref.arm
  let p := spannedPlan t r.ref.base r.ref.shift pre r.cap r.band r.cands
  let q := ({ p with short := t.short || short }).withFrac frac
  s.carryOut a r.ref.cycle r.ref.nIns frac r.pins q []

/-- The members of a round: live when it began, and live now (R234). -/
def State.roundPeers (s : State) (hr : HeadRound) : List Nat := s.livePeers.filter (fun q => hr.live.testBit q)

/-- What one returned HIST says of each member of its branch (R223, R230): a contribution resets its misses and keeps its
totals, a clear CONTRIB bit is one miss, reported as MEMBER_STALE. -/
def State.hearHist (s : State) (b a : Nat) (h : HistData) (hr : HeadRound) : State :=
  s.each ((s.roundPeers hr).filter (s.onBranch b)) (fun s q =>
    if h.contrib.testBit q then
      s.onMember q (fun m => { m with
        miss := 0, stale := false, lastEpoch := s.chain.epoch,
        armHusk := if h.husked.testBit q then m.armHusk ||| 2 ^ a else m.armHusk,
        totals := Tab.put (fun _ => (0, 0)) m.totals a (h.tot.getD q (0, 0)) })
    else ((s.onMember q (fun m => { m with stale := true })).memberReport Code.memberStale q (s.member q).lastEpoch).miss q)

/-- The merge of a round whose branches have all returned or are lost (R224 to R227). -/
def State.mergeRound (s : State) (a : Nat) (hr : HeadRound) : State :=
  let e := hr.east.getD .zero
  let w := hr.west.getD .zero
  let contrib := e.contrib ||| w.contrib
  let peers := s.roundPeers hr
  let stalePos := peers.filter (fun q => !contrib.testBit q)
  let tot := fun q => if e.contrib.testBit q then e.tot.getD q (0, 0) else if w.contrib.testBit q then w.tot.getD q (0, 0)
    else Tab.get (fun _ => (0, 0)) (s.member q).totals a
  let r := hr.own
  let hnm := bucketCounts r.ref.base r.ref.shift false r.cands
  let hs := bucketCounts r.ref.base r.ref.shift true r.cands
  let stale := (stalePos.map (fun q => 2 ^ q)).sum
  let d := s.draw
  let t := mergeOf r.ref.nIns (r.pins + (peers.map (fun q => (tot q).2)).sum) (stalePos.map (fun q => (tot q).1)).sum stale
    r.ref.base r.ref.shift (addBuckets hnm (addBuckets e.nm w.nm)) (addBuckets hs (addBuckets e.s w.s)) hnm hs e.nm e.s d.1
  let pp := r.ref.pwmPos
  let noPwm := r.ref.frac != 0 && pp != 0 &&
    (!peers.contains pp || stalePos.contains pp || (e.husked ||| w.husked).testBit pp)
  let s1 := d.2.each stalePos (fun s q => s.onMember q (fun m => { m with stale := true }))
  let s2 := (s1.onChain (fun c => { c with
      rounds := Tab.put (fun _ => none) c.rounds a none, thLo := Tab.put (fun _ => none) c.thLo a (some t.thLo)
      })).setReg (Reg.tribAstat a) (pack [(24, stale), (16, contrib), (10, t.jt), (4, t.jb), (2, t.mode),
        (1, flag (!hr.lost.isEmpty))])
  (s2.sendHead 3 0 (thrBlocks a t)).decidePart r t 0 (if pp = 0 then r.ref.frac else 0) noPwm

/-- The role and position set (R204, R236): a HEAD starts with itself live under a new epoch, a MEMBER in ALONE, a SOLO device
alone; the linear mode of the chain it leaves ends (R235). -/
def State.setRole (s : State) (role : Role) (pos : Nat) (fromCmd : Bool) (ndev : Nat) : State :=
  let t := s.onChain (fun c => { c with
    role := role, pos := pos, posCmd := fromCmd, ndev := if role == .head then ndev else 1, mstate := .alone,
    knowsNdev := false, live := if role == .head then 1 else 0, linear := false, brk := 0, hops := 0, bound := 0, cyc := 0,
    joining := false, unaligned := none, members := [], thLo := [], noticeDue := false, cycleAt := s.mono })
  let t := ((List.range 8).foldl State.dropPart t).when s.chain.linear (fun t => t.endCauses Code.chainLinear)
  let u := ((t.onClk (fun c => { c with slew := 0 })).setFld Reg.genTsync 8 8 0).setBit Reg.genTsync 0
    (role != .member && s.bit Reg.genClkstat 0)
  match role with
  | .head => u.newEpoch.rebound
  | _ => u

/-- The role change that a TRIB_SET_ROLE asks for, and its reply: the epoch (R236). -/
def State.applyRole (s : State) (p : Packet) : State :=
  let w := p.word 0
  let role := if field w 0 2 = 0 then Role.solo else if field w 0 2 = 1 then Role.head else Role.member
  let t := s.setRole role (if wbit w 11 then s.fld Reg.pwrReset 0 3 else field w 8 3) (!wbit w 11) (field w 16 4)
  t.answer Op.tribSetRole p Status.ok 0 [word t.chain.epoch]

/-- A role change that waited for the HEAD's rounds takes effect once none runs (R477). -/
def State.roleAfterRounds (s : State) : State :=
  match s.chain.roleWait with
  | some p => if s.chain.rounds.isEmpty then (s.onChain (fun c => { c with roleWait := none })).applyRole p else s
  | none => s

/-- Whether a lower arm of the same commit still has its round (R234: THR frames go in ascending arm order). -/
def State.behind (s : State) (a : Nat) (hr : HeadRound) : Bool :=
  (List.range a).any (fun b => match Tab.get (fun _ => none) s.chain.rounds b with
    | some x => x.sent == hr.sent
    | none => false)

/-- The round of an arm merged once nothing is awaited any more and no lower arm of its commit is before it. -/
def State.mergeReady (s : State) (a : Nat) : State :=
  match Tab.get (fun _ => none) s.chain.rounds a with
  | some hr => if hr.waiting.isEmpty && !s.behind a hr then s.mergeRound a hr else s
  | none => s

/-- A HeadRound kept, and every round that is ready merged, in ascending arm order. -/
def State.keepRound (s : State) (a : Nat) (hr : HeadRound) : State :=
  ((s.onChain (fun c => { c with rounds := Tab.put (fun _ => none) c.rounds a (some hr) })).each (List.range 8)
    State.mergeReady).roleAfterRounds

end Sys2Proof.Machine
end

