-- ==== Sys2Proof/Machine/Trib.lean ====
section
/-! DEFINITION. The meanings of the Tributary rows (chapter 06). -/

namespace Sys2Proof.Machine

/-- TRIB_SET_ROLE (R236, R204): a HEAD at a position other than 0, a MEMBER at 0, a HEAD with NDEV outside 2 to 8, or the code 3
give BAD_PARAM; while rounds run at a HEAD the change waits for them (R477). -/
def execTribSetRole (p : Packet) (s : State) : Out :=
  done (s.command Op.tribSetRole p (fun s =>
    let w := p.word 0
    let role := field w 0 2
    let pos := if wbit w 11 then s.fld Reg.pwrReset 0 3 else field w 8 3
    if role = 3 || (role = 1 && (pos != 0 || decide (field w 16 4 < 2) || decide (field w 16 4 > 8))) ||
        (role = 2 && pos == 0) then s.reply Status.badParam 0 []
    else if s.chain.roleWait.isSome then s.reply Status.state 0 []
    else if s.chain.role == .head && !s.chain.rounds.isEmpty then
      (s.onChain (fun c => { c with roleWait := some p })).later
    else (s.applyRole p).later))

/-- TRIB_FORM (R208, R236): the members asked for whose join requests the HEAD holds are admitted; the command completes when its
1 ms has run out. -/
def execTribForm (p : Packet) (s : State) : Out :=
  done (s.command Op.tribForm p (fun s =>
    let want := field (p.word 0) 0 8
    if s.chain.role != .head || s.chain.form.isSome then s.reply Status.state 0 []
    else if (List.range 8).any (fun q => want.testBit q && decide (q ≥ s.chain.ndev)) then s.reply Status.badParam 0 []
    else
      let now := (List.range 8).filter (fun q => want.testBit q && (s.member q).req && !s.chain.live.testBit q)
      let t := s.each now (fun s q => s.admitMember q)
      (t.onChain (fun c => { c with form := some ⟨p, s.mono, want, (now.map (fun q => 2 ^ q)).sum⟩ })).later))

/-- TRIB_ADMIT (R208, R236): the member is admitted at once when its join request is held, or when one arrives within 1 ms. -/
def execTribAdmit (p : Packet) (s : State) : Out :=
  done (s.command Op.tribAdmit p (fun s =>
    let q := field (p.word 0) 0 3
    if s.chain.role != .head then s.reply Status.state 0 []
    else if q = 0 || decide (q ≥ s.chain.ndev) || s.chain.live.testBit q then s.reply Status.badParam 0 []
    else if (s.member q).req then (s.admitMember q).reply Status.ok 0 [word (s.admitMember q).chain.epoch]
    else if s.chain.admitting.isSome then s.reply Status.state 0 []
    else (s.onChain (fun c => { c with admitting := some ⟨p, s.mono, 2 ^ q, 0⟩ })).later))

/-- TRIB_ADMIT_TIMEOUT (R236): 1 ms without a join request, the command completes with STATE. -/
def execTribAdmitTimeout (s : State) : Out :=
  done (match s.chain.admitting with
    | some a => if s.past a.start (msTicks 1) then
        (s.onChain (fun c => { c with admitting := none })).answer Op.tribAdmit a.packet Status.state 0 []
      else s
    | none => s)

/-- TRIB_EXPEL (R230, R236): a live member declared dead without misses. -/
def execTribExpel (p : Packet) (s : State) : Out :=
  done (s.command Op.tribExpel p (fun s =>
    let q := field (p.word 0) 0 3
    if s.chain.role != .head then s.reply Status.state 0 []
    else if q = 0 || decide (q ≥ s.chain.ndev) || !s.chain.live.testBit q then s.reply Status.badParam 0 []
    else (s.declareDead q).reply Status.ok 0 [word (s.declareDead q).chain.epoch]))

/-- Whether the port of position q that faces the break has been up for 10 ms (R216): the HEAD's own port, or the port as the
member's fault summaries report it. -/
def State.breakPortUp (s : State) (q p : Nat) : Bool :=
  if q = s.chain.pos then (s.port p).up && s.past (s.port p).upSince (msTicks 10)
  else match if p = 0 then (s.member q).eastUp else (s.member q).westUp with
    | some t => s.past t (msTicks 10)
    | none => false

/-- TRIB_RING (R216, R236): ring mode again when both ports at the break have been up for 10 ms. -/
def execTribRing (p : Packet) (s : State) : Out :=
  done (s.command Op.tribRing p (fun s =>
    if s.chain.role != .head || !s.chain.linear then s.reply Status.state 0 []
    else if !(s.breakPortUp s.chain.brk 0 && s.breakPortUp ((s.chain.brk + 1) % s.chain.ndev) 1) then
      s.reply Status.causeActive 0 []
    else
      let t := (s.newTopology false 0).endCauses Code.chainLinear
      t.reply Status.ok 0 [word t.chain.topseq]))

/-- TRIB_STATS (R236). -/
def execTribStats (p : Packet) (s : State) : Out :=
  done (s.command Op.tribStats p (fun s =>
    let k := field (p.word 0) 0 1
    let x := s.port k
    let t := if wbit (p.word 0) 16 then s.onPort k (fun x => { x with
      forwarded := 0, originated := 0, hcrc := 0, crcErr := 0, stomp := 0, oldEpoch := 0, badType := 0, lockLoss := 0 }) else s
    t.reply Status.ok 0 ([x.forwarded, x.originated, x.hcrc, x.crcErr, x.stomp, x.oldEpoch, x.badType, x.lockLoss].map word)))

/-- The fault summary of this device (FSUM of R211). -/
def State.fsumBlocks (s : State) : List (BitVec 64) :=
  let sevs := codeTable.filterMap (fun r => if (s.code r.code).state == .active then (s.code r.code).sev else none)
  let sev := if sevs.isEmpty then 7 else sevs.foldl max 0
  let arms := bitsOf ((List.range 8).map s.armHusk)
  [BitVec.ofNat 64 (sev + 2 ^ 3 * flag s.devHusk + 2 ^ 4 * flag (!s.fio.drive) + 2 ^ 5 * flag (!(s.port 0).up) +
     2 ^ 6 * flag (!(s.port 1).up) + 2 ^ 8 * arms + 2 ^ 16 * ((s.flt.log.head?.map LogEntry.code).getD 0) +
     2 ^ 32 * wrap 32 s.flt.logged),
   BitVec.ofNat 64 (s.fld Reg.genTsync 8 8 + 2 ^ 8 * s.chain.mstate.code)]

/-- What a fault summary says of severity, husk and ports (R210, R211). -/
def State.fsumWatch (s : State) : Nat :=
  let b := ((s.fsumBlocks).getD 0 0).toNat
  bitsAt b 0 4 + 2 ^ 4 * bitsAt b 5 2 + 2 ^ 8 * bitsAt b 8 8

/-- A fault summary sent on a port, with what it says kept (R210). -/
def State.sendFsum (s : State) (p kind : Nat) : State :=
  (s.sendHome p 5 kind s.fsumBlocks).onChain (fun c => { c with fsumKey := s.fsumWatch })

/-- A port that loses block lock (R206, R215): TRIB_LINK is reported, a HEAD breaks the ring there, a MEMBER tells it; LOST and EXCLUDED
send join requests only (R231). -/
def State.portDown (s : State) (p : Nat) (los : Bool) : State :=
  if !(s.port p).up then s.onPort p (fun x => { x with los := los })
  else
    let t := (((s.onPort p (fun x => { x with up := false, los := los, lockLoss := satAdd 32 x.lockLoss 1 })).setBit
      (Reg.tribPstat p) 3 true)).chainReport Code.tribLink p
    match s.chain.role with
    | .head => t.breakAt (if p = 0 then 0 else s.chain.ndev - 1)
    | .member => if s.chain.mstate == .lost || s.chain.mstate == .excluded then t else t.sendFsum (1 - p) 2
    | .solo => t

/-- TRIB_PORT_DOWN (R206). -/
def execTribPortDown (p : Fin 2) (los : Bool) (s : State) : Out := done (s.portDown p los)

/-- TRIB_PORT_UP (R206): block lock regained; the cause of TRIB_LINK ends. -/
def execTribPortUp (p : Fin 2) (s : State) : Out :=
  done (if (s.port p).up then s
    else ((s.onPort p (fun x => { x with up := true, los := false, upSince := s.mono })).setBit Reg.genClkstat 2 true).endCause
      Code.tribLink p)

/-- A fault summary of a live member taken by the HEAD (R230): its misses reset, TRIB_MSTAT, and its ports. -/
def State.hearFsum (s : State) (f : TribFrame) : State :=
  let b := fBlock f 0
  let upFrom : Bool → Option Nat → Option Nat := fun down old => if down then none else some (old.getD s.mono)
  s.onMember (fSrc f) (fun m => { m with
    miss := 0, heard := true, sev := bitsAt b 0 3, devHusk := b.testBit 3, armHusk := bitsAt b 8 8,
    eastUp := upFrom (b.testBit 5) m.eastUp, westUp := upFrom (b.testBit 6) m.westUp, lastEpoch := fEpoch f })

/-- FSUM_BREAK (R215): at the HEAD the break is published, east of the sender when its TRIB_E is down, else west of it; any other
device forwards the frame in the direction it travels. -/
def execFsumBreak (p : Fin 2) (f : TribFrame) (s : State) : Out :=
  done (s.receive p f (fun s =>
    if s.chain.role != .head || fType f != 5 || fKind f != 2 then (s, some f)
    else
      let t := s.hearFsum f
      let q := fSrc f
      (if (fBlock f 0).testBit 5 then t.breakAt q
       else if (fBlock f 0).testBit 6 then t.breakAt ((q + s.chain.ndev - 1) % s.chain.ndev) else t, none)))

/-- REF_FRAME (R222, R180): each spanned arm of an outbound REF is committed at a JOINED member under its local rules. -/
def execRefFrame (p : Fin 2) (f : TribFrame) (s : State) : Out :=
  done (s.receive p f (fun s =>
    if s.chain.mstate != .joined || fType f != 1 || fLeg f then (s, some f)
    else
      let refs := ((List.range (fLen f)).map (fun i => refOf (fBlock f i))).filter (fun r => s.spans r.arm)
      let vs := refs.map (fun r => (r, s.verdict r.arm r.nIns true))
      let t := s.recordCommit (vs.map (fun v => (v.1.arm, v.2)))
      (t.each vs (fun s v => s.joinRound v.1 v.2), some f)))

/-- HIST_FRAME (R222): a member that takes part records the counts present and adds its own on its one pass, outbound in ring mode and on
the east branch, returning on the west branch; it forwards the frame in every case. A part of an earlier REF than the last one seen ends
at the outbound pass: the REF of this HIST did not pass its CRC-32. -/
def execHistFrame (p : Fin 2) (f : TribFrame) (s : State) : Out :=
  done (s.receive p f (fun s =>
    let a := fBlock f 0 % 8
    let west := s.chain.linear && decide (s.chain.pos > s.chain.brk)
    let pass := if west then fLeg f || s.turnsBack f else !fLeg f
    match s.partRuns a with
    | some r =>
      if fType f == 2 && !fLeg f && r.serial != s.chain.refs then (s.dropPart a, some f)
      else if s.chain.mstate == .joined && fType f == 2 && pass && !r.contributed then
        let h := histOf f
        (s.onChain (fun c => { c with
           parts := Tab.put (fun _ => none) c.parts a (some { r with contributed := true, preNm := h.nm, preS := h.s }) }),
         some { f with data := histBlocks a (h.add s.chain.pos r) })
      else (s, some f)
    | none => (s, some f)))

/-- HIST_RETURN (R223, R224): the HEAD notes what one branch returned, and merges once no branch is awaited. -/
def execHistReturn (p : Fin 2) (f : TribFrame) (s : State) : Out :=
  done (s.receive p f (fun s =>
    let a := fBlock f 0 % 8
    let b := if s.chain.linear && fBr f then 1 else 0
    match Tab.get (fun _ => none) s.chain.rounds a with
    | some hr =>
      if s.chain.role == .head && fType f == 2 && hr.waiting.contains b then
        let h := histOf f
        let hr' : HeadRound := { hr with
          waiting := hr.waiting.filter (fun x => x != b),
          east := if b = 0 then some h else hr.east, west := if b = 1 then some h else hr.west }
        ((s.hearHist b a h hr).keepRound a hr', none)
      else (s, some f)
    | none => (s, some f)))

/-- HIST_MERGE_DEADLINE (R223): 30 ns × HOPS + 100 ns after departure the branches not returned are lost and their members stale for
the round. -/
def execHistMergeDeadline (a : Fin 8) (s : State) : Out :=
  done (match Tab.get (fun _ => none) s.chain.rounds a with
    | some hr =>
      if 100 * s.mono ≥ 100 * hr.sent + (30 * hr.hops + 100) * 64 then
        s.keepRound a { hr with waiting := [], lost := hr.waiting }
      else s
    | none => s)

/-- THR_FRAME (R225, R226): a device that contributed and is not stale decides its own part of the arm; any other keeps its aspects. -/
def execThrFrame (p : Fin 2) (f : TribFrame) (s : State) : Out :=
  done (s.receive p f (fun s =>
    let a := fBlock f 0 % 8
    if s.chain.mstate != .joined || fType f != 3 then (s, some f)
    else match s.partRuns a with
      | some r =>
        let t := thrOf f
        if r.contributed && !r.husked && !t.stale.testBit s.chain.pos then
          let pre := (if s.chain.linear && decide (s.chain.pos > s.chain.brk) then t.offW else t.offE) +
            (if t.mode = 2 then r.preS else r.preNm).getD t.jb 0
          let u := s.onChain (fun c => { c with parts := Tab.put (fun _ => none) c.parts a none })
          (u.decidePart r t pre (if r.ref.pwmPos = s.chain.pos then r.ref.frac else 0) false, some f)
        else (s.dropPart a, some f)
      | none => (s, some f)))

/-- Whether the device originates chain traffic as HEAD (R471): not while SAVED. -/
def State.headSends (s : State) : Bool := s.chain.role == .head && s.portsActive && !s.saved

/-- TIME_SYNC_SEND (R217): every TSYNC µs, T_TX with CORR and HOPS 0. `sub` is the sixteenth of the tick. -/
def execTimeSyncSend (sub : Fin 16) (s : State) : Out :=
  done (if s.headSends && s.past s.chain.syncAt (usTicks (s.fld Reg.tribCfg 8 6)) then
    (s.sendHead 4 0 [BitVec.ofNat 64 (16 * s.now + sub), 0]).onChain (fun c => { c with syncAt := s.mono })
  else s)

/-- TIME_SYNC_FRAME (R217, R218, R36): on the outbound leg the member measures its offset, steps when it joins, slews when it is
joined, and forwards the frame with its link delay and residence `res` added to CORR. -/
def execTimeSyncFrame (p : Fin 2) (f : TribFrame) (sub : Fin 16) (res : Nat) (s : State) : Out :=
  done (s.receive p f (fun s =>
    if s.chain.role != .member || fType f != 4 || fKind f != 0 then (s, none)
    else
      let corr := bitsAt (fBlock f 1) 0 32
      let d := (s.port p).delay
      let onward := if fLeg f || s.turnsBack f then f else
        { f with data := [f.data.getD 0 0, BitVec.ofNat 64 (unsigned 32 (corr + d + res) +
            2 ^ 32 * ((bitsAt (fBlock f 1) 32 4 + 1) % 16))] }
      if fLeg f then (s, some onward)
      else
        let o := signed 64 (unsigned 64 ((16 * s.now + sub : Nat) - ((fBlock f 0 : Int) + corr + d)))
        let t := s.showOffset o
        if s.chain.joining then (t.joinStep o, some onward)
        else if s.chain.mstate == .joined then
          ((t.onChain (fun c => { c with syncAt := s.mono })).measured o, some onward)
        else (t, some onward)))

/-- TIME_SYNC_TIMEOUT (R218, R37): 100 µs without a time sync frame while JOINED counts as an offset beyond ±64 TCLK. -/
def execTimeSyncTimeout (s : State) : Out :=
  done (if s.chain.mstate == .joined && s.past s.chain.syncAt (usTicks 100) then
    let t := (s.setBit Reg.genTsync 2 true).setBit Reg.genTsync 0 false
    (if s.chain.unaligned.isNone then t.reportNow Code.timeUnaligned 0xFFFF else t).loseContact
  else s)

/-- PDREQ_SEND (R205, R219): once per millisecond, a peer-delay request with its departure time T1. -/
def execPdreqSend (p : Fin 2) (sub : Fin 16) (s : State) : Out :=
  done (if s.chain.role != .solo && s.portsActive && (s.port p).up && !(s.chain.role == .head && s.saved) &&
      s.past (s.port p).reqAt (msTicks 1) then
    (s.putFrame p true (sealFrame (hdrOf 4 s.chain.pos 1 false false s.chain.epoch s.chain.topseq 1)
      [BitVec.ofNat 64 (16 * s.now + sub)] false)).onPort p (fun x => { x with reqAt := s.mono })
  else s)

/-- Whether a port's neighbour position is the one R206 accepts. -/
def State.nbrOk (s : State) (p q : Nat) : Bool :=
  let pos := s.chain.pos
  if s.chain.role == .head || s.chain.knowsNdev then
    if p = 0 then q == (if pos + 1 = s.chain.ndev then 0 else pos + 1)
    else q == (if pos = 0 then s.chain.ndev - 1 else pos - 1)
  else if p = 0 then q == pos + 1 || q == 0 else q + 1 == pos

/-- A neighbour's position judged (R205, R206): TRIB_WIRING starts or ends. -/
def State.judgeNbr (s : State) (p q : Nat) : State :=
  let t := s.onPort p (fun x => { x with nbr := some q, wiring := !s.nbrOk p q })
  if s.nbrOk p q then (if (s.port p).wiring then t.endCause Code.tribWiring p else t)
  else if (s.port p).wiring then t else t.chainReport Code.tribWiring p

/-- PDREQ_FRAME (R219): the request is answered with T1, T2 and T3, and the neighbour's position judged. `res` is the time from
arrival to the reply's departure, in 1/16 TCLK. -/
def execPdreqFrame (p : Fin 2) (f : TribFrame) (sub : Fin 16) (res : Nat) (s : State) : Out :=
  done (s.receive p f (fun s =>
    if fType f != 4 || fKind f != 1 then (s, none)
    else
      let t2 := 16 * s.now + sub.val
      let t := s.judgeNbr p (fSrc f)
      if s.chain.role == .head && s.saved then (t, none)
      else (t.putFrame p true (sealFrame (hdrOf 4 s.chain.pos 2 false false s.chain.epoch s.chain.topseq 3)
        [f.data.getD 0 0, BitVec.ofNat 64 t2, BitVec.ofNat 64 (t2 + res)] false), none)))

/-- PDRESP_FRAME (R219): d = ((t4 − t1) − (t3 − t2)) / 2 joins the port's last eight results; at the HEAD the bound follows. -/
def execPdrespFrame (p : Fin 2) (f : TribFrame) (sub : Fin 16) (s : State) : Out :=
  done (s.receive p f (fun s =>
    if fType f != 4 || fKind f != 2 then (s, none)
    else
      let t4 : Int := (16 * s.now + sub.val : Nat)
      let d := truncDiv ((t4 - fBlock f 0) - ((fBlock f 2 : Int) - fBlock f 1)) 2
      ((((s.judgeNbr p (fSrc f)).onPort p (fun x => { x with delays := (d :: x.delays).take 8 })).rebound), none)))

/-- FSUM_SEND (R210): each control cycle PERIODIC, or EVENT once severity, husk or ports have changed since the last summary, by a JOINED
member. -/
def execFsumSend (event : Bool) (s : State) : Out :=
  done (if s.chain.role == .member && s.chain.mstate == .joined &&
      (if event then s.fsumWatch != s.chain.fsumKey else s.past s.chain.fsumAt (usTicks s.chain.cyc)) then
    (s.sendFsum s.homePort (flag event)).onChain (fun c => { c with fsumAt := if event then c.fsumAt else s.mono })
  else s)

/-- FSUM_FRAME (R230): the HEAD takes a member's fault summary. -/
def execFsumFrame (p : Fin 2) (f : TribFrame) (s : State) : Out :=
  done (s.receive p f (fun s =>
    if s.chain.role == .head && fType f == 5 then (s.hearFsum f, none) else (s, some f)))

/-- EPN_NOTICE_SEND (R228, R213): the notice due after an increment or a change of topology, and one every 1 ms. -/
def execEpnNoticeSend (s : State) : Out :=
  done (if s.headSends && (s.chain.noticeDue || s.past s.chain.noticeAt (msTicks 1)) then
    let c := s.chain
    (s.sendHead 6 0 [BitVec.ofNat 64 (c.live + 2 ^ 8 * c.ndev + 2 ^ 12 * flag c.linear + 2 ^ 13 * c.brk + 2 ^ 16 * c.hops +
      2 ^ 24 * s.fld Reg.tribCfg 16 12)]).onChain (fun c => { c with noticeDue := false, noticeAt := s.mono })
  else s)

/-- A notice accepted by a member (R207, R208, R229): epoch and topology adopted, and the member's state. DEDUCED (log entry 56): the member
is admitted by a newer notice whose LIVE includes it where the LIVE it last held did not. -/
def State.adoptNotice (s : State) (f : TribFrame) : State :=
  let b := fBlock f 0
  let newer := fEpoch f != s.chain.epoch
  let inLive := (bitsAt b 0 8).testBit s.chain.pos
  let admitted := newer && inLive && !s.chain.live.testBit s.chain.pos
  let t := s.onChain (fun c => { c with
    epoch := fEpoch f, live := bitsAt b 0 8, ndev := bitsAt b 8 4, knowsNdev := true, linear := b.testBit 12,
    brk := bitsAt b 13 3, topseq := fTopseq f, hops := bitsAt b 16 8, bound := 240 + 60 * bitsAt b 16 8,
    cyc := bitsAt b 24 12, joining := c.joining && inLive })
  let u := t.when (newer || fTopseq f != s.chain.topseq) State.chainEvent
  match s.chain.mstate with
  | .alone => u.onChain (fun c => { c with mstate := .listen })
  | .listen | .excluded => u.when admitted (fun u => u.onChain (fun c => { c with joining := true }))
  | .joined => if inLive then u.onChain (fun c => { c with contactAt := s.mono }) else u.leaveChain .excluded
  | .lost => if !inLive then u.leaveChain .excluded else u.when admitted (fun u => u.onChain (fun c => { c with joining := true }))

/-- EPN_NOTICE_FRAME (R229): a notice from SRC 0 that is newer than the member's epoch, or of its own epoch, is adopted; an older one
is dropped and counted. -/
def execEpnNoticeFrame (p : Fin 2) (f : TribFrame) (s : State) : Out :=
  done (s.receive p f (fun s =>
    if s.chain.role != .member || fType f != 6 || fKind f != 0 || fSrc f != 0 then (s, some f)
    else if (fEpoch f + 65536 - s.chain.epoch) % 65536 > 32767 then
      (s.onChain (fun c => { c with oldNotices := satAdd 32 c.oldNotices 1 }), none)
    else (s.adoptNotice f, some f)))

/-- JOIN_REQ_SEND (R207, R231): every 100 µs in LISTEN, LOST and EXCLUDED, not while SAVED, with the last epoch held. -/
def execJoinReqSend (s : State) : Out :=
  done (if s.chain.role == .member && !s.saved &&
      (s.chain.mstate == .listen || s.chain.mstate == .lost || s.chain.mstate == .excluded) &&
      s.past s.chain.joinAt (usTicks 100) then
    (s.sendHome s.homePort 6 1 [BitVec.ofNat 64 (s.chain.epoch + 2 ^ 16 * s.chain.mstate.code)]).onChain
      (fun c => { c with joinAt := s.mono })
  else s)

/-- A held join request admitted by the TRIB_FORM or TRIB_ADMIT that waits for it (R208, R236). -/
def State.admitWaiting (s : State) (q : Nat) : State :=
  match s.chain.admitting, s.chain.form with
  | some a, _ =>
    if a.want == 2 ^ q then
      let t := (s.admitMember q).onChain (fun c => { c with admitting := none })
      t.answer Op.tribAdmit a.packet Status.ok 0 [word t.chain.epoch]
    else match s.chain.form with
      | some w => if w.want.testBit q then
          (s.admitMember q).onChain (fun c => { c with form := some { w with got := w.got ||| 2 ^ q } }) else s
      | none => s
  | none, some w => if w.want.testBit q then
      (s.admitMember q).onChain (fun c => { c with form := some { w with got := w.got ||| 2 ^ q } }) else s
  | none, none => s

/-- JOIN_REQ_FRAME (R207, R230): the HEAD holds the request, or declares a live sender dead. -/
def execJoinReqFrame (p : Fin 2) (f : TribFrame) (s : State) : Out :=
  done (s.receive p f (fun s =>
    let q := fSrc f
    if s.chain.role != .head || fType f != 6 || fKind f != 1 then (s, some f)
    else if q = 0 || decide (q ≥ s.chain.ndev) then (s, none)
    else if s.chain.live.testBit q then (s.declareDead q, none)
    else ((s.onMember q (fun m => { m with req := true })).admitWaiting q, none)))

/-- CONTROL_CYCLE_END (R230): each live member without a fault summary in the cycle has one miss. -/
def execControlCycleEnd (s : State) : Out :=
  done (if s.chain.role == .head && s.past s.chain.cycleAt (usTicks (s.fld Reg.tribCfg 16 12)) then
    let t := s.each (s.livePeers.filter (fun q => !(s.member q).heard)) (fun s q => s.miss q)
    (t.each (List.range 8) (fun s q => s.onMember q (fun m => { m with heard := false }))).onChain
      (fun c => { c with cycleAt := s.mono })
  else s)

/-- MEMBER_CONTACT_TIMEOUT (R231): 3 × CYC without a frame of the HEAD with the current epoch. -/
def execMemberContactTimeout (s : State) : Out :=
  done (if s.past s.chain.contactAt (usTicks (3 * s.chain.cyc)) then s.loseContact else s)

/-- TRIB_FRAME_FORWARD (R212 to R214): a frame of which this device makes no use is checked, counted and forwarded. -/
def execTribFrameForward (p : Fin 2) (f : TribFrame) (s : State) : Out :=
  done (s.receive p f (fun s => (s, if fType f == 4 && fKind f != 0 then none else some f)))

/-- TRIB_FORM_DONE (R236): the 1 ms of TRIB_FORM has run out; it completes with the positions admitted. -/
def execTribFormDone (s : State) : Out :=
  done (match s.chain.form with
    | some a => if s.past a.start (msTicks 1) then
        (s.onChain (fun c => { c with form := none })).answer Op.tribForm a.packet Status.ok 0 [word a.got]
      else s
    | none => s)

end Sys2Proof.Machine
end

