-- ==== Sys2Proof/Machine/Flags.lean ====
section
/-! DEFINITION. What every register reads as: the read-only fields as views of the state of their units, over the words the
register file holds (the Field and Content columns of the register tables). -/

namespace Sys2Proof.Machine

/-- A word with fields given as (lowest bit, width, value) put in. -/
def setFields (w : Word) (fs : List (Nat × Nat × Nat)) : Word := fs.foldl (fun w f => setField w f.1 f.2.1 f.2.2) w

/-- A number in n bits that does not wrap. -/
def cap (n v : Nat) : Nat := min v (2 ^ n - 1)

/-- The level driven on READY (R433). -/
def State.readyPin (s : State) : Bool := s.pwr.boot == .ready && !s.saved && s.bist.full != .running

/-! Lamp strings (chapter 02). -/

/-- LMP_SSTAT. -/
def State.sstatWord (s : State) (i : Nat) : Word :=
  let x := s.str i
  pack [(24, bitsOf ((lampsOf i).map (fun l => (s.prv l).active))), (20, bitsOf ((lampsOf i).map (fun l => (s.prv l).retired.isSome))),
    (17, flag (x.state == .cut || x.state == .sagCut)), (16, flag (decide (s.target i < confCur s.conf i))),
    (15, flag (x.state == .rampUp || x.state == .rampDown)), (12, x.state.code), (0, x.cur % 1024)]

/-- LMP_GSTAT. KF is k in whole percent, rounded down (DEDUCED). -/
def State.gstatWord (s : State) (g : Nat) : Word :=
  let x := s.group g
  pack [(25, x.kf / 400), (16, railCode x.measMv), (14, flag (s.drvHeld g)), (13, flag (!s.drvHeld g)), (12, flag x.oc),
    (11, flag x.ov), (10, flag x.uv), (9, flag (x.setpoint != x.target)), (0, railCode x.target)]

/-- LMP_GTEMP. -/
def State.gtempWord (s : State) (g : Nat) : Word :=
  pack [(16, unsigned 12 (s.ntcTemp g)), (0, unsigned 12 (s.deratingInput g))]

/-- LMP_LTRIM (R53): the image's trim part where one is in force, else the factory value. -/
def State.ltrimWord (s : State) (l : Nat) : Word :=
  match s.lamps.trim.find? (fun e => e.1 == l) with
  | some e => pack [(6, 1), (0, field e.2 0 6)]
  | none => pack [(0, field (Tab.get (fun _ => 0) s.otp.trim l) 0 6)]

/-- Chapter 02 registers. -/
def State.lmpView (s : State) (base i : Nat) (w : Word) : Word :=
  if base = Reg.lmpSstat 0 then s.sstatWord i
  else if base = Reg.lmpGstat 0 then s.gstatWord i
  else if base = Reg.lmpGtemp 0 then s.gtempWord i
  else if base = Reg.lmpLtrim 0 then s.ltrimWord i
  else w

/-! Streams and return inputs (chapter 03). -/

/-- Whether a frame is pending on a stream. -/
def Stream.pends (x : Stream) : Bool :=
  x.sagPend || x.huskPend || x.newPend.isSome || x.restartPend || x.repeatPend || x.idlePend

/-- Whether a retired lamp's waveform is carried by its spare (R113). -/
def State.onSpare (s : State) (l : Nat) : Bool :=
  (s.prv l).retired.isSome && (match s.smOfLamp l with
    | some sm => (s.smt sm).spv && (s.prv (s.smt sm).spare).active
    | none => false)

/-- ASP_LSTAT over its REFUSED flag. -/
def State.lstatWord (s : State) (l : Nat) (w : Word) : Word :=
  let x := s.stream l
  let framed := confFramed s.conf l
  setFields w [(30, 2, x.content.aspect.code), (29, 1, flag (x.content.aspect == .insert && x.content.pwm)), (28, 1, flag x.fade.isSome),
    (24, 4, if framed then x.seq else 0), (23, 1, flag (framed && x.pends)), (22, 1, flag x.husked), (21, 1, flag (s.onSpare l)),
    (0, 17, s.litDuty l)]

/-- ASP_RSTAT over its flags. -/
def State.rstatWord (s : State) (n : Nat) (w : Word) : Word :=
  let x := s.ret n
  setFields w [(24, 8, cap 8 x.crc), (16, 8, cap 8 x.framing), (8, 8, x.good), (1, 1, flag (x.los && x.state != .disabled)),
    (0, 1, flag (x.state == .sync))]

/-- Chapter 03 registers. -/
def State.aspView (s : State) (base i : Nat) (w : Word) : Word :=
  if base = Reg.aspLstat 0 then s.lstatWord i w
  else if base = Reg.aspRstat 0 then s.rstatWord i w
  else w

/-! Lamp proving (chapter 04). -/

/-- PRV_LSTAT.STATE (R138, R154). DESIGN CHOICE (log entry 95): a position both STUCK and RETIRED shows STUCK. -/
def State.lampState (s : State) (l : Nat) : Nat :=
  let p := s.prv l
  let m := confMode s.conf l
  if (m != 1 && m != 2) || confCur s.conf (strOf l) == 0 then 0
  else if p.stuck then 5
  else if p.retired.isSome then 4
  else if p.active then 3
  else if m == 2 then 2 else 1

/-- PRV_LSTAT over its flags. -/
def State.plstatWord (s : State) (l : Nat) (w : Word) : Word :=
  let p := s.prv l
  setFields w [(16, 16, p.epoch), (12, 3, match p.lastLit with | some v => v.code | none => 0),
    (5, 3, match p.retired with | some c => c.code | none => 0), (3, 2, match p.lastTrk with | some v => v.code | none => 0),
    (0, 3, s.lampState l)]

/-- The lamps that satisfy a test of their proving state; lamps never touched do not. -/
def State.proveCount (s : State) (f : Prove → Bool) : Nat := (s.lamps.prove.filter (fun e => f e.2)).length

/-- Chapter 04 registers. -/
def State.prvView (s : State) (base i : Nat) (w : Word) : Word :=
  if base = Reg.prvStat then
    pack [(16, s.proveCount (fun p => p.starvedLast)), (0, s.proveCount (fun p => p.retired.isSome))]
  else if base = Reg.prvLfault 0 then
    word (bitsOf ((List.range 32).map (fun b => let p := s.prv (32 * i + b); p.retired.isSome || p.stuck || p.starvedLast)))
  else if base = Reg.prvLstat 0 then s.plstatWord i w
  else w

/-! The Weir selector (chapter 05). -/

/-- WEIR_AUSTAT. EPOCH is the role epoch of the arm a serving unit or stand-in holds (DEDUCED), 0 for a spare or UNUSABLE unit. -/
def State.austatWord (s : State) (u : Nat) : Word :=
  let x := s.unit u
  pack [(16, if x.role == .inService || x.role == .riffle then (s.arm x.arm).epoch else 0), (8, cap 8 x.revenant),
    (6, flag x.rebuild.isSome), (4, x.role.code), (0, x.arm % 8)]

/-- Chapter 05 registers. -/
def State.weirView (s : State) (base i : Nat) (w : Word) : Word :=
  if base = Reg.weirAstat 0 then
    setFields w [(28, 4, (s.arm i).unit), (14, 1, flag (s.unit (s.arm i).unit).rebuild.isSome), (13, 1, flag (s.devHusk || s.armHusk i))]
  else if base = Reg.weirAustat 0 then s.austatWord i
  else w

/-! The Tributary chain (chapter 06). -/

/-- TRIB_PSTAT over its flags. LOCK reads as UP does. -/
def State.pstatWord (s : State) (p : Nat) (w : Word) : Word :=
  let x := s.port p
  setFields w [(16, 16, unsigned 16 x.delay), (13, 3, x.nbr.getD 0), (12, 1, flag x.wiring), (4, 1, flag x.los),
    (2, 1, flag (s.portUsed p)), (1, 1, flag x.up), (0, 1, flag x.up)]

/-- TRIB_MSTAT. -/
def State.mstatWord (s : State) (q : Nat) : Word :=
  let m := s.member q
  pack [(24, cap 8 m.revenant), (16, m.armHusk % 256), (13, m.sev % 8), (12, flag m.devHusk), (8, cap 4 m.miss), (7, flag m.req),
    (6, flag m.stale), (5, flag m.dead), (4, flag (s.chain.live.testBit q))]

/-- Chapter 06 registers. -/
def State.tribView (s : State) (base i : Nat) (w : Word) : Word :=
  let c := s.chain
  if base = Reg.tribRole then
    pack [(16, if c.role == .solo then 1 else c.ndev), (11, flag c.posCmd), (8, c.pos),
      (4, if c.role == .member then c.mstate.code else 0), (0, c.role.code)]
  else if base = Reg.tribStat then setFields w [(16, 16, c.epoch), (8, 8, c.live), (5, 3, if c.linear then c.brk else 0), (4, 1, flag c.linear)]
  else if base = Reg.tribLat then
    pack [(24, c.topseq % 256), (16, cap 8 c.hops), (0, if c.role == .solo then 0 else cap 16 c.bound)]
  else if base = Reg.tribPstat 0 then s.pstatWord i w
  else if base = Reg.tribMstat 0 then s.mstatWord i
  else w

/-! The task fabric and the recorder (chapter 07). -/

/-- FAB_DSTAT.SIZE: 1, 2, 4 or 8 GB of 64 KB pages. -/
def dramSize (pages : Nat) : Nat :=
  if pages = 0 then 0 else if pages ≤ 16384 then 1 else if pages ≤ 32768 then 2 else if pages ≤ 65536 then 3 else 4

/-- FAB_DSTAT (R258, R259, R269). FREE holds 17 bits: 131,072 free pages read as 131,071 (DEDUCED). -/
def State.dstatWord (s : State) : Word :=
  pack [(8, cap 17 s.freePages), (5, flag (s.pwr.phase == .saved && s.fab.dram.total != 0)),
    (4, flag ((s.pwr.boot == .ready || s.pwr.boot == .seed) && s.fab.dram.total == 0)), (3, flag (s.fab.dram.total != 0)),
    (0, dramSize s.fab.dram.total)]

/-- FAB_ESTAT. -/
def State.estatWord (s : State) (e : Nat) : Word :=
  let x := s.engine e
  pack [(16, if x.state == .spare || x.state == .dead || x.state == .unusable then 0 else x.epoch), (8, cap 8 x.revenant),
    (5, x.state.code), (0, x.role % 16)]

/-- Chapter 07 registers of the fabric. -/
def State.fabView (s : State) (base i : Nat) (w : Word) : Word :=
  if base = Reg.fabStat then
    pack [(16, s.usedEntries), (8, ((List.range 18).filter s.spareEngine).length), (0, ((List.range 16).filter s.roleServed).length)]
  else if base = Reg.fabList 0 then setField w 16 12 (s.rlist i).entries.length
  else if base = Reg.fabPstat 0 then setField w 0 12 (s.heldBy i)
  else if base = Reg.fabEstat 0 then s.estatWord i
  else if base = Reg.fabDstat then s.dstatWord
  else if base = Reg.fabAuse 0 then word (cap 17 (s.usedPages i))
  else w

/-- Chapter 07 registers of the recorder. -/
def State.recView (s : State) (base i : Nat) (w : Word) : Word :=
  if base = Reg.recStat then
    pack [(16, ((List.range 16).map (fun k => (s.strm k).caps.length)).sum), (0, bitsOf ((List.range 16).map (fun k => (s.strm k).state != .off)))]
  else if base = Reg.recSstat 0 then
    setFields w [(29, 3, (s.strm i).state.code), (24, 4, (s.strm i).caps.length), (0, 17, cap 17 (s.strm i).pages)]
  else if base = Reg.recSdrop 0 then word (s.strm i).drops
  else w

/-! Host interfaces (chapter 08). -/

/-- HOST_QSTAT over its DBERR flag. -/
def State.qstatWord (s : State) (q : Nat) (w : Word) : Word :=
  let x := s.queue q
  setFields w [(22, 10, x.cqTail), (12, 10, x.sqHead), (5, 1, flag x.phase), (4, 1, flag x.holding), (3, 1, flag x.err),
    (1, 1, flag (!x.enabled && x.running.isNone && x.due.isEmpty && !x.stopping)), (0, 1, flag (x.enabled && !x.err && !x.stopping))]

/-- Chapter 08 registers. -/
def State.hostView (s : State) (base i : Nat) (w : Word) : Word :=
  if base = Reg.hostStat then setField w 8 1 (flag s.hostSel)
  else if base = Reg.hostQstat 0 then s.qstatWord i w
  else w

/-! Field inputs and outputs (chapter 09). -/

/-- Chapter 09 registers. -/
def State.fioView (s : State) (base _i : Nat) (w : Word) : Word :=
  let f := s.fio
  if base = Reg.fioStat then setFields w [(5, 1, flag f.nextA5), (3, 1, flag (!f.drive)), (2, 1, flag f.silent), (0, 1, flag f.fault)]
  else if base = Reg.fioIn then word (bitsOf ((List.range 32).map (fun k => (s.fin k).running && (s.fin k).state)))
  else if base = Reg.fioOstat then word (bitsOf ((List.range 16).map (fun k => (s.fout k).on)))
  else if base = Reg.fioFltcfg then
    setFields w [(17, 1, if f.pinBad then flag f.pinN else flag (!f.drive)), (16, 1, if f.pinBad then flag f.pinP else flag (!f.drive))]
  else w

/-! Measurement (chapter 10). -/

/-- MSR_CVRUN over its URGREF flag. -/
def State.cvrunWord (s : State) (ad : Nat) (w : Word) : Word :=
  let c := s.conv ad
  let entryRun := match c.run with | some r => some r.entry.isSome | none => none
  setFields w [(16, 16, c.loops), (12, 4, c.urgent.length), (10, 1, flag c.house), (9, 1, flag (entryRun == some false)),
    (8, 1, flag (entryRun == some true)), (0, 6, c.shown)]

/-- Chapter 10 registers. -/
def State.msrView (s : State) (base i : Nat) (w : Word) : Word :=
  if base = Reg.msrCalstat then
    setFields w [(16, 4, bitsOf ((List.range 4).map (fun ad => (s.conv ad).pendingZero.isSome))), (0, 16, s.msr.cals.length)]
  else if base = Reg.msrCvrun 0 then s.cvrunWord i w
  else if base = Reg.msrAset 0 then (s.acc (i / 16)).words.getD (i % 16) 0
  else w

/-! Faults (chapter 11). -/

/-- FLT_SUM.SEV (R370): the highest severity over every code in ACTIVE or LATCHED. -/
def State.activeSev (s : State) : Nat :=
  let sevs := s.flt.codes.filterMap (fun e => if e.2.state == .active || e.2.state == .latched then e.2.sev else none)
  if sevs.isEmpty then 7 else sevs.foldl max 0

/-- A word of an entry held in a register, 0 where there is none. -/
def entryWord (e : Option LogEntry) (k : Nat) : Word := match e with | some x => x.words.getD k 0 | none => 0

/-- The index of the newest entry in the ring of 256 (R387). -/
def State.logHead (s : State) : Nat := (s.flt.logged + 255) % 256

/-- The entry at a ring index. -/
def State.logAt (s : State) (j : Nat) : Option LogEntry := s.flt.log[(s.logHead + 256 - j % 256) % 256]?

/-- FLT_CSTAT. -/
def State.cstatWord (s : State) (code : Nat) : Word :=
  let c := s.code code
  pack [(16, cap 16 c.rcnt), (14, flag c.foAct), (13, flag c.fltRel), (12, flag c.devh), (4, c.arms % 256), (3, flag (s.wirePresent code)),
    (2, flag (s.causePresent code)), (0, c.state.code)]

/-- The arms husked in all (FLT_SUM.ARMHUSK). -/
def State.armHusks (s : State) : Nat := bitsOf ((List.range 8).map (fun a => s.armHusk a))

/-- FLT_SUM over its NEW flag. -/
def State.sumWord (s : State) (w : Word) : Word :=
  setFields w [(16, 16, (s.flt.codes.filter (fun e => e.2.state != .idle)).length), (8, 8, s.armHusks), (5, 1, flag (!s.fio.drive)),
    (4, 1, flag s.devHusk), (0, 3, s.activeSev)]

/-- FLT_HUSK. -/
def State.huskWord (s : State) : Word :=
  pack [(24, bitsOf ((List.range 8).map (fun a => codeTable.any (fun r => s.held r.code && (s.code r.code).arms.testBit a)))),
    (11, flag (s.held Code.chainLost)), (10, flag s.scanHusk), (9, flag (s.bit Reg.fltHold 8)), (8, flag s.devFlt)]

/-- Chapter 11 registers. -/
def State.fltView (s : State) (base i : Nat) (w : Word) : Word :=
  if base = Reg.fltSum then s.sumWord w
  else if base = Reg.fltLogptr then
    pack [(31, flag s.flt.first.isSome), (24, flag s.flt.log.isEmpty), (16, if s.flt.log.isEmpty then 0 else s.logHead), (0, s.flt.seq)]
  else if base = Reg.fltHusk then s.huskWord
  else if base = Reg.fltInj then
    (match s.flt.inj with | some j => pack [(24, j.remain % 256), (8, j.checker % 256), (0, 1)] | none => 0)
  else if base = Reg.fltFirst 0 then entryWord s.flt.first i
  else if base = Reg.fltNewest 0 then entryWord s.flt.log.head? i
  else if base = Reg.fltActmap 0 then
    word (bitsOf ((List.range 32).map (fun b => s.held (codeOfIdx (32 * i + b)))))
  else if base = Reg.fltCstat 0 then s.cstatWord (codeOfIdx i)
  else if base = Reg.fltLogwin 0 then entryWord (s.logAt (i / 8)) (i % 8)
  else w

/-! Riffle and the life cycle (chapter 12). -/

/-- Chapter 12 registers. -/
def State.bistView (s : State) (base i : Nat) (w : Word) : Word :=
  let b := s.bist
  if base = Reg.bistStat then
    pack [(16, b.rots % 65536), (12, if b.full == .running then 6 else (match b.slice with | some x => x.phase.code | none => 0)),
      (0, b.lastBlock % 512)]
  else if base = Reg.bistBstat 0 then setField w 0 2 (s.blkState i)
  else w

/-- GEN registers (chapters 01 and 12). -/
def State.genView (s : State) (base _i : Nat) (w : Word) : Word :=
  if base = Reg.genId then s.genId
  else if base = Reg.genTimeLo then lo32 s.now
  else if base = Reg.genTimeHi then hi32 s.now
  else if base = Reg.genLcs then
    setFields w [(16, 2, flag s.bist.halfR.isSome + 2 * flag s.bist.halfS.isSome), (8, 1, flag s.bist.nonce.isSome), (0, 3, s.lcs)]
  else if base = Reg.genTsync then
    (if s.chain.role == .member then w else setField w 0 1 (flag (s.bit Reg.genClkstat 0)))
  else w

/-! Power (chapter 13). -/

/-- PWR_STAT over its VINHI flag. -/
def State.pwrWord (s : State) (w : Word) : Word :=
  let p := s.pwr
  setFields w [(27, 5, p.good), (22, 5, p.enabled), (14, 1, flag p.holdLow), (13, 1, flag p.holdok), (12, 1, flag p.hgate),
    (11, 1, flag p.boost), (10, 1, flag p.vinok), (9, 1, flag s.readyPin), (0, 2, p.phase.code)]

/-- Chapter 13 registers. -/
def State.pwrView (s : State) (base _i : Nat) (w : Word) : Word :=
  let p := s.pwr
  if base = Reg.pwrStat then s.pwrWord w
  else if base = Reg.pwrSagcnt then pack [(16, cap 16 p.sags), (0, cap 16 p.glitches)]
  else if base = Reg.pwrSagtLo then lo32 p.sagTime
  else if base = Reg.pwrSagtHi then hi32 p.sagTime
  else if base = Reg.pwrKeepstat then
    pack [(16, cap 16 p.keep.us), (3, flag (p.keep.state == .started)), (2, flag p.keep.consumed), (1, flag p.restored),
      (0, flag (p.keep.state == .valid && p.keep.torn.isNone))]
  else if base = Reg.pwrSeq then pack [(16, cap 16 p.retries), (0, p.lastRail % 8)]
  else w

/-! Firmware update (chapter 14). -/

/-- The record in force (R449, R451): of the valid copies the one with the higher SEQ; with none, slot A active and no trial. -/
def State.bootRec (s : State) : BootRec :=
  match s.upd.mram, s.upd.ring.head? with
  | some a, some b => if a.seq < b.seq then b else a
  | some a, none => a
  | none, some b => b
  | none, none => .default

/-- What a boot record says of a slot (0 A, 1 B). -/
def BootRec.slot (r : BootRec) (n : Nat) : SlotRec := if n = 0 then r.a else r.b

/-- A flash device. -/
def State.dev (s : State) (n : Nat) : FlashDev := if n = 0 then s.upd.devA else s.upd.devB

/-- The settings in force in a slot (R454): of its valid halves the one with the higher SEQ. -/
def FlashDev.settings (d : FlashDev) : Option SetHalf :=
  match d.half0, d.half1 with
  | some a, some b => if a.seq < b.seq then some b else some a
  | some a, none => some a
  | none, h => h

/-- The settings of the running slot; the Seed ROM has none. -/
def State.settings (s : State) : Option SetHalf := if s.upd.run < 2 then (s.dev s.upd.run).settings else none

/-- Whether the running image is on trial (R451, R453). -/
def State.onTrial (s : State) : Bool := s.bootRec.trial && s.upd.run == s.bootRec.active && s.upd.stage == .trial

/-- Seconds left of the confirm window, rounded up (DEDUCED). -/
def State.windowLeft (s : State) : Nat :=
  match s.upd.window with
  | some t => if s.upd.stage == .trial then
      cap 15 (ceilDiv (t + 60 * s.bootRec.window * 1000 * msTicks 1 - s.mono) (1000 * msTicks 1)) else 0
  | none => 0

/-- UPD_SLOT of a slot. -/
def SlotRec.slotWord (x : SlotRec) : Word :=
  pack [(16, x.version / 65536 % 65536), (4, x.svn % 4096), (3, flag x.unsignedImg), (0, x.state.code)]

/-- Chapter 14 registers. PCT is a free value while an operation runs: the spec does not say how far its tasks have come. -/
def State.updView (s : State) (base i : Nat) (w : Word) : Word :=
  let u := s.upd
  let r := s.bootRec
  if base = Reg.updStat then
    pack [(28, r.fbcause % 8), (27, flag u.nofb), (26, flag s.onTrial), (24, u.run % 4), (16, u.detail % 256), (8, u.result % 256),
      (4, flag u.op.isSome), (0, u.stage.code)]
  else if base = Reg.updProg then
    pack [(25, if u.stage == .apply || u.stage == .verify then Config.freeNat s.free % 101 else 0), (0, cap 17 u.chunks.length)]
  else if base = Reg.updPlen then word (if u.stage == .download || u.stage == .downloaded then u.plen else 0)
  else if base = Reg.updSlot 0 then (r.slot i).slotWord
  else if base = Reg.updBoot then
    pack [(16, r.svnMin % 65536), (5, flag u.fvalid), (4, flag u.mvalid), (2, r.tries % 4), (0, r.active % 2)]
  else if base = Reg.updBseq then word r.seq
  else if base = Reg.updTrialt then word s.windowLeft
  else if base = Reg.updSetstat then
    pack [(27, match s.settings with | some h => flag h.auto | none => 0), (24, u.migr % 8), (16, cap 8 u.refused),
      (0, match s.settings with | some h => h.sver % 65536 | none => 0)]
  else w

/-- What a register reads as by its block's view. -/
def State.view (s : State) (base i : Nat) (w : Word) : Word :=
  match base / 0x10000 with
  | 0x0 => s.genView base i w
  | 0x1 => s.pwrView base i w
  | 0x2 => s.hostView base i w
  | 0x3 => s.fltView base i w
  | 0x4 => s.lmpView base i w
  | 0x5 => s.aspView base i w
  | 0x6 => s.prvView base i w
  | 0x7 => s.weirView base i w
  | 0x8 => s.tribView base i w
  | 0x9 => s.fabView base i w
  | 0xA => s.msrView base i w
  | 0xB => s.fioView base i w
  | 0xC => s.bistView base i w
  | 0xD => s.updView base i w
  | 0xE => s.recView base i w
  | _ => w

/-- A read of a register by its BAR0 offset (R12, R13): 0 where no register is; the view of the block elsewhere. A read has no effect but
those of the rows of R35, R282 and R283. -/
def State.readReg (s : State) (off : Nat) : Word :=
  match findRow off with
  | none => 0
  | some r => s.view r.base ((off - r.base) / r.stride) (s.reg off)

end Sys2Proof.Machine
end

