-- ==== Sys2Proof/Machine/Weir.lean ====
section
/-! DEFINITION. The meanings of the Weir rows (chapter 05). -/

namespace Sys2Proof.Machine

/-! Commits. -/

/-- A spanned arm taken at the HEAD: its snapshot is made here, and its decision follows the round (R180, R222). -/
def State.snapForRound (s : State) (a : Nat) : State :=
  let t := s.snapshotArm a
  t.onArm a (fun x => { x with deferred := x.deferred ++ State.newlyStale s t a })

/-- Whether a taken arm is decided by a round over the chain (R180, R222). -/
def State.byRound (s : State) (a : Nat) : Bool := s.spans a && s.chain.role == .head && !s.livePeers.isEmpty

/-- One arm bit of a commit acted on (R179): held, or taken and decided here. -/
def State.actOn (s : State) (a : Nat) (v : Verdict) : State :=
  match v with
  | .held => s.holdArm a (s.fld (Reg.weirAref0 a) 0 11)
  | .taken =>
    if s.byRound a then s.snapForRound a
    else s.takeArm a (s.fld (Reg.weirAref0 a) 0 11) (s.bit (Reg.weirAref0 a) 15) (s.fld (Reg.weirAref0 a) 16 8)
      (s.fld (Reg.weirAref1 a) 0 16)
  | _ => s

/-- A commit of the arms of a mask in one CCLK (R179, R180). -/
def State.commitArms (s : State) (mask : Nat) : State :=
  let vs := ((List.range 8).filter (fun a => mask.testBit a)).map
    (fun a => (a, s.verdict a (s.fld (Reg.weirAref0 a) 0 11) false))
  let t := (s.recordCommit vs).each vs (fun t v => t.actOn v.1 v.2)
  t.startRounds ((vs.filter (fun v => v.2 == .taken && s.byRound v.1)).map (fun v => t.armRef v.1))

/-- WEIR_ACOMMIT written (R179). -/
def State.writeAcommit (s : State) (v : Word) : State :=
  if s.served then s.commitArms (field v 0 8) else s

/-- WEIR_ACOMMIT written (R179). -/
def execWeirAcommit (v : Word) (s : State) : Out := done (s.writeAcommit v)

/-- WEIR_ACFG written (R168): AUTH takes effect at once; AUTH 3 and STALE 0 are not taken. -/
def execWeirAcfgWrite (a : Fin 8) (v : Word) (s : State) : Out :=
  done (if s.served then s.writeReg (Reg.weirAcfg a) v else s)

/-- WEIR_SNAPSEL written (R175): the entry is copied to WEIR_SNAP. -/
def State.writeSnapsel (s : State) (v : Word) : State :=
  if s.served then
    (s.writeReg Reg.weirSnapsel v).each (List.range 16) (fun t k =>
      t.setReg (Reg.weirSnap k) ((s.smtWords (field v 0 12)).getD k 0))
  else s

/-- WEIR_SNAPSEL written (R175). -/
def execWeirSnapselWrite (v : Word) (s : State) : Out := done (s.writeSnapsel v)

/-! Entry writes. -/

/-- WEIR_WRSEL written (R173): with GO, WEIR_WRBUF is written to the entry and WEIR_WRSTAT records the outcome. -/
def State.writeWrsel (s : State) (v : Word) : State :=
  if s.served then
    let t := s.writeReg Reg.weirWrsel v
    if wbit v 31 then
      let sm := field v 0 12
      let r := t.tryEntry sm ((List.range 4).map (fun k => t.reg (Reg.weirWrbuf k)))
      r.2.setReg Reg.weirWrstat (match r.1 with
        | some f => pack [(0, f.1), (8, f.2), (16, sm)]
        | none => pack [(16, sm)])
    else t
  else s

/-- WEIR_WRSEL written with GO (R173). -/
def execWeirWrselGo (v : Word) (s : State) : Out := done (s.writeWrsel v)

/-- WEIR_SMT_WRITE (R173, R200). -/
def execWeirSmtWrite (p : Packet) (s : State) : Out :=
  done (s.command Op.weirSmtWrite p (fun s =>
    let r := s.tryEntry (field (p.word 0) 0 12) [p.word 1, p.word 2, p.word 3, p.word 4]
    match r.1 with
    | some f => s.reply f.1 f.2 [word f.2]
    | none => r.2.reply Status.ok 0 [0]))

/-- Entry records of 16 bytes written from an SM id on, until the first refusal (R200): entries written, the refusal with its SM id,
the state. -/
def State.loadEntries (at_ : Nat) : Nat → Nat → Nat → State → Nat × Option (Nat × Nat × Nat) × State
  | 0, _, n, s => (n, none, s)
  | k + 1, sm, n, s =>
    let r := s.tryEntry sm (wordsOf 4 (s.dmaRead (at_ + 16 * n) 16))
    match r.1 with
    | some f => (n, some (f.1, f.2, sm), s)
    | none => State.loadEntries at_ k (sm + 1) (n + 1) r.2

/-- Whether a first SM id and a count stay within the table (R200). -/
def smRangeOk (w : Word) : Bool :=
  decide (1 ≤ field w 16 13) && decide (field w 16 13 ≤ 4096) && decide (field w 0 12 + field w 16 13 ≤ 4096)

/-- WEIR_SMT_LOAD (R200): BUSY while an earlier load has not completed; entries before a refusal stay written. Where none is refused, the
spec gives no SM id of the first refusal. -/
def execWeirSmtLoad (p : Packet) (s : State) : Out :=
  done (s.command Op.weirSmtLoad p (fun s =>
    if !smRangeOk (p.word 0) then s.reply Status.badParam 0 []
    else if s.opRuns Op.weirSmtLoad (fun _ => true) then s.reply Status.busy 0 []
    else
      let r := State.loadEntries p.ptr.toNat (field (p.word 0) 16 13) (field (p.word 0) 0 12) 0 s
      match r.2.1 with
      | some f => r.2.2.reply f.1 f.2.1 [word r.1, word f.2.1, word f.2.2]
      | none =>
        let d := r.2.2.draw
        d.2.reply Status.ok 0 [word r.1, 0, word d.1]))

/-- WEIR_SMT_READ (R175, R200): images in host memory, and HLTH0 and HLTH1 cleared after the read where asked. -/
def execWeirSmtRead (p : Packet) (s : State) : Out :=
  done (s.command Op.weirSmtRead p (fun s =>
    if !smRangeOk (p.word 0) then s.reply Status.badParam 0 []
    else
      let sms := (List.range (field (p.word 0) 16 13)).map (fun k => field (p.word 0) 0 12 + k)
      let t := s.dmaWrite p.ptr.toNat (sms.flatMap (fun sm => bytesOf (s.smtWords sm)))
      (t.when (wbit (p.word 0) 31) (fun t => t.each sms (fun t sm => t.onSmt sm (fun e => { e with
        stalecnt := 0, gatecnt := 0, unavcnt := 0, pwmcnt := 0 })))).reply Status.ok 0 []))

/-- The entries of a WEIR_PIN packet, words 1 to COUNT. -/
def pinEntries (p : Packet) : List Word := (List.range (p.word 0).toNat).map (fun i => p.word (i + 1))

/-- Why one entry of a WEIR_PIN packet is refused (R173, R200): a reserved bit, an SM id that is not valid, or a check of an entry write. -/
def State.pinRefused (s : State) (w : Word) : Option (Nat × Nat) :=
  if w.toNat ≥ 2 ^ 14 then some (Status.badParam, 0x0A)
  else if !(s.smt (field w 0 12)).valid then some (Status.badParam, 0)
  else s.entryRefused (field w 0 12) (s.pinImage (field w 0 12) (field w 12 2))

/-- WEIR_PIN (R173, R189, R200): all pins in one CCLK, or none; the first refused entry gives the status and its number. -/
def execWeirPin (p : Packet) (s : State) : Out :=
  done (s.command Op.weirPin p (fun s =>
    let n := (p.word 0).toNat
    if n < 1 ∨ n > 11 then s.reply Status.badParam 0 [0xFF]
    else if (List.range 12).any (fun i => decide (i > n) && p.word i != 0) then s.reply Status.badParam 0x0A [0xFF]
    else
      let ws := pinEntries p
      match ws.findIdx? (fun w => (s.pinRefused w).isSome) with
      | some i =>
        let f := (s.pinRefused (ws.getD i 0)).getD (0, 0)
        s.reply f.1 f.2 [word i]
      | none => (s.each ws (fun t w => (t.writeEntry (field w 0 12) (t.pinImage (field w 0 12) (field w 12 2))).oneGen s
          (field w 0 12))).reply Status.ok 0 [0xFF]))

/-- WEIR_ARM_STATS (R200). -/
def execWeirArmStats (p : Packet) (s : State) : Out :=
  done (s.command Op.weirArmStats p (fun s =>
    let a := field (p.word 0) 0 3
    let c := (s.arm a).counters
    (s.when (wbit (p.word 0) 16) (fun t => t.onArm a (fun x => { x with counters := .reset }))).reply Status.ok 0
      ([c.taken, c.early, c.refused, c.held, c.emitted, c.discarded, c.capx, c.shortfalls].map word)))

/-- SMT_RANK_MOVE (R174): an entry made valid or moved stands in the rank list of its arm from now on. -/
def execSmtRankMove (sm : Fin 4096) (s : State) : Out :=
  done (if (s.smt sm).valid && (s.smt sm).moving.isSome then
    (s.causeSmt sm false (fun e => { e with moving := none, ranked := some e.vcap, rankPend := none })).reranked s (s.smt sm).arm
  else s)

/-! Arm units (R194 to R196, R405). -/

/-- A faulted unit taken from its arm and waiting for Riffle (R194). -/
def State.dropUnit (s : State) (u : Nat) : State :=
  (s.onUnit u (fun x => { x with role := .riffle, rebuild := none })).onBist
    (fun b => { b with waiting := b.waiting ++ [0x020 + u] })

/-- The slice in progress tests an arm unit directly, and that unit is a spare (R405). -/
def State.spareUnderTest (s : State) : Bool :=
  s.bist.slice.any (fun (x : Slice) => x.direct && !x.afterFail && !x.unusable && (match blkOf x.block with
    | some (.armUnit _) => true
    | _ => false))

/-- The slice in progress of an arm unit whose stand-in serves or prepares (R405). -/
def State.unitSlice (s : State) : Option Slice :=
  s.bist.slice.filter (fun x => x.standIn.isSome && (match blkOf x.block with
    | some (.armUnit _) => true
    | _ => false))

/-- AU_FAULT of a unit that serves an arm (R194, R196, R405): a free spare takes the arm; a spare in a slice takes it once the slice is
given up, the commits HELD until then; with no spare the unit is UNUSABLE. A round of the
arm that runs goes on without this device's part (R234). -/
def State.unitFails (s : State) (u : Nat) : State :=
  let a := (s.unit u).arm
  let t1 := if s.spareUnderTest then s.abortSlice else s
  match t1.spareUnit, t1.unitSlice with
  | some n, _ => ((t1.dropPart a).dropUnit u).giveArm n a true
  | none, some x =>
    if x.phase == .prepare then ((t1.dropPart a).dropUnit u).abortSlice
    else (((t1.dropPart a).dropUnit u).onUnit u (fun v => { v with rebuild := some s.mono })).abortToReinit
  | none, none =>
    (((t1.dropPart a).onUnit u (fun v => { v with role := .unusable, rebuild := none })).onBist
      (fun b => { b with unusable := if b.unusable.contains (0x020 + u) then b.unusable else (0x020 + u) :: b.unusable
        })).noSpareArm a (s.unit u).epoch

/-- AU_FAULT of the stand-in of a slice (R405): it waits for its own test, and the unit under test returns, the commits HELD
meanwhile. -/
def State.standInFails (s : State) (u : Nat) (x : Slice) : State :=
  if x.phase == .prepare then
    (s.onBist (fun b => { b with waiting := b.waiting ++ [0x020 + u] })).abortSlice
  else
    (((s.dropPart (s.unit u).arm).onBist (fun b => { b with waiting := b.waiting ++ [0x020 + u] })).onUnit u (fun v => { v with
      rebuild := some s.mono })).abortToReinit

/-- The report of AU_FAULT, with the epoch replaced and the arm's current one (R384). -/
def State.reportUnit (s : State) (code a old : Nat) : State :=
  s.report ⟨code, a, none, some a, epochData old (s.arm a).epoch, 0, s.now, false, false⟩

/-- AU_FAULT (R194): a unit without a role makes no checks and reports nothing. -/
def execAuFault (u : Fin 9) (s : State) : Out :=
  let x := s.unit u
  done (if !s.serving then s
    else match s.unitStandsIn u with
      | some sl =>
        if s.bist.waiting.contains (0x020 + u.val) then s
        else s.injecting (0x30 + u) 0 (fun s => (s.standInFails u sl).reportUnit Code.auFault x.arm x.epoch)
      | none =>
        if x.role == .inService then
          s.injecting (0x30 + u) 0 (fun s => (s.unitFails u).reportUnit Code.auFault x.arm x.epoch)
        else s)

/-- AU_REBUILD_DONE (R194, R199, R397, R398): the substitute is ready, or a unit of a slice has rebuilt. -/
def execAuRebuildDone (u : Fin 9) (s : State) : Out :=
  let x := s.unit u
  done (if (x.role == .inService || x.role == .riffle) && x.rebuild.isSome then
    (s.onUnit u (fun x => { x with rebuild := none })).when (x.role == .inService) (fun s => s.irq 34)
  else s)

/-- AU_REVENANT (R195): a write under an epoch that is not the current one is discarded, counted and reported. -/
def execAuRevenant (u : Fin 9) (s : State) : Out :=
  let x := s.unit u
  done (if x.epoch != (s.arm x.arm).epoch then
    (s.onUnit u (fun v => { v with revenant := satAdd 8 v.revenant 1 })).reportUnit Code.auRevenant x.arm x.epoch
  else s)

end Sys2Proof.Machine
end

