-- ==== Sys2Proof/Machine/Host.lean ====
section
/-! DEFINITION. The HOST family: queues, doorbells, the PCIe link, DMA errors, the UART, the console, the Fast Port clock, the
boundary scan (R273, R289 to R296, R303, R311 to R314). -/

namespace Sys2Proof.Machine

/-- SQ_FETCH (R291): one packet of the queue that the round robin serves next. -/
def execSqFetch (s : State) : Out :=
  done (if s.fetching && s.busMaster && s.linkUp then
    match s.nextQueue with
    | some q => s.fetchOne q
    | none => s
  else s)

/-- CQ_COMPLETION_WRITE (R292, R293). -/
def execCqCompletionWrite (q : Fin 32) (s : State) : Out := done (if s.clk.lost then s else s.nextCompletion q)

/-- INTERRUPT_COALESCE_TIMEOUT (R295). -/
def execInterruptCoalesceTimeout (q : Fin 32) (s : State) : Out :=
  let x := s.queue q
  let t := s.fld (Reg.hostQctl q) 24 8
  done (if x.unsignalled ≠ 0 && t ≠ 0 && s.past x.oldest (usTicks t) then (s.setQueue q { x with unsignalled := 0 }).irq q else s)

/-- HOST_SQTDB written (R291). -/
def execHostSqtdbWrite (q : Fin 32) (v : Word) (s : State) : Out := done (if s.serving then s.writeSqTail q v else s)

/-- HOST_CQHDB written (R292). -/
def execHostCqhdbWrite (q : Fin 32) (v : Word) (s : State) : Out := done (if s.serving then s.writeCqHead q v else s)

/-- HOST_QCTL written with EN = 1 (R290). -/
def execHostQctlEnable (q : Fin 32) (v : Word) (s : State) : Out := done (if s.serving then s.writeQctl q v else s)

/-- HOST_QCTL written with EN = 0 (R293). -/
def execHostQctlDisable (q : Fin 32) (v : Word) (s : State) : Out :=
  done (if s.serving then s.writeQctl q (v &&& 0xFFFFFFFE) else s)

/-- HOST_LINK (R289, R480): the link down, a hot reset, or PE_PERST_N falling. -/
def execHostLink (_how : LinkLoss) (s : State) : Out := done s.loseLink

/-- PCIE_LINK_UP (R273): training completes at a speed and width. Training starts once PCIE_LOCK is 1: while it is 0 the first such event is
the reference's return to lock (DESIGN CHOICE, log entry 98: no other command brings it back). -/
def execPcieLinkUp (speed width : Fin 4) (s : State) : Out :=
  done (if s.endpointOn && !s.clk.lost && !s.linkUp && speed.val != 0 && (width.val == 1 || width.val == 2) then
    if s.bit Reg.genClkstat 3 then ((s.setBit Reg.hostStat 6 true).setFld Reg.hostStat 4 2 speed).setFld Reg.hostStat 2 2 width
    else s.setBit Reg.genClkstat 3 true
  else s)

/-- BUS_MASTER_ENABLE (R289): held completions are written and fetching resumes from now on. -/
def execBusMasterEnable (s : State) : Out := done (if s.linkUp && !s.clk.lost then s.setBit Reg.hostStat 0 true else s)

/-- What a command has done when its transfer fails after some bytes (R303): a WEIR_SMT_LOAD that has not been executed writes the entries
that have arrived, up to the first refusal. Its state, and the reply data. -/
def State.partLoad (s : State) (e : Entry) (p : Packet) (bytes : Nat) : State × List Word :=
  if e.opcode == Op.weirSmtLoad.code && s.mayExecute Op.weirSmtLoad p && smRangeOk (p.word 0) && (s.headerFails Op.weirSmtLoad p).isNone then
    let sm := field (p.word 0) 0 12
    let r := State.loadEntries p.ptr.toNat (min (bytes / 16) (field (p.word 0) 16 13)) sm 0 s
    (r.2.2, [word r.1, word 0x55, word (sm + r.1)])
  else (s, [])

/-- A running command ended by a DMA error at its PTR (R303): BAD_PARAM, detail DMA_ERROR; what was applied before stands. -/
def State.failPtr (s : State) (q bytes : Nat) : State :=
  match s.fab.store.find? (fun e => e.2.state == .running && (match e.2.packet with | some p => p.src == q && p.hasPtr | none => false)) with
  | some e =>
    match e.2.packet with
    | some p =>
      let x := s.partLoad e.2 p bytes
      (x.1.onHost (fun h => { h with
        results := (e.2.order, { x.1.plainReply e.2 p Status.badParam 0x55 with data := x.2 }) ::
          h.results.filter (fun r => r.1 != e.2.order) })).reportNow Code.hostDma q
    | none => s
  | none => s

/-- A queue stopped by a DMA error (R296); on a queue that is being disabled the completion that was to be written is lost (R293). -/
def State.stopQueue (s : State) (q : Nat) : State :=
  let x := s.queue q
  if x.enabled then (s.setQueue q { x with err := true }).reportNow Code.hostDma q
  else if x.stopping && !x.due.isEmpty then ((s.setQueue q { x with due := x.due.tail }).completionDone q).reportNow Code.hostDma q
  else s

/-- The bit of the AER uncorrectable error status of a failed transfer (R285, R303; PRESUMED: the PCI Express specification's). -/
def aerBit : DmaError → Nat
  | .poisoned => 12 | .timeout => 14 | .abort => 15 | .unsupported => 20

/-- HOST_DMA (R285, R296, R303). -/
def execHostDma (x : DmaFailure) (s : State) : Out :=
  let t := s.onHost (fun h => { h with aer := setField h.aer (aerBit x.how) 1 1 })
  done (if !s.linkUp || s.clk.lost then s
    else match x.site with
      | .sqFetch q => t.stopQueue q
      | .cqWrite q => t.stopQueue q
      | .ptr q n => t.failPtr q n)

/-- UART_FRAME (R311, R312): the bytes between two flags. While no queue fetches, up to four packets wait (R423). -/
def execUartFrame (line : List Byte) (s : State) : Out :=
  let discard := s.onHost (fun h => { h with uartDiscards := satAdd 32 h.uartDiscards 1 })
  done (if !s.serving then s
    else match framePacket line with
      | none => discard
      | some r =>
        if !s.bit Reg.hostCtl 1 then discard
        else if s.fetching then s.takeUart r
        else if s.host.uartHeld.length < 4 then s.onHost (fun h => { h with uartHeld := h.uartHeld ++ [r] })
        else s.refuseUart r)

/-- The commands of the console (R312). -/
inductive ConsoleCmd where
  | id | time | faults | lamp (n : Nat) | arm (a : Nat) | queues
  deriving DecidableEq, Repr

/-- A decimal number in ASCII. -/
def decimal (bs : List Byte) : Option Nat :=
  if !bs.isEmpty && bs.all (fun b => decide (0x30 ≤ b.toNat) && decide (b.toNat ≤ 0x39)) then
    some (bs.foldl (fun n b => 10 * n + (b.toNat - 0x30)) 0)
  else none

/-- The console command that a line spells (R312): its name in lower case, and one blank before a number. -/
def consoleCmd (line : List Byte) : Option ConsoleCmd :=
  if line = [0x69, 0x64] then some .id
  else if line = [0x74, 0x69, 0x6D, 0x65] then some .time
  else if line = [0x66, 0x61, 0x75, 0x6C, 0x74, 0x73] then some .faults
  else if line = [0x71, 0x75, 0x65, 0x75, 0x65, 0x73] then some .queues
  else if line.take 5 = [0x6C, 0x61, 0x6D, 0x70, 0x20] then ((decimal (line.drop 5)).filter (fun n => decide (n < 512))).map ConsoleCmd.lamp
  else if line.take 4 = [0x61, 0x72, 0x6D, 0x20] then ((decimal (line.drop 4)).filter (fun a => decide (a < 8))).map ConsoleCmd.arm
  else none

/-- What a console command shows (R312). -/
def State.consoleData (s : State) : ConsoleCmd → List Word
  | .id => s.identifyData
  | .time => [lo32 s.now, hi32 s.now, s.readReg Reg.genTsync]
  | .faults => (s.flt.log.take 16).flatMap LogEntry.words
  | .lamp n => [s.readReg (Reg.prvLstat n), s.readReg (Reg.aspLstat n), s.readReg (Reg.lmpSstat (strOf n))]
  | .arm a => [s.readReg (Reg.weirAstat a), s.readReg (Reg.weirAstat2 a)]
  | .queues => ((List.range 32).filter (fun q => (s.queue q).enabled)).flatMap (fun q => word q :: (s.queue q).statWords)

/-- CONSOLE_LINE (R312): answered in text, whose format the spec leaves open, that shows what the command asks for; never with 0x7E or
0x7D. -/
def execConsoleLine (line : List Byte) (s : State) : Out :=
  let stuffing := fun (b : Byte) => b == 0x7E || b == 0x7D
  let data := match consoleCmd line with
    | some c => s.consoleData c
    | none => []
  done (if !s.serving || !s.bit Reg.hostCtl 0 || line.any stuffing then s
    else s.onHost (fun h => { h with
      consoleOut := ((Config.consoleText line data).filter (fun b => !stuffing b)) :: h.consoleOut }))

/-- HOST_FPCLK (R314): no FP_CLK edge for 10 µs after FP_CLK has been seen; the event says that it had been. -/
def execHostFpclk (s : State) : Out :=
  done (if s.serving && !s.causePresent Code.hostFpclk then
    ((s.setBit Reg.hostFpstat 0 false).setBit Reg.hostFpstat 1 true).reportNow Code.hostFpclk 0xFFFF
  else s)

/-- TAP_INSTRUCTION (R313): EXTEST, CLAMP and HIGHZ husk a compliant device until the instruction is replaced; the boundary register
holds the cells given for the outputs. TRST_N low holds Test-Logic-Reset, where IDCODE is selected. -/
def execTapInstruction (x : TapScan) (s : State) : Out :=
  done (s.reacting (fun s => s.onHost (fun h => { h with tap := if x.trstLow then .idcode else x.ins, scan := x.cells })))

end Sys2Proof.Machine
end

