-- ==== Sys2Proof/Machine/Lmp.lean ====
section
/-! DEFINITION. The LMP family: commits, estimates, string enables, ramps, derating, rails (chapter 02, R499). -/

namespace Sys2Proof.Machine

/-! Commands. -/

/-- LMP_COMMIT (R64, R68): BUSY while a commit runs, else the commit starts. -/
def execLmpCommit (p : Packet) (s : State) : Out :=
  done (s.command Op.lmpCommit p (fun s =>
    if s.lamps.commit.isSome then s.reply Status.busy 0 [] else (s.startLmp (some p)).later))

/-- LMP_CFGCMT.COMMIT written 1 (R64): without effect while a commit runs (R68). -/
def State.commitLmp (s : State) : State :=
  if s.served && s.lamps.commit.isNone then s.startLmp none else s

/-- LMP_CFGCMT.COMMIT written 1 (R64). -/
def execLmpCfgcmtCommit (s : State) : Out := done (s.commitLmp)

/-- LMP_ESTIMATE (R86): checks 2 to 9 and P_est of the staged values. -/
def execLmpEstimate (p : Packet) (s : State) : Out :=
  done (s.command Op.lmpEstimate p (fun s =>
    let c := s.snapConf s.lmpSnap
    let f := (s.confFault c).getD (0, 0)
    s.reply (if (s.confFault c).isSome then Status.badParam else Status.ok) f.1 [word f.1, word f.2, word (pEst c)]))

/-- A restored string (R75, R140): STUCK marks cleared, the cause of STUCK_LIT ended, and on from zero current. -/
def State.restoreStr (s : State) (str : Nat) : State :=
  let t := s.each (lampsOf str) (fun s l => s.onPrv l (fun p => { p with stuck := false }))
  let u := (t.onStr str (fun x => { x with state := .disabled, cur := 0, stuckCut := false })).endStuck str
  (u.driveStr str).irq 33

/-- LMP_STRING_RESTORE (R140): `closed` is the shunt readback of the string's STUCK positions. -/
def execLmpStringRestore (p : Packet) (closed : Bool) (s : State) : Out :=
  done (s.command Op.lmpStringRestore p (fun s =>
    let n := (p.word 0).toNat
    if n > 127 then s.reply Status.badParam 0 []
    else if (s.str n).state != .cut then s.reply Status.state 0 []
    else if !closed then s.reply Status.causeActive 0 []
    else (s.restoreStr n).reply Status.ok 0 []))

/-! String enables and ramps. -/

/-- LMP_SEN written (R71, R74): each string whose enable bit changes acts at once. -/
def State.writeSen (s : State) (n : Nat) (v : Word) : State :=
  let old := s.reg (Reg.lmpSen n)
  (s.setReg (Reg.lmpSen n) v).each ((List.range 32).filter (fun b => wbit old b != wbit v b)) (fun s b => s.driveStr (32 * n + b))

/-- LMP_SEN written (R71). -/
def execLmpSenWrite (n : Fin 4) (v : Word) (s : State) : Out := done (if s.served then s.writeSen n v else s)

/-- The current a string's ramp runs towards (R69, R71): its effective target while enabled, else 0. -/
def State.rampEnd (s : State) (str : Nat) : Nat := if s.enabled str then s.target str else 0

/-- A current one step nearer another. -/
def stepTo (a b : Nat) : Nat := if a < b then a + 1 else if b < a then a - 1 else a

/-- PRESENT_CURRENT_STEP (R70, R72): one step of a ramp, or of a STEADY string after a derating change, when it is due. -/
def execPresentCurrentStep (str : Fin 128) (s : State) : Out :=
  let x := s.str str
  done (if s.served && !s.sinkHeld str && (x.state == .rampUp || x.state == .rampDown || x.state == .steady) then
    if x.cur != s.rampEnd str && s.stepDue x then
      s.setStr str { x with
        cur := stepTo x.cur (s.rampEnd str), rampSteps := x.rampSteps + 1, rampAt := if x.state == .steady then s.mono else x.rampAt }
    else s
  else s)

/-- STRING_RAMP_END (R69, R73): STEADY at the effective target, with new trickle intervals; DISABLED at 0. -/
def execStringRampEnd (str : Fin 128) (s : State) : Out :=
  let x := s.str str
  done (if s.served && !s.sinkHeld str && (x.state == .rampUp || x.state == .rampDown) && x.cur == s.rampEnd str then
    if x.cur = 0 then s.setStr str { x with state := .disabled }
    else (s.setStr str { x with state := .steady, steadySince := s.mono }).review
  else s)

/-! Derating. -/

/-- A ramp towards an effective target that derating moved (R71): it goes on at its present slope. -/
def State.redirect (s : State) (str : Nat) : State :=
  let x := s.str str
  let i1 := s.rampEnd str
  if (x.state == .rampUp || x.state == .rampDown) && x.cur != i1 then
    s.setStr str { x with state := if x.cur < i1 then .rampUp else .rampDown } else s

/-- DERATING_UPDATE (R79 to R81): once per millisecond, k of every group from its derating input. -/
def execDeratingUpdate (s : State) : Out :=
  done (if s.served && s.past s.lamps.deratedAt (msTicks 1) then
    let t := (s.onLamps (fun x => { x with deratedAt := s.mono })).each (List.range 8)
      (fun t g => t.onGroup g (fun r => { r with kf := deratingK (s.deratingInput g) (s.reg Reg.lmpDrt) }))
    t.each (List.range 128) State.redirect
  else s)

/-! Rails. -/

/-- RAIL_SLEW_STEP (R61): every 10 µs the setpoint moves 50 mV towards the target. -/
def execRailSlewStep (g : Fin 8) (s : State) : Out :=
  let r := s.group g
  done (if s.served && !s.drvHeld g && r.setpoint != r.target && s.past r.slewAt (usTicks 10) then
    s.setGroup g { r with
      setpoint := if r.setpoint < r.target then min (r.setpoint + 50) r.target else max (r.setpoint - 50) r.target, slewAt := s.mono }
  else s)

/-- RAIL_TARGET_REACHED (R61): setpoint at the target for 50 µs, and the rail within the accuracy of R54 for the last `stay` ticks, which
must be 50 µs; strings that wait start (R69). -/
def execRailTargetReached (g : Fin 8) (x : RailReading) (s : State) : Out :=
  let r := s.group g
  done (if s.served && !s.drvHeld g && r.setpoint == r.target && s.past r.slewAt (usTicks 50) && decide (usTicks 50 ≤ x.stay) &&
      decide (50 * ((x.mv - r.target) + (r.target - x.mv)) ≤ r.target + 2500) then
    (s.setGroup g { r with measMv := x.mv, reached := true }).startWaiting g
  else s)

/-- RAIL_UV (R63): reported while the rail is below target × 0.95 − 100 mV with SLEW = 0. -/
def execRailUv (g : Fin 8) (mv : Nat) (s : State) : Out :=
  let r := s.group g
  done (if s.railJudged g && r.setpoint == r.target && decide (20 * mv + 2000 < 19 * r.target) && !r.uv then
    ((s.measure g mv).onGroup g (fun r => { r with uv := true, reached := false })).railReport Code.railUv g
  else s)

/-- RAIL_OV (R63): reported, and the drive held low until RAIL_OV_END. -/
def execRailOv (g : Fin 8) (mv : Nat) (s : State) : Out :=
  let r := s.group g
  done (if s.railJudged g && (decide (10 * mv > 11 * r.setpoint + 2000) || decide (mv > 21000)) && !r.ov then
    (((s.measure g mv).onGroup g (fun r => { r with ov := true, ovHold := true, reached := false })).openShadow (.railHold g)).railReport
      Code.railOv g
  else s)

/-- RAIL_OV_END (R499): the rail is below setpoint × 1.05; the cause ends and the drive resumes. -/
def execRailOvEnd (g : Fin 8) (mv : Nat) (s : State) : Out :=
  let r := s.group g
  done (if s.railJudged g && r.ovHold && decide (20 * mv < 21 * r.setpoint) then
    (((s.measure g mv).onGroup g (fun r => { r with ov := false, ovHold := false })).resumeRail g).endCause Code.railOv g
  else s)

/-- RAIL_OC (R63): 64 consecutive periods at CSLIM; the drive held low for 10 ms. It is reported once while it is present. -/
def execRailOc (g : Fin 8) (s : State) : Out :=
  let r := s.group g
  done (if s.railJudged g && !r.ocHold then
    let t := (s.onGroup g (fun r => { r with oc := true, ocHold := true, ocAt := s.mono, reached := false })).openShadow (.railHold g)
    if r.oc then t else t.railReport Code.railOc g
  else s)

/-- RAIL_OC_HOLD_END (R63, R499): after 10 ms, the soft restart from the measured rail. -/
def execRailOcHoldEnd (g : Fin 8) (mv : Nat) (s : State) : Out :=
  done (if s.railJudged g && (s.group g).ocHold && s.past (s.group g).ocAt (msTicks 10) then
    ((s.measure g mv).onGroup g (fun r => { r with ocHold := false })).resumeRail g
  else s)

/-- RAIL_OC_END (R499): the cause ends after a run of 64 periods without CS at CSLIM that follows the soft restart: the setpoint has
reached the target again. -/
def execRailOcEnd (g : Fin 8) (s : State) : Out :=
  let r := s.group g
  done (if s.railJudged g && r.oc && !r.ocHold && r.setpoint == r.target then
    (s.setGroup g { r with oc := false }).endCause Code.railOc g
  else s)

/-- NTC_FAULT (R63, R80): for a fitted NTC whose readings have been out of range for 10 ms; the substitute temperature stands in. -/
def execNtcFault (g : Fin 8) (s : State) : Out :=
  done (if s.served && s.bit Reg.lmpNtccfg (16 + g) && !(s.group g).ntcFault &&
      (s.group g).ntcOut.any (fun t => s.past t (msTicks 10)) then
    (s.onGroup g (fun r => { r with ntcFault := true })).railReport Code.ntcFault g
  else s)

end Sys2Proof.Machine
end

