-- ==== Sys2Proof/Machine/Reads.lean ====
section
/-! DEFINITION. The reads that have an effect: GEN_TIME (R35), the pairs of R282, the accumulator sets of R283, each over the Fast
Port and over PCIe with shadows of their own (R284). -/

namespace Sys2Proof.Machine

/-- A shadow of one interface, by the BAR0 offset of its word. -/
def State.shadow (s : State) (port : Port) (off : Nat) : Option Word :=
  Tab.get (fun _ => none) (match port with | .fast => s.host.fastShadow | .pcie => s.host.pcieShadow) off

/-- A shadow latched, or invalidated. -/
def State.setShadow (s : State) (port : Port) (off : Nat) (v : Option Word) : State :=
  s.onHost (fun h => match port with
    | .fast => { h with fastShadow := Tab.put (fun _ => none) h.fastShadow off v }
    | .pcie => { h with pcieShadow := Tab.put (fun _ => none) h.pcieShadow off v })

/-- A word given to the host. -/
def State.gives (s : State) (v : Word) : State := s.onHost (fun h => { h with lastRead := v })

/-- A Fast Port access: its clock runs, and HOST_FPCLK ends (R314). -/
def State.fpTouch (s : State) : State :=
  let t := s.setBit Reg.hostFpstat 0 true
  if t.causePresent Code.hostFpclk then t.reacting (fun t => t.endCause Code.hostFpclk 0xFFFF) else t

/-- The BAR0 offset that an address names on an interface (R279, R459, R464): none where it is not served. -/
def State.servedOff (s : State) (port : Port) (a : Nat) : Option Nat :=
  let whole := s.pwr.boot == .ready
  match port with
  | .fast => if whole || decide (a ≤ 0xF) then fastOff a else none
  | .pcie => if whole || a / 0x10000 == 0x2 || a / 0x10000 == 0xD then some a else none

/-- Whether an interface answers at all (R464, R501); a function in D3hot answers configuration accesses only (R285). -/
def State.portOn (s : State) (port : Port) : Bool :=
  s.serving && (match port with | .fast => true | .pcie => s.linkUp && !s.host.d3)

/-- What an access over an interface does beside reading: the Fast Port's clock is seen. -/
def State.touch (s : State) (port : Port) : State := match port with | .fast => s.fpTouch | .pcie => s

/-- The word in a set of an accumulator offset. -/
def setWord (off : Nat) : Option Nat :=
  if Reg.msrAset 0 ≤ off ∧ off < Reg.msrAset 8192 then some ((off - Reg.msrAset 0) / 4 % 16) else none

/-- The low words of the 64-bit pairs (R282): in a set SUM, SUMSQ, TMIN and TMAX, and words 0 of FLT_FIRST, FLT_NEWEST, PWR_SAGT and
BIST_LSIG. -/
def pairLow (off : Nat) : Bool :=
  off % 4 == 0 && (match setWord off with
    | some w => w == 0 || w == 4 || w == 8 || w == 10
    | none => off == Reg.fltFirst 0 || off == Reg.fltNewest 0 || off == Reg.pwrSagtLo || off == Reg.bistLsigLo)

/-- The words whose shadow a read of SUM_LO latches (R283): SUM_HI, COUNT, SUMSQ_LO, SUMSQ_HI and word 6. -/
def setShadows : List Nat := [1, 2, 4, 5, 6]

/-- TORN of the status field that a pair's chapter names, else of the interface (R282). -/
def State.tear (s : State) (port : Port) (off : Nat) : State :=
  if (setWord off).isSome then s.onAcc ((off - Reg.msrAset 0) / 64) (fun a => { a with torn := true })
  else match port with
    | .fast => s.setBit Reg.hostFpstat 2 true
    | .pcie => s.setBit Reg.hostStat 7 true

/-- A read of SUM_LO at an offset (R283): the live word, every shadow of the set latched together. -/
def State.readSumLo (s : State) (port : Port) (off : Nat) : State :=
  (s.each setShadows (fun t w => t.setShadow port (off + 4 * w) (some (s.readReg (off + 4 * w))))).gives (s.readReg off)

/-- A read of the low word of a pair (R282): the live word, its high word latched; SUMSQ_LO with a valid shadow gives that shadow and
latches nothing (R283). -/
def State.readLow (s : State) (port : Port) (off : Nat) : State :=
  if setWord off = some 0 then s.readSumLo port off
  else match s.shadow port off with
    | some v => (s.setShadow port off none).gives v
    | none => (s.setShadow port (off + 4) (some (s.readReg (off + 4)))).gives (s.readReg off)

/-- A read of the high word of a pair, or of COUNT or word 6 of a set (R282, R283): the shadow, which is then not valid; with no valid
shadow the live word, and TORN for the high word of a pair. -/
def State.readHigh (s : State) (port : Port) (off : Nat) : State :=
  match s.shadow port off with
  | some v => (s.setShadow port off none).gives v
  | none => (if pairLow (off - 4) && decide (4 ≤ off) then s.tear port off else s).gives (s.readReg off)

/-- Whether an offset is one that a read of readHigh serves. -/
def shadowed (off : Nat) : Bool := (pairLow (off - 4) && decide (4 ≤ off)) || setWord off == some 2 || setWord off == some 6

/-- A read over an interface of a word that a test admits; an address that is not served reads 0 (R279). -/
def State.portRead (s : State) (port : Port) (a : Nat) (admits : Nat → Bool) (f : State → Nat → State) : State :=
  if !s.portOn port then s
  else match s.servedOff port a with
    | none => (s.touch port).gives 0
    | some off => if admits off then f (s.touch port) off else s

/-! The DRAM window and the MSI-X table as they read (R286, R288). -/

/-- The closed recorder page in a DRAM page, with its stream (R264, R268). -/
def State.closedPage (s : State) (num : Nat) : Option (Nat × Page) :=
  (List.range 16).findSome? (fun i =>
    let t := s.strm i
    let chains := linkPages t.ring (t.opened.map Page.num) :: t.caps.map (fun c => linkPages c.pages none) ++
      (t.curCap.map (fun c => linkPages c.pages (t.opened.map Page.num))).toList
    (chains.flatten.find? (fun p => p.num == num)).map (fun p => (i, p)))

/-- A byte of DRAM (R258, R260, R264): what a closed recorder page holds; elsewhere what the spec leaves open. -/
def State.dramByte (s : State) (a : Nat) : Byte :=
  match s.closedPage (a / 0x10000) with
  | some (i, p) => ((p.image i)[a % 0x10000]?).getD (Config.dramByte a)
  | none => Config.dramByte a

/-- A byte that a BAR2 read gives (R288): DRAM from WIN × 1 GB on, 0 beyond the populated DRAM. -/
def State.bar2Byte (s : State) (off : Nat) : Byte :=
  let a := s.fld Reg.hostB2win 0 3 * 2 ^ 30 + off % 2 ^ 30
  if a < s.fab.dram.total * 0x10000 then s.dramByte a else 0

/-- A dword that a BAR4 read gives (R286): the MSI-X table from 0x000, the pending bit array from 0x800. -/
def State.bar4Word (s : State) (off : Nat) : Word :=
  let e := Tab.get (fun _ => MsixEntry.reset) s.host.msix (off / 16)
  if off < 0x400 then
    match off / 4 % 4 with
    | 0 => lo32 e.addr
    | 1 => hi32 e.addr
    | 2 => e.data
    | _ => word (flag e.masked)
  else if off / 4 = 0x200 ∨ off / 4 = 0x201 then
    word (bitsOf ((List.range 32).map (fun k => Tab.get (fun _ => false) s.host.pba (32 * (off / 4 - 0x200) + k))))
  else 0

/-- The identity words of configuration space (R285): device and vendor ID, class code and revision, subsystem and subsystem vendor ID. -/
def State.identity (s : State) : List Word :=
  [pack [(0, s.otp.vendor % 65536), (16, 0x0512)], pack [(0, s.otp.step % 256), (8, 0x118000)],
   pack [(0, s.otp.subVendor % 65536), (16, s.otp.subsystem % 65536)]]

/-- GEN_TIME_LO read (R35): bits 31:0, and bits 63:32 of the same value into the shadow. -/
def execGenTimeLoRead (s : State) : Out :=
  done (s.portRead .pcie Reg.genTimeLo (fun _ => true) (fun s _ =>
    (s.setShadow .pcie Reg.genTimeHi (some (hi32 s.now))).gives (lo32 s.now)))

/-- GEN_TIME_HI read (R35): the shadow, or with none the live word, and GEN_TSYNC.TORN. -/
def execGenTimeHiRead (s : State) : Out :=
  done (s.portRead .pcie Reg.genTimeHi (fun _ => true) (fun s _ =>
    match s.shadow .pcie Reg.genTimeHi with
    | some v => (s.setShadow .pcie Reg.genTimeHi none).gives v
    | none => (s.setBit Reg.genTsync 3 true).gives (hi32 s.now)))

/-- A low word read (R282): `off` is the Fast Port word or the BAR0 offset. -/
def execPairLowRead (port : Port) (off : Nat) (s : State) : Out :=
  done (s.portRead port off pairLow (fun s o => s.readLow port o))

/-- A high word read (R282, R283). -/
def execPairHighRead (port : Port) (off : Nat) (s : State) : Out :=
  done (s.portRead port off shadowed (fun s o => s.readHigh port o))

/-- SUM_LO of set k of converter AD read (R283). -/
def execAccSumLoRead (port : Port) (ad : Fin 4) (k : Fin 128) (s : State) : Out :=
  let set := 128 * ad.val + k.val
  done (s.portRead port (match port with | .fast => 0x2000 + 16 * set | .pcie => Reg.msrAset (16 * set)) (fun _ => true)
    (fun s o => s.readSumLo port o))

end Sys2Proof.Machine
end

