-- ==== Sys2Proof/Machine/Regs.lean ====
section
/-! DEFINITION. Host writes of registers (R12 to R16): by the access codes of their fields, with the registers whose write has an effect
of its own, and the writes that are not taken; the Fast Port, BAR0, BAR2, BAR4 and the endpoint's own registers (R275 to R288). -/

namespace Sys2Proof.Machine

/-! Writes that are not taken, or not as a whole. -/

/-- PRV_LWIN (R127): no code above 90, MIN and TMIN below MAX. -/
def windowTaken (v : Word) : Bool :=
  decide (field v 0 7 ≤ 90) && decide (field v 8 7 ≤ 90) && decide (field v 16 7 ≤ 90) && decide (field v 8 7 < field v 0 7) &&
  decide (field v 16 7 < field v 0 7)

/-- FAB_AQUOTA of user u (R260): the three quotas within the total, not below the user's pages, and for REC not below the armed
streams' quotas. -/
def State.quotaTaken (s : State) (u q : Nat) : Bool :=
  let others := (((List.range 3).filter (fun k => k != u)).map (fun k => s.fld (Reg.fabAquota k) 0 17)).sum
  decide (q + others ≤ s.fab.dram.total) && decide (s.usedPages u ≤ q) && (u != 0 || decide (s.otherQuotas 16 ≤ q))

/-- FLT_CCFG0 (R376): a REACT that the code's scope does not allow is not taken. -/
def reactTaken (code : Nat) (old v : Word) : Word :=
  match codeRow code with
  | some r => if reactAllowed r.scope (field v 4 3) then v else setField v 4 3 (field old 4 3)
  | none => old

/-- HOST_SRCCFG of source n (R16): VEC takes n and 42 to 63. -/
def vectorTaken (n : Nat) (old v : Word) : Word :=
  if field v 0 6 = n ∨ 42 ≤ field v 0 6 then v else setField v 0 6 (field old 0 6)

/-- A base register of queue pair q written: taken while EN = 0 (R290). -/
def State.writeBase (s : State) (q off : Nat) (v : Word) : State := if (s.queue q).enabled then s else s.writeReg off v

/-! Writes with an effect. -/

/-- LMP_NTCCFG written: NTC_FAULT ends for a group whose NTC is no longer fitted (R63, R80). -/
def State.writeNtccfg (s : State) (v : Word) : State :=
  let t := s.writeReg Reg.lmpNtccfg v
  t.reacting (fun t => t.each ((List.range 8).filter (fun g => (t.group g).ntcFault && !t.bit Reg.lmpNtccfg (16 + g))) (fun t g =>
    (t.onGroup g (fun x => { x with ntcFault := false })).endCause Code.ntcFault g))

/-- FLT_CTL written: FFCLR clears the first-fault register (R386). -/
def State.writeFltCtl (s : State) (v : Word) : State :=
  let t := s.writeReg Reg.fltCtl v
  if wbit v 16 then t.clearFirst else t

/-- GEN_CLKSTAT written: CLK_LOSS is cleared as a device-class fault is, once its cause has ended (R375). -/
def State.writeClkstat (s : State) (v : Word) : State :=
  s.writeReg Reg.genClkstat (if s.causePresent Code.clkLoss then v &&& 0xFFFFFFDF else v)

/-- The status word of an accumulator set written: CLIP and TORN are W1C (R343, R282). -/
def State.writeSetStatus (s : State) (set : Nat) (v : Word) : State :=
  s.onAcc set (fun a => { a with clip := a.clip && !wbit v 2, torn := a.torn && !wbit v 1 })

/-- A write of register i of the row at base, LMP to WEIR blocks: the registers whose write has an effect. -/
def State.writeLower (s : State) (base i off : Nat) (v : Word) : State :=
  if base = Reg.genClkstat then s.writeClkstat v
  else if base = Reg.lmpCfgcmt then s.when (wbit v 0) State.commitLmp
  else if base = Reg.lmpNtccfg then s.writeNtccfg v
  else if base = Reg.lmpSen 0 then s.writeSen i v
  else if base = Reg.aspCfgcmt then s.when (wbit v 0) State.commitAspReg
  else if base = Reg.aspLcmd 0 then s.writeLcmd i v
  else if base = Reg.aspRcfg 0 then s.writeRcfg i v
  else if base = Reg.prvLwin 0 then s.when (windowTaken v) (fun s => s.writeReg off v)
  else if base = Reg.weirAcommit then s.writeAcommit v
  else if base = Reg.weirSnapsel then s.writeSnapsel v
  else if base = Reg.weirWrsel then s.writeWrsel v
  else s.writeReg off v

/-- A write of register i of the row at base, TRIB to REC, HOST and FLT blocks. -/
def State.writeUpper (s : State) (base i off : Nat) (v : Word) : State :=
  if base = Reg.tribCfg then
    (match findRow off with
     | some r => s.when (chainCfgTaken (r.write (s.reg off) v)) (fun s => s.writeReg off v)
     | none => s)
  else if base = Reg.fabMssel then s.writeMssel v
  else if base = Reg.fabAquota 0 then s.when (s.quotaTaken i (field v 0 17)) (fun s => s.writeReg off v)
  else if base = Reg.recCtl then s.writeRecCtl v
  else if base = Reg.recTrig then s.writeTrig v
  else if base = Reg.msrCvctl 0 then s.writeCvctl i v
  else if base = Reg.msrUrga 0 then (if wbit v 31 then s.writeUrga i v else s.writeReg off v)
  else if base = Reg.msrAclr then s.writeAclr v
  else if base = Reg.msrAset 0 then s.when (i % 16 == 3) (fun s => s.writeSetStatus (i / 16) v)
  else if base = Reg.fioKick then s.writeKick v
  else if base = Reg.fioKcfg then s.writeKcfg v
  else if base = Reg.fioFcfg 0 then s.writeFcfg i v
  else if base = Reg.fioOcfg 0 then s.writeOcfg i v
  else if base = Reg.fioOcmd then s.writeOcmd v
  else if base = Reg.fioFltcfg then s.writeFltcfg v
  else if base = Reg.hostCtl then s.reacting (fun s => s.writeReg off v)
  else if base = Reg.hostSrccfg 0 then s.writeReg off (vectorTaken i (s.reg off) v)
  else if base = Reg.hostQsqbl 0 ∨ base = Reg.hostQsqbh 0 ∨ base = Reg.hostQcqbl 0 ∨ base = Reg.hostQcqbh 0 then s.writeBase i off v
  else if base = Reg.hostQctl 0 then s.writeQctl i v
  else if base = Reg.hostSqtdb 0 then s.writeSqTail i v
  else if base = Reg.hostCqhdb 0 then s.writeCqHead i v
  else if base = Reg.fltCtl then s.writeFltCtl v
  else if base = Reg.fltHold then s.writeHold v
  else if base = Reg.fltCcfg0 0 then s.when (!s.saved) (fun s => s.writeReg off (reactTaken (codeOfIdx i) (s.reg off) v))
  else if base = Reg.fltCcfg1 0 then s.when (!s.saved && (codeRow (codeOfIdx i)).isSome) (fun s => s.writeReg off v)
  else s.writeReg off v

/-- A host write of a register by its BAR0 offset (R12 to R16): ignored where no register is. -/
def State.hostWrite (s : State) (off : Nat) (v : Word) : State :=
  match findRow off with
  | none => s
  | some r =>
    let i := (off - r.base) / r.stride
    match off / 0x10000 with
    | 0x0 | 0x4 | 0x5 | 0x6 | 0x7 => s.writeLower r.base i off v
    | _ => s.writeUpper r.base i off v

/-- Whether the register of a row at an offset takes any write: one of its fields is not read-only. Of an accumulator set only the status
word does (R281, R343). -/
def RegRow.takes (r : RegRow) (off : Nat) : Bool :=
  r.fields.any (fun f => f.acc != .ro) && (r.base != Reg.msrAset 0 || (off - r.base) / 4 % 16 == 3)

/-- A Fast Port write (R277, R279): one that no field takes is ignored and counted. -/
def State.fastWrite (s : State) (a : Nat) (v : Word) : State :=
  if !s.portOn .fast then s
  else
    let t := s.fpTouch
    let ignored := t.incFld Reg.hostFpstat 16 16
    match t.servedOff .fast a with
    | none => ignored
    | some off => match findRow off with
      | some r => if r.takes off then t.hostWrite off v else ignored
      | none => ignored

/-- A BAR0 write (R287): one or two whole dwords, in ascending order; any other is discarded and counted. -/
def State.bar0Write (s : State) (off : Nat) (data : List Word) (full : Bool) : State :=
  if !s.portOn .pcie then s
  else if !full || off % 4 != 0 || data.isEmpty || decide (data.length > 2) then s.incFld Reg.hostStat 16 16
  else ((List.range data.length).map (fun k => (off + 4 * k, data.getD k 0))).foldl (fun t w =>
    match t.servedOff .pcie w.1 with
    | some o => t.hostWrite o w.2
    | none => t) s

/-! MSI-X (R285, R286, R309). -/

/-- Every pending vector whose mask no longer holds it sent, its pending bit cleared. -/
def State.sendPending (s : State) : State :=
  s.each ((List.range 64).filter (fun v => Tab.get (fun _ => false) s.host.pba v)) (fun t v =>
    if t.vectorOpen v then
      t.onHost (fun h => { h with
        messages := v :: h.messages, sentAt := Tab.put (fun _ => 0) h.sentAt v (s.wall + 1),
        pba := Tab.put (fun _ => false) h.pba v false })
    else t)

/-- One dword of the MSI-X table written; the pending bit array is read-only. -/
def State.msixDword (s : State) (off : Nat) (v : Word) : State :=
  if off ≥ 0x400 then s
  else
    let k := off / 16
    let e := Tab.get (fun _ => MsixEntry.reset) s.host.msix k
    let n : MsixEntry := match off / 4 % 4 with
      | 0 => { e with addr := e.addr / 2 ^ 32 * 2 ^ 32 + v.toNat / 4 * 4 }
      | 1 => { e with addr := e.addr % 2 ^ 32 + v.toNat * 2 ^ 32 }
      | 2 => { e with data := v }
      | _ => { e with masked := wbit v 0 }
    s.onHost (fun h => { h with msix := Tab.put (fun _ => MsixEntry.reset) h.msix k n })

/-- A BAR4 write. -/
def State.bar4Write (s : State) (off : Nat) (data : List Word) (full : Bool) : State :=
  if !s.portOn .pcie || !full || off % 4 != 0 then s
  else (((List.range data.length).map (fun k => (off + 4 * k, data.getD k 0))).foldl (fun t w => t.msixDword w.1 w.2) s).sendPending

/-- Whether the endpoint answers configuration accesses: its link is up, in D0 and in D3hot (R285). -/
def State.configOn (s : State) : Bool := s.serving && s.linkUp

/-- REGISTER_WRITE (R12): a host write where it lands; of configuration space what R285 supports, with a payload size or a D state that it
does not list not taken. `off` counts words on the Fast Port, bytes elsewhere. -/
def execRegisterWrite (space : Space) (off : Nat) (data : List Word) (full : Bool) (s : State) : Out :=
  done (match space with
    | .fast => (match data with | [v] => s.fastWrite off v | _ => s)
    | .bar0 => s.bar0Write off data full
    | .bar2 => if s.portOn .pcie then s.incFld Reg.hostStat 16 16 else s
    | .bar4 => s.bar4Write off data full
    | .command => if s.configOn then s.setBit Reg.hostStat 0 (wbit (data.getD 0 0) 2) else s
    | .msixControl =>
      if s.configOn then
        (((s.setBit Reg.hostStat 1 (wbit (data.getD 0 0) 15)).onHost (fun h => { h with
          funcMask := wbit (data.getD 0 0) 14 }))).sendPending
      else s
    | .deviceControl =>
      if s.configOn && decide (field (data.getD 0 0) 5 3 ≤ 2) then s.onHost (fun h => { h with payload := field (data.getD 0 0) 5 3 }) else s
    | .powerState =>
      let d := field (data.getD 0 0) 0 2
      if s.configOn && (d == 0 || d == 3) then (s.onHost (fun h => { h with d3 := d == 3 })).sendPending else s
    | .aerStatus => if s.configOn then s.onHost (fun h => { h with aer := h.aer &&& ~~~(data.getD 0 0) }) else s)

end Sys2Proof.Machine
end

