-- ==== Sys2Proof/Machine/Settle.lean ====
section
/-! DEFINITION. The settings (R454, R455): the registers of each tag, their records, their application after RUN-ready, and the end of an
LMP commit (R66), after which an application that waits for it goes on. -/

namespace Sys2Proof.Machine

/-- Offsets of a row of registers with the mask of the bits saved. -/
def regRun (f : Nat → Nat) (n : Nat) (mask : Word) : List (Nat × Word) := (List.range n).map (fun i => (f i, mask))

/-- One register, all its bits. -/
def regOne (off : Nat) (mask : Word) : List (Nat × Word) := [(off, mask)]

/-- All bits of a register. -/
def allMask : Word := 0xFFFFFFFF

/-- The registers of a tag in the order in which a record holds their words (R454). The spec names the registers; a record's data is
their words in this order (DESIGN CHOICE). -/
def settingsRegs (tag : Nat) : List (Nat × Word) :=
  match tag with
  | 1 => regOne Reg.lmpCtl allMask ++ regRun Reg.lmpScur 128 allMask ++ regRun Reg.lmpSpos 128 allMask ++ regRun Reg.lmpGrail 8 allMask ++
      regOne Reg.lmpDrt allMask ++ regOne Reg.lmpNtccfg allMask
  | 2 => regOne Reg.prvCtl allMask ++ regRun Reg.prvLcfg 512 allMask ++ regRun Reg.prvLwin 512 allMask
  | 3 => regOne Reg.aspCtl allMask ++ regRun Reg.aspLcfg 512 allMask ++ regRun Reg.aspLphase 512 allMask ++ regRun Reg.aspRcfg 512 allMask
  | 5 => regRun Reg.weirAcfg 8 allMask ++ regRun Reg.weirAband 8 allMask
  | 6 => regOne Reg.tribCfg allMask ++ regRun Reg.tribAcfg 8 allMask
  | 7 => regOne Reg.msrCtl allMask ++ regRun Reg.msrCvctl 4 0xFF ++ regRun Reg.msrSeqa 256 allMask ++ regRun Reg.msrSeqb 256 allMask ++
      regRun Reg.msrAcfg 512 allMask
  | 8 => regOne Reg.fioCtl allMask ++ regOne Reg.fioKcfg allMask ++ regRun Reg.fioFcfg 32 allMask ++ regRun Reg.fioMcfg 32 allMask ++
      regRun Reg.fioOcfg 16 allMask ++ regOne Reg.fioFltcfg 0xFF ++ regOne Reg.fioInirq allMask ++ regOne Reg.fioOnirq allMask
  | 9 => regOne Reg.fltCtl 0xFFC00707 ++ codeTable.flatMap (fun r => [(Reg.fltCcfg0 (idxOfCode r.code), allMask)]) ++
      codeTable.flatMap (fun r => [(Reg.fltCcfg1 (idxOfCode r.code), allMask)])
  | 10 => (List.range 16).flatMap (fun i => [(Reg.recScfg i, allMask), (Reg.recSflt i, allMask), (Reg.recSdep i, allMask),
      (Reg.recStrg i, allMask), (Reg.recSquota i, allMask)])
  | 11 => regOne Reg.pwrCtl allMask
  | _ => []

/-- The words of a tag's record: the values last written, and for tag 4 every valid entry's SM id and CFG0 to CFG3, no pin (R454). -/
def State.settingsWords (s : State) (tag : Nat) : List Word :=
  if tag = 4 then
    s.weir.smt.flatMap (fun e => if e.2.valid then
      word e.1 :: setField ((s.smtWords e.1).getD 0 0) 20 2 0 :: ((s.smtWords e.1).take 4).drop 1 else [])
  else (settingsRegs tag).map (fun r => s.reg r.1 &&& r.2)

/-- The bytes of a record: tag, length in bytes, data. -/
def recordBytes (tag : Nat) (ws : List Word) : List Byte := leBytes 2 tag ++ leBytes 2 (4 * ws.length) ++ bytesOf ws

/-- The body of the settings as they stand. -/
def State.settingsBody (s : State) : List Byte :=
  ((List.range 11).map (fun k => recordBytes (k + 1) (s.settingsWords (k + 1)))).flatten

/-- The records of a body, at most f of them: (tag, words). -/
def bodyRecords : Nat → List Byte → List (Nat × List Word)
  | 0, _ => []
  | f + 1, bs =>
    if bs.length < 4 then []
    else
      let n := leNat ((bs.drop 2).take 2)
      (leNat (bs.take 2), wordsOf (n / 4) (bs.drop 4)) :: bodyRecords f (bs.drop (4 + n))

/-- One more refused item (UPD_SETSTAT.REFUSED). -/
def State.settingRefused (s : State) : State := s.onUpd (fun u => { u with refused := satAdd 8 u.refused 1 })

/-- The SMT entries of a record written by R173. -/
def State.applyEntries (s : State) : Nat → List Word → State
  | 0, _ => s
  | f + 1, ws =>
    match ws with
    | sm :: rest =>
      let r := s.tryEntry (sm.toNat % 4096) (rest.take 4)
      (if r.1.isSome then r.2.settingRefused else r.2).applyEntries f (rest.drop 4)
    | [] => s

/-- The commit of one converter's sequence, at boot application (R455). -/
def State.applySequence (s : State) (ad : Nat) : State :=
  let t := s.writeCvctl ad (s.reg (Reg.msrCvctl ad) ||| 0x80000000)
  if t.fld (Reg.msrCvstat ad) 8 8 = Status.ok then t else t.settingRefused

/-- One record applied as if the host had written it (R455), with the commit that follows its tag. -/
def State.applyRecord (s : State) (tag : Nat) (ws : List Word) : State :=
  if tag = 4 then s.applyEntries ws.length ws
  else
    let t := ((settingsRegs tag).zip ws).foldl (fun t e => t.hostWrite e.1.1 ((t.reg e.1.1 &&& ~~~e.1.2) ||| (e.2 &&& e.1.2))) s
    if tag = 1 then
      let u := t.startLmp none
      if u.lamps.commit.isSome || u.fld Reg.lmpCfgstat 0 8 = Status.ok then u else u.settingRefused
    else if tag = 3 then
      let r := t.runAspCommit
      if r.1.1 = Status.ok then r.2 else r.2.settingRefused
    else if tag = 7 then (List.range 4).foldl State.applySequence t
    else t

/-- Records applied in turn; while an LMP commit of theirs runs, the rest waits, with an empty record last (R455). -/
def applyRecords : List (Nat × List Word) → State → State
  | [], s => s.onUpd (fun u => { u with todo := [] })
  | r :: rs, s =>
    let t := s.applyRecord r.1 r.2
    if t.lamps.commit.isSome then t.onUpd (fun u => { u with todo := rs ++ [(0, [])] }) else applyRecords rs t

/-- The settings of a half applied in tag order (R455). -/
def State.applySettings (s : State) (h : SetHalf) : State :=
  applyRecords (sortBy (fun a b => decide (a.1 < b.1)) (bodyRecords h.body.length h.body)) s

/-- An application that waited for its LMP commit goes on. -/
def State.goOn (s : State) : State := if s.upd.todo.isEmpty then s else applyRecords s.upd.todo s

/-- LMP_COMMIT_APPLY (R66, step 3): every raised rail has reached its target. -/
def execLmpCommitApply (s : State) : Out :=
  done (match s.lamps.commit with
    | some c => if s.served && !s.saved && c.upGroups.all s.railReady then (s.applyLmp c).goOn else s
    | none => s)

/-- LMP_COMMIT_TIMEOUT (R66): 10 ms after the checks a raised rail has not reached its target. -/
def execLmpCommitTimeout (s : State) : Out :=
  done (match s.lamps.commit with
    | some c =>
      match c.upGroups.find? (fun g => !s.railReady g) with
      | some g =>
        if s.served && s.past c.started (msTicks 10) then
          let t := s.abandonLmp c Status.state 0x20 g
          (if s.upd.todo.isEmpty then t else t.settingRefused).goOn
        else s
      | none => s
    | none => s)

end Sys2Proof.Machine
end

