-- ==== Sys2Proof/Machine/Reset.lean ====
section
/-! DEFINITION. What a reset leaves (R428, R434): what one-time-programmable memory, the flash devices, the keep store and the always-on
domain hold survives, everything else is as State.reset has it. -/

namespace Sys2Proof.Machine

/-- Whether a reset takes the rails down (R418, R419): causes PG, THERMAL and HOLD_END. -/
def ResetCause.railsDown : ResetCause → Bool
  | .pg | .thermal | .holdEnd => true
  | _ => false

/-- Whether a reset clears BIST_FRES.VALID, and with it what the boot takes from full BIST (R409). -/
def ResetCause.endsBist : ResetCause → Bool
  | .por | .rstN => true
  | _ => false

/-- The power section after a reset: the keep record and the boot count are in the keep store; VIN, HOLD, rails and sequencer are in the
always-on domain, which a power-on reset restarts; PWR_SAGCNT counts since power-on, and PWR_STATS with it (DESIGN CHOICE). A reset in
SAVE leaves the save incomplete. After a POR, and where the rails come down, SEQ_EN0 is raised 1 ms later at the earliest (R417, R419). -/
def Power.afterReset (p : Power) (c : ResetCause) (wall : Nat) : Power :=
  if c == .por then { Power.reset with keep := p.keep, boots := p.boots, seqFrom := wall + msTicks 1, vinAt := wall }
  else { Power.reset with
    keep := p.keep, boots := p.boots, vinok := p.vinok, boost := p.boost, holdok := p.holdok,
    enabled := if c.railsDown then 0 else p.enabled, good := if c.railsDown then 0 else p.good,
    seqNext := if c.railsDown then 0 else p.seqNext, retries := if c.railsDown then 0 else p.retries, lastRail := p.lastRail,
    hotDown := c == .thermal || p.hotDown, seqFrom := if c.railsDown then wall + msTicks 1 else p.seqFrom, vinAt := p.vinAt,
    sags := p.sags, glitches := p.glitches, statSags := p.statSags, statGlitches := p.statGlitches, statVinhi := p.statVinhi,
    statRetries := p.statRetries, statSaves := p.statSaves, statLost := if p.phase == .save then satAdd 32 p.statLost 1 else p.statLost,
    statWarm := p.statWarm }

/-- The registers that a reset keeps (R409): BIST_FRES, and of BIST_BSTAT the verdicts of full BIST. -/
def keptRegs (regs : Tab Word) (c : ResetCause) : Tab Word :=
  regs.filterMap (fun e =>
    if e.1 = Reg.bistFres then
      (let v := if c.endsBist then setField e.2 0 1 0 else e.2
       if v = regReset e.1 then none else some (e.1, v))
    else if Reg.bistBstat 0 ≤ e.1 ∧ e.1 < Reg.bistBstat 512 ∧ wbit e.2 11 then some (e.1, e.2 &&& 0xF00)
    else none)

/-- The SEQ of the last entry as the mirror has it (R389): its highest. -/
def mirrorSeq (m : List LogEntry) : Nat := m.foldl (fun a e => max a e.seq) 0

/-- A reset with a cause (R428): the life-cycle state of OTP comes into force, so that SERVICE returns to FIELD (R411). -/
def State.resetTo (s : State) (c : ResetCause) : State :=
  let t : State := ⟨keptRegs s.regs c, [], .reset, .reset, { Chain.reset with epoch := s.chain.epoch }, .reset,
    { HostIf.reset with
      tap := if c == .por then .idcode else s.host.tap, scan := s.host.scan, messages := s.host.messages,
      sentAt := s.host.sentAt, uartOut := s.host.uartOut,
      consoleOut := s.host.consoleOut, lastRead := s.host.lastRead },
    .reset, { Measure.reset with cals := s.msr.cals },
    { Collector.reset with mirror := s.flt.mirror, seq := mirrorSeq s.flt.mirror },
    { Clocks.reset with ticks := s.clk.ticks, wall := s.clk.wall }, s.pwr.afterReset c s.clk.wall, { Bist.reset with lcs := s.otp.lcs },
    { Update.reset with
      devA := s.upd.devA, devB := s.upd.devB, mram := s.upd.mram, ring := s.upd.ring, wearA := s.upd.wearA, wearB := s.upd.wearB },
    s.otp, s.hostMem, s.free, s.pending⟩
  t.setFld Reg.pwrReset 8 3 c.code

end Sys2Proof.Machine
end

