-- ==== Sys2Proof/Machine/Bist.lean ====
section
/-! DEFINITION. Riffle's rows, full BIST and the life cycle (chapter 12). -/

namespace Sys2Proof.Machine

/-! Commands. -/

/-- BIST_SLICE_NOW (R396, R414): a request for the next slot; its reply is written when the verdict is given. -/
def execBistSliceNow (p : Packet) (s : State) : Out :=
  done (s.command Op.bistSliceNow p (fun s =>
    let id := field (p.word 0) 0 9
    if !((blkOf id).any Blk.sliced) then s.reply Status.badParam 0 []
    else if s.bist.now.isSome then s.reply Status.busy 0 []
    else if !(s.lcs == 2 || s.lcs == 3) || !s.canSlice id || s.bist.full != .off then s.reply Status.state 0 []
    else (s.onBist (fun b => { b with now := some (id, p) })).later))

/-- BIST_FULL (R405, R407): the slice is given up, and full BIST starts after the reply. -/
def execBistFull (p : Packet) (s : State) : Out :=
  done (s.command Op.bistFull p (fun s =>
    if !(s.lcs == 0 || s.lcs == 3) || s.chain.role != .solo || (List.range 128).any (fun i => (s.str i).state != .disabled) then
      s.reply Status.state 0 []
    else if field (p.word 0) 0 16 ≠ 0xB157 then s.reply Status.badParam 0 []
    else (s.abortSlice.onBist (fun b => { b with full := .accepted })).reply Status.ok 0 []))

/-- BIST_RESULTS (R414). -/
def execBistResults (p : Packet) (s : State) : Out :=
  done (s.command Op.bistResults p (fun s =>
    (s.when (wbit (p.word 0) 16) (fun s => s.setReg Reg.bistRstat 0)).reply Status.ok 0
      ([s.readReg Reg.bistStat, s.readReg Reg.bistRstat, s.readReg Reg.bistFres] ++
        (List.range 512).map (fun b => s.readReg (Reg.bistBstat b)))))

/-- The nonce and the token halves dropped (R412). -/
def Bist.dropNonce (b : Bist) : Bist := { b with nonce := none, halfR := none, halfS := none }

/-- BIST_LCS_CHALLENGE (R412): a new nonce, whose value the spec leaves open, ends the earlier one. -/
def execBistLcsChallenge (p : Packet) (s : State) : Out :=
  done (s.command Op.bistLcsChallenge p (fun s =>
    if s.bist.lockAt.isSome then s.reply Status.state 0 []
    else
      let n := s.draw.1 % 2 ^ 64
      (s.draw.2.onBist (fun b => { b.dropNonce with nonce := some n, nonceAt := s.mono })).reply Status.ok 0
        [lo32 n, hi32 n, lo32 s.otp.serial, hi32 s.otp.serial]))

/-- BIST_LCS_TOKEN (R412): one half of the token, 32 bytes. -/
def execBistLcsToken (p : Packet) (s : State) : Out :=
  done (s.command Op.bistLcsToken p (fun s =>
    let half := bytesOf ((List.range 8).map (fun i => p.word (i + 1)))
    if s.bist.nonce.isNone then s.reply Status.state 0 []
    else (s.onBist (fun b => if wbit (p.word 0) 0 then { b with halfS := some half } else { b with halfR := some half })).reply
      Status.ok 0 []))

/-- The message that a token signs (R412): serial, nonce, target state, 7 zero bytes. -/
def tokenMessage (serial nonce target : Nat) : List Byte := leBytes 8 serial ++ leBytes 8 nonce ++ leBytes 8 target

/-- Whether the token halves verify for a target state (R412). -/
def State.tokenOk (s : State) (target : Nat) : Bool :=
  match s.otp.serviceKey, s.bist.nonce, s.bist.halfR, s.bist.halfS with
  | some k, some n, some r, some t => Config.ecdsaVerify k (Config.sha256 (tokenMessage s.otp.serial n target)) r t
  | _, _, _, _ => false

/-- An AUTH_FAIL result (R412): counted, the nonce spent; the third in a row starts the lockout. -/
def State.authFails (s : State) : State :=
  (s.incFld Reg.genLcs 24 8).onBist (fun b => { b.dropNonce with
    authRun := b.authRun + 1, lockAt := if b.authRun + 1 ≥ 3 then some s.mono else b.lockAt })

/-- A life-cycle state taken (R411): SERVICE is held in the device only, the others in OTP. -/
def State.takeLcs (s : State) (target : Nat) : State :=
  s.reacting (fun s =>
    let t := s.onBist (fun b => { b with lcs := target, retireDue := b.retireDue || target == 4 })
    if target = 3 then t else { t with otp := { t.otp with lcs := target } })

/-- What a transition of R411 needs: none for a pair that is not allowed, else whether it needs a token. -/
def lcsPair (old target : Nat) : Option Bool :=
  if (old == 0 && target == 1) || (old == 1 && target == 2) || (old == 3 && target == 2) then some false
  else if (old == 2 && target == 3) || ((old == 2 || old == 3) && target == 4) then some true
  else none

/-- Whether MANUFACTURE may not be left yet (R411): GRADE 0, or the serial, the update key or the service key not programmed. -/
def State.unprogrammed (s : State) : Bool :=
  s.otp.grade == 0 || s.otp.serial == 0 || s.otp.updateKey.isNone || s.otp.serviceKey.isNone

/-- BIST_LCS_SET (R411, R412). -/
def execBistLcsSet (p : Packet) (s : State) : Out :=
  let target := field (p.word 0) 0 3
  done (s.command (Op.bistLcsSet (s.lcs == 3 && target == 2)) p (fun s =>
    let old := s.lcs
    let ok := fun (t : State) => (t.takeLcs target).reply Status.ok 0 [word old, word target]
    if target > 4 then s.reply Status.badParam 0 []
    else match lcsPair old target with
      | none => s.reply Status.state 0 []
      | some false => if old = 0 && s.unprogrammed then s.reply Status.state 0 [] else ok s
      | some true =>
        if s.tokenOk target then ok (s.onBist (fun b => { b.dropNonce with authRun := 0 }))
        else s.authFails.reply Status.authFail 0 []))

/-! Events of the life cycle. -/

/-- LCS_RETIRED_RESET (R411): the internal reset that follows entry to RETIRED. -/
def execLcsRetiredReset (s : State) : Out := done (if s.bist.retireDue then s.resetTo .retire else s)

/-- NONCE_EXPIRY (R412): 10 minutes after the challenge. -/
def execNonceExpiry (s : State) : Out :=
  done (if s.bist.nonce.isSome && s.past s.bist.nonceAt (msTicks 600000) then s.onBist Bist.dropNonce else s)

/-- CHALLENGE_LOCKOUT_END (R412): after 60 s. -/
def execChallengeLockoutEnd (s : State) : Out :=
  done (match s.bist.lockAt with
    | some t => if s.past t (msTicks 60000) then s.onBist (fun b => { b with lockAt := none, authRun := 0 }) else s
    | none => s)

/-! Riffle. -/

/-- Ticks of a slot period. -/
def State.slotTicks (s : State) : Nat := msTicks (s.fld Reg.bistCtl 16 8)

/-- RIFFLE_SLOT (R396): a slot falls every PERIOD; a late one does not shift those that follow. At most one slice starts. -/
def execRiffleSlot (s : State) : Out :=
  done (if s.riffleRuns && s.past s.bist.slotAt s.slotTicks then
    let t := s.onBist (fun b => { b with slotAt := s.mono - (s.mono - b.slotAt) % s.slotTicks })
    if t.bist.slice.isNone then t.slotPick else t
  else s)

/-- Whether no decision of an arm is running (R398): no round of it at the HEAD, no part of one at a member. -/
def State.armQuiet (s : State) (a : Nat) : Bool := !s.roundRuns a && (Tab.get (fun _ => none) s.chain.parts a).isNone

/-- Whether the class of a slice lets its requests move now (R398): `n` is the unit that has to have rebuilt, a bank has been copied for
8,192 CCLK, both comparator sets have judged for 2 µs, and no decision of the arm runs. -/
def State.mayMove (s : State) (x : Slice) (n : Nat) : Bool :=
  x.direct || (match blkOf x.block with
    | some (.armUnit u) => s.armQuiet (s.unit u).arm && (s.unit n).rebuild.isNone
    | some (.bank _) => s.past x.since (2 * 8192)
    | some (.compSet _ _) => s.past x.since (usTicks 2)
    | _ => true)

/-- The requests of a block given to its stand-in (R398). -/
def State.handOver (s : State) (x : Slice) : State :=
  match blkOf x.block, x.standIn with
  | some (.engine e), some n => s.engineHandover e n
  | some (.armUnit u), some n => s.unitHandover u n
  | some (.compSet t isB), some _ =>
    s.onBist (fun b => { b with setB := if isB then b.setB.filter (fun v => v != t) else
      (if b.setB.contains t then b.setB else t :: b.setB) })
  | _, _ => s

/-- The slice changed. -/
def State.onSlice (s : State) (f : Slice → Slice) : State := s.onBist (fun b => { b with slice := b.slice.map f })

/-- RIFFLE_HANDOVER (R397, R398, R390): PREPARE is done; an engine finishes the task it runs before its TEST. -/
def execRiffleHandover (s : State) : Out :=
  done (match s.bist.slice with
    | some x =>
      if s.served && !x.direct && x.phase == .prepare && s.mayMove x (x.standIn.getD 0) then
        ((s.handOver x).openShadow (.riffle x.block)).onSlice (fun y => { y with
          phase := match blkOf x.block with | some (.engine _) => .handover | _ => .test })
      else s
    | none => s)

/-- Whether the TEST of a slice may have run: its phase is TEST, or the engine handed over has ended its task. -/
def State.tested (s : State) (x : Slice) : Bool :=
  x.phase == .test || (x.phase == .handover && (match blkOf x.block with
    | some (.engine e) => (s.engine e).task.isNone && (s.engine e).state == .underTest
    | _ => true))

/-- RIFFLE_TEST_END (R397, R399): the MISR and the pattern count captured, REINIT begins. -/
def execRiffleTestEnd (misr : BitVec 64) (count : BitVec 32) (s : State) : Out :=
  done (match s.bist.slice with
    | some x =>
      if s.served && s.tested x then
        let t := s.onSlice (fun y => { y with phase := .reinit, misr := misr.toNat, count := count.toNat, since := s.mono })
        let u := ((t.setReg Reg.bistLsigLo (lo32 misr.toNat)).setReg Reg.bistLsigHi (hi32 misr.toNat)).setReg Reg.bistLcnt count
        match blkOf x.block with
        | some (.armUnit n) => if x.direct then u else u.onUnit n (fun v => { v with rebuild := some s.mono })
        | _ => u
      else s
    | none => s)

/-- Whether the stand-in of a slice can give the role back: an engine's running task has ended (R398). -/
def State.standInIdle (s : State) (x : Slice) : Bool :=
  match blkOf x.block, x.standIn with
  | some (.engine _), some n => (s.engine n).task.isNone && (s.engine n).state == .standin
  | _, _ => true

/-- RIFFLE_RETURN (R397, R398, R405): after REINIT the block has its requests back; its verdict waits for the house rounds, or is ABORTED
at once. -/
def execRiffleReturn (s : State) : Out :=
  done (match s.bist.slice with
    | some x =>
      if s.served && x.phase == .reinit && s.standInIdle x && s.mayMove x (x.block - 0x020) then
        let t := (s.onBist (fun b => { b with slice := none })).sliceReturn x
        let u := match blkOf x.block, x.standIn with
          | some (.armUnit _), some n => if t.bist.waiting.contains (0x020 + n) then t.onUnit n (fun v => { v with rebuild := none }) else t
          | _, _ => t
        if x.aborted then u.giveVerdict x .aborted
        else u.onBist (fun b => { b with judging := b.judging ++ [{ x with round1 := false, round3 := false }] })
      else s
    | none => s)

/-- RIFFLE_VERDICT (R399 to R401): the first house round on both AD1 and AD3 after RETURN has completed. -/
def execRiffleVerdict (s : State) : Out :=
  done (match s.bist.judging with
    | x :: xs =>
      if s.served && x.round1 && x.round3 then (s.onBist (fun b => { b with judging := xs })).giveVerdict x x.verdict else s
    | [] => s)

/-! Full BIST (R407 to R409). -/

/-- Whether the reply of an opcode has not been written yet: its task runs, or its completion is due. -/
def State.replyDue (s : State) (op : Op) : Bool :=
  s.host.results.any (fun r => r.2.opcode == op.code) || s.host.queues.any (fun q => q.2.due.any (fun r => r.opcode == op.code))

/-- FULL_BIST_START (R407, R408): once the reply has been written; every output is in its reset state and the PCIe link is down until the
reset that ends the test; SRAM contents are lost. -/
def execFullBistStart (s : State) : Out :=
  done (if s.bist.full == .accepted && !s.replyDue Op.bistFull then
    let t := s.resetTo .bist
    (t.setReg Reg.pwrReset (s.reg Reg.pwrReset)).onBist (fun b => { b with full := .running, lcs := s.lcs })
  else s)

/-- The blocks that full BIST tests (R408). -/
def fullBlocks : List Nat := (List.range 512).filter (fun id => (blkOf id).isSome)

/-- The end of full BIST (R409, R430): its results, and the internal reset. A test that a sag ended gives no block a verdict. -/
def State.endFull (s : State) (fails : List (Fin 512)) (aborted : Bool) : State :=
  let bad := fullBlocks.filter (fun id => fails.any (fun f => f.val == id))
  let t := s.setReg Reg.bistFres (pack [(0, 1), (2, if aborted then 3 else if bad.isEmpty then 1 else 2),
    (16, if aborted then 0 else bad.length)])
  let u := if aborted then t else t.each fullBlocks (fun t id =>
    t.setReg (Reg.bistBstat id) (pack [(11, 1), (8, if bad.contains id then RifVerdict.fail.code else RifVerdict.pass.code)]))
  u.resetTo .bist

/-- FULL_BIST_END (R409, R430): `fails` are the blocks that failed, `aborted` a test that ended without verdicts. -/
def execFullBistEnd (fails : List (Fin 512)) (aborted : Bool) (s : State) : Out :=
  done (if s.bist.full == .running then s.endFull fails aborted else s)

end Sys2Proof.Machine
end

