-- ==== Sys2Proof/Machine/Clk.lean ====
section
/-! DEFINITION. Clocks and die links (R19 to R34, R77, R78, R499, R501). -/

namespace Sys2Proof.Machine

/-- PLLA_LOCK_RETRY (R28): acquisition goes on; the device stays as it is. -/
def execPllaLockRetry (s : State) : Out := done s

/-- PLLA_LOCK (R25, R34): the clocks start and the device time counter starts from 0. -/
def execPllaLock (s : State) : Out :=
  done (if s.pwr.boot == .booting && !s.clk.running then
    (s.onClk (fun c => { c with running := true, time := 0 })).setFld Reg.genClkstat 0 5 0x1F
  else s)

/-! Held dies and lines (R31, R33, R77, R78). -/

/-- What ends where a die or both hold husk values (R73, R77, R499): proving in progress and the rail conditions of the groups. -/
def State.holdDie (s : State) (d : Nat) : State :=
  let t := s.each ((List.range 64).map (fun i => 64 * d + i)) State.leaveSteady
  t.each ((List.range 4).map (fun i => 4 * d + i)) (fun t g => (t.endRail g).onGroup g (fun r => { r with reached := false }))

/-- A string at the release (R78). -/
def State.releaseStr (s : State) (str : Nat) : State :=
  let x := s.str str
  if x.state == .cut || x.state == .sagCut then s
  else if s.enabled str && confCur s.conf str != 0 then s.setStr str { x with state := .waitRail, cur := 0 }
  else s.setStr str { x with state := .disabled, cur := 0 }

/-- The shunts, rails and strings of a die at the release (R33, R78, R499): `rails` are the measured rails of its four groups. -/
def State.releaseDie (s : State) (d : Nat) (rails : List Nat) : State :=
  let r := s.followDie d
  let t := r.each (List.range 4) (fun s i => (s.measure (4 * d + i) (rails.getD i 0)).resumeRail (4 * d + i))
  (t.each ((List.range 64).map (fun i => 64 * d + i)) State.releaseStr).review

/-! The watch. -/

/-- CLK_LOSS (R30, R31, R361, R405, R501): every lamp takes its preloaded husk value; the recorder has no clock to note it. The watch
asserts the husk line; `ref` says whether REFCLK edges are seen. -/
def execClkLoss (ref : Bool) (s : State) : Out :=
  done (if s.clk.running && !s.clk.lost then
    s.reacting (fun s =>
      let p := s.each [0, 1] (fun p d => p.when (!(s.die d).ownHusk) (fun p => p.preloadDie d false))
      let t := ((p.setFld Reg.genClkstat 2 2 0).setBit Reg.genClkstat 0 false).setFld Reg.genClkstat 4 2 (2 + flag ref)
      let u := t.onClk (fun c => { c with running := false, lost := true, huskLine := true })
      (((u.holdDie 0).holdDie 1).abortSlice.stopConvs).reportNow Code.clkLoss 0xFFFF)
  else s)

/-- A stream after the device time has restarted (R32): nothing sent before; a framed lane that is not DARK sends K28.5 from the first
symbol boundary on, at time 0 (R92, R104). -/
def Stream.restarted (st : Stream) : Stream :=
  { st with
    now := if st.content.aspect == .dark then none else some ⟨.restart, st.content, st.seq, [], 0, 0⟩,
    last := none, sentNew := [], lastEnd := 0, negative := true }

/-- What fell out of lock without PLL-A is reported at the re-lock (R29, R289, R501). -/
def State.heldLocks (s : State) : State :=
  let c := s.clk
  let t := s.onClk (fun c => { c with dramOut := false, tribOut := false, pcieOut := false })
  let u := t.when c.dramOut (fun t => t.reportNow Code.dramClk 0xFFFF)
  let v := u.when c.tribOut (fun u => (u.portDown 0 true).portDown 1 true)
  v.when c.pcieOut State.loseLink

/-- The GEN_CLKSTAT lock bits at the re-lock: PLL-A in lock, the others as they are. -/
def State.relockBits (s : State) : Nat :=
  0x11 + 2 * s.fld Reg.genClkstat 1 1 + 4 * flag (!s.clk.tribOut) + 8 * flag (!s.clk.pcieOut)

/-- PLLA_RELOCK (R32, R390, R501): time restarts from 0, CLK_LOSS and the restart are logged, and the device goes on in the husk
state; a MEMBER has lost ring contact. -/
def execPllaRelock (s : State) : Out :=
  done (if s.clk.lost then
    s.reacting (fun s =>
      let t := (s.sealRecords.onClk (fun c => { c with running := true, lost := false, time := 0, slew := 0, relockAt := c.ticks })).setFld
        Reg.genClkstat 0 5 s.relockBits
      let u := t.onLamps (fun l => { l with streams := Tab.mapVals (fun _ => Stream.reset) l.streams (fun _ st => st.restarted) })
      let v := (((u.each (u.lamps.streams.map Prod.fst) State.follow).openShadow .relock).endCause Code.clkLoss 0xFFFF).reportNow
        Code.timeRestart 0xFFFF
      ((v.when (v.chain.role == .member) State.loseContact).heldLocks).sampleAll [])
  else s)

/-- HUSK_LINE_RELEASE (R33, R78, R361): 1 µs after the re-lock; `rails` are the measured rails of the eight groups. A die that holds
its own husk values keeps them. -/
def execHuskLineRelease (rails : List Nat) (s : State) : Out :=
  done (if s.clk.huskLine && !s.clk.lost && s.past s.clk.relockAt (usTicks 1) then
    s.reacting (fun s =>
      let t := s.onClk (fun c => { c with huskLine := false })
      let u := t.each [0, 1] (fun t d => if (t.die d).ownHusk then t else t.releaseDie d (rails.drop (4 * d)))
      u.restartConvs)
  else s)

/-- CCLK_DEV of a window (R29): 0.02 % a step, magnitude rounded up, saturating at ±127. -/
def cclkDev (edges : Nat) : Int :=
  if edges ≥ 40960 then (min (ceilDiv ((edges - 40960) * 5000) 40960) 127 : Nat)
  else -((min (ceilDiv ((40960 - edges) * 5000) 40960) 127 : Nat) : Int)

/-- CLK_WINDOW_END (R29, R400): CCLK_DEV, and CLK_DRIFT beyond 204 edges; slices that overlap the window are VOID. -/
def execClkWindowEnd (edges : Nat) (s : State) : Out :=
  done (if s.clk.running && !s.clk.lost then
    let t := s.setFld Reg.genClkstat 8 8 (unsigned 8 (cclkDev edges))
    let u := if (cclkDev edges).natAbs > 25 then t.voidSlices else t
    if (edges - 40960) + (40960 - edges) > 204 then (u.setBit Reg.genClkstat 6 true).reportNow Code.clkDrift 0xFFFF else u
  else s)

/-- DRAM_CLK (R29): PLL-B out of lock; the watch sees it without PLL-A too, and it is reported at the re-lock then. -/
def execDramClk (s : State) : Out :=
  done (if s.bit Reg.genClkstat 1 && (s.clk.running || s.clk.lost) then
    let t := s.setBit Reg.genClkstat 1 false
    if s.clk.lost then t.onClk (fun c => { c with dramOut := true }) else t.reportNow Code.dramClk 0xFFFF
  else s)

/-- TRIB_PLL_LOSS (R29): TRIB_LINK is reported for both ports, at the re-lock where PLL-A is lost (R501). -/
def execTribPllLoss (s : State) : Out :=
  done (if s.clk.lost then s.onClk (fun c => { c with tribOut := true })
    else if s.clk.running then ((s.setBit Reg.genClkstat 2 false).portDown 0 true).portDown 1 true else s)

/-- PCIE_REFCLK_LOSS (R29, R289): the link goes down and HOST_LINK is reported, at the re-lock where PLL-A is lost (R501). -/
def execPcieRefclkLoss (s : State) : Out :=
  done (if s.clk.lost then s.onClk (fun c => { c with pcieOut := true })
    else if s.clk.running then (s.setBit Reg.genClkstat 3 false).loseLink else s)

/-! Die links (R22, R33, R391). -/

/-- DIE_LINK reported for a die; its cause lasts while the die holds husk values (R369). -/
def State.reportDie (s : State) (d : Nat) : State :=
  let t := s.report ⟨Code.dieLink, d, none, none, 0, 0, s.now, false, false⟩
  if (t.die d).ownHusk then t else t.endCause Code.dieLink d

/-- A die applies its preloaded husk values by itself (R22, R78, R181). -/
def State.huskDie (s : State) (d : Nat) : State :=
  if (s.die d).ownHusk then s
  else (((s.when (!s.clk.huskLine) (fun s => s.preloadDie d true)).onDie d (fun x => { x with ownHusk := true })).holdDie d).review

/-- A control-bus parity error seen by a lamp die (R22): the third in a row, with no good word between, husks it. -/
def State.parityError (s : State) (d : Nat) (fresh : Bool) : State :=
  let run := if fresh then 1 else (s.die d).parity + 1
  let t := s.onDie d (fun x => { x with parity := min run 3 })
  if 3 ≤ run then t.huskDie d else t

/-- DIE_LINK_ERROR (R22): a parity error or a readback mismatch; the third consecutive control-bus error husks the die. -/
def execDieLinkError (die : Fin 2) (e : LinkError) (s : State) : Out :=
  done (if !s.clk.running || s.clk.lost then s
    else s.reacting (fun s =>
      match e with
      | .control fresh => s.injecting (0x28 + die) 0 (fun s => (s.parityError die fresh).reportDie die)
      | .status => s.injecting (0x2A + die) 0 (fun s => s.reportDie die)
      | .readback _ => s.reportDie die))

/-- DIE_RESYNC_WORD (R33, R78): the first one after 64 good words releases the die's husk values and ends the cause of DIE_LINK. -/
def execDieResyncWord (die : Fin 2) (good : Nat) (rails : List Nat) (s : State) : Out :=
  done (if s.clk.running && !s.clk.lost && (s.die die).ownHusk && decide (good ≥ 64) then
    s.reacting (fun s =>
      let t := s.onDie die (fun x => { x with ownHusk := false, parity := 0 })
      ((if t.clk.huskLine then t else t.releaseDie die rails).review).endCause Code.dieLink die)
  else s)

end Sys2Proof.Machine
end

