-- ==== Sys2Proof/Machine/Image.lean ====
section
/-! DEFINITION. Update images (R438 to R441): manifests, deltas, the checks of apply, verify and boot, and the boot record (R448, R449). -/

namespace Sys2Proof.Machine

/-! The manifest (R439). -/

/-- A little-endian number of n bytes at an offset. -/
def leAt (bs : List Byte) (off n : Nat) : Nat := leNat ((bs.drop off).take n)

/-- Whether n bytes from an offset on are all 0. -/
def zerosAt (bs : List Byte) (off n : Nat) : Bool := ((bs.drop off).take n).all (fun b => b == 0)

def mfFull (m : List Byte) : Bool := leAt m 0x06 2 % 2 == 1
def mfVersion (m : List Byte) : Nat := leAt m 0x08 4
def mfSvn (m : List Byte) : Nat := leAt m 0x0C 2
def mfParts (m : List Byte) : Nat := leAt m 0x0E 2
def mfSverNew (m : List Byte) : Nat := leAt m 0x10 2
def mfSverMin (m : List Byte) : Nat := leAt m 0x12 2
def mfSverMax (m : List Byte) : Nat := leAt m 0x14 2
def mfSteps (m : List Byte) : Nat := leAt m 0x16 2

/-- Bytes of a manifest that the signature covers. -/
def mfSigned (m : List Byte) : Nat := 0x40 + 96 * mfParts m

/-- Bytes of a manifest. -/
def mfLen (m : List Byte) : Nat := mfSigned m + 64

/-- The entry of part i. -/
def mfPart (m : List Byte) (i : Nat) : List Byte := (m.drop (0x40 + 96 * i)).take 96

def ptType (e : List Byte) : Nat := leAt e 0 1
def ptIndex (e : List Byte) : Nat := leAt e 1 1
def ptTlen (e : List Byte) : Nat := leAt e 4 4
def ptDoff (e : List Byte) : Nat := leAt e 8 4
def ptDlen (e : List Byte) : Nat := leAt e 0xC 4
def ptTdig (e : List Byte) : List Byte := (e.drop 0x10).take 32
def ptBdig (e : List Byte) : List Byte := (e.drop 0x30).take 32

/-- Every part entry of a manifest. -/
def mfEntries (m : List Byte) : List (List Byte) := (List.range (mfParts m)).map (mfPart m)

/-- Whether a part entry is valid in itself, in a package of a length. -/
def partOk (m : List Byte) (plen : Nat) (e : List Byte) : Bool :=
  decide (1 ≤ ptType e) && decide (ptType e ≤ 5) && decide (ptIndex e ≤ 7) && zerosAt e 2 2 && decide (1 ≤ ptTlen e) &&
  decide (ptTlen e ≤ 0x4000000) && ptDoff e % 16 == 0 && decide (mfLen m ≤ ptDoff e) && decide (ptDoff e + ptDlen e ≤ plen) &&
  zerosAt e 0x50 16 && (!mfFull m || zerosAt e 0x30 32)

/-- Whether no two parts share (TYPE, INDEX). -/
def partsUnique : List (List Byte) → Bool
  | [] => true
  | e :: es => es.all (fun f => !(ptType e == ptType f && ptIndex e == ptIndex f)) && partsUnique es

/-- Check 2 of R445, with FULL as asked for (R460: 1 in SEED). -/
def manifestOk (m : List Byte) (plen : Nat) (full : Bool) : Bool :=
  let es := mfEntries m
  leAt m 0 4 == 0x46534D5A && leAt m 4 2 == 1 && leAt m 6 2 == flag full && decide (1 ≤ mfParts m) && decide (mfParts m ≤ 32) &&
  decide (mfLen m ≤ m.length) && zerosAt m 0x18 40 && decide (mfSverMin m ≤ mfSverMax m) && decide (mfSverMax m ≤ mfSverNew m) &&
  es.all (partOk m plen) && partsUnique es && ([1, 2, 3, 5] : List Nat).all (fun t => es.any (fun e => ptType e == t))

/-! Deltas (R440, R441). -/

/-- The ops of a delta run over a base, with the output so far: the target when they are well formed, at most f ops. With `more`, bytes
of the delta are still to come (R460): an op that is not whole yet ends the run with the output so far. -/
def deltaOps (more : Bool) (base : List Byte) (blen tlen : Nat) : Nat → List Byte → List Byte → Option (List Byte)
  | 0, _, _ => none
  | f + 1, ops, out =>
    match ops with
    | [] => if more then some out else none
    | op :: rest =>
      if more && decide ((op = 0x01 ∧ rest.length < 8) ∨ (op = 0x02 ∧ rest.length < 2 + leAt rest 0 2)) then some out
      else if op = 0x00 then (if rest.isEmpty && out.length == tlen then some out else none)
      else if op = 0x01 then
        let off := leAt rest 0 4
        let n := leAt rest 4 4
        if rest.length < 8 || n = 0 || off + n > blen || off + n > base.length || out.length + n > tlen then none
        else deltaOps more base blen tlen f (rest.drop 8) (out ++ (base.drop off).take n)
      else if op = 0x02 then
        let n := leAt rest 0 2
        if rest.length < 2 + n || n = 0 || out.length + n > tlen then none
        else deltaOps more base blen tlen f (rest.drop (2 + n)) (out ++ (rest.drop 2).take n)
      else none

/-- A delta applied to a base: the target part, none when it is malformed (R441); with `more`, as far as it has arrived. -/
def applyDelta (more : Bool) (delta base : List Byte) (tlen : Nat) : Option (List Byte) :=
  if more && decide (delta.length < 16) then some []
  else if leAt delta 0 4 = 0x444D4C52 ∧ leAt delta 4 4 = tlen ∧ 16 ≤ delta.length then
    deltaOps more base (leAt delta 8 4) tlen (delta.length + 1) (delta.drop 16) []
  else none

/-- Whether the deltas of a package are well formed as far as its first bytes go (R460). -/
def deltasSoFar (pkg : List Byte) : Bool :=
  (mfEntries pkg).all (fun e =>
    (applyDelta (decide (pkg.length < ptDoff e + ptDlen e)) ((pkg.drop (ptDoff e)).take (ptDlen e)) [] (ptTlen e)).isSome)

/-! Images. -/

/-- A part of an image by (TYPE, INDEX). -/
def Image.part (g : Image) (type index : Nat) : Option Part := g.parts.find? (fun p => p.type == type && p.index == index)

/-- The base of a part entry: the same part of the active image; none for a part with no base. -/
def baseOf (active : Option Image) (e : List Byte) : List Byte :=
  if zerosAt e 0x30 32 then []
  else match active.bind (fun g => g.part (ptType e) (ptIndex e)) with
    | some p => p.bytes
    | none => []

/-- The parts that a package makes, none when a delta is malformed. -/
def buildParts (pkg : List Byte) (active : Option Image) : List (List Byte) → Option (List Part)
  | [] => some []
  | e :: es =>
    match applyDelta false ((pkg.drop (ptDoff e)).take (ptDlen e)) (baseOf active e) (ptTlen e), buildParts pkg active es with
    | some bs, some ps => some (⟨ptType e, ptIndex e, bs⟩ :: ps)
    | _, _ => none

/-- The image that a package makes of the active image. -/
def buildImage (pkg : List Byte) (active : Option Image) : Option Image :=
  (buildParts pkg active (mfEntries pkg)).map (fun ps => ⟨pkg.take (mfLen pkg), ps⟩)

/-- Whether the parts of a manifest fit an image slot (R438): manifest copy, directory, parts on 4 KB boundaries. -/
def partsFit (m : List Byte) (n : Nat) : Bool :=
  decide (0x40000 + 0x2000 + ((mfEntries m).map (fun e => 4096 * ceilDiv (ptTlen e) 4096)).sum ≤
    min 134217728 (max 16777216 (Config.flashSize n)))

/-- Whether every base digest of a manifest is that of the active image's part (R445, check 5). -/
def basesOk (m : List Byte) (active : Option Image) : Bool :=
  (mfEntries m).all (fun e => zerosAt e 0x30 32 || (match active.bind (fun g => g.part (ptType e) (ptIndex e)) with
    | some p => Config.sha256 p.bytes == ptBdig e
    | none => false))

/-- Checks 2 to 5 of R445: status and detail of the first that fails. -/
def State.applyFault (s : State) (m : List Byte) (plen slot : Nat) (active : Option Image) (full : Bool) : Option (Nat × Nat) :=
  if !manifestOk m plen full then some (Status.badParam, 0x80)
  else if !(mfSteps m).testBit s.otp.step then some (Status.state, 0x89)
  else if mfSvn m < s.bootRec.svnMin then some (Status.state, 0x85)
  else if !partsFit m slot then some (Status.badParam, 0x86)
  else if !basesOk m active then some (Status.badParam, 0x81)
  else none

/-- Whether every part's digest matches its TDIG (R446). -/
def digestsOk (g : Image) : Bool :=
  (mfEntries g.manifest).all (fun e => match g.part (ptType e) (ptIndex e) with
    | some p => Config.sha256 p.bytes == ptTdig e
    | none => false)

/-- Whether the signature of a manifest copy verifies against the update key (R439). -/
def State.signatureOk (s : State) (m : List Byte) : Bool :=
  match s.otp.updateKey with
  | some k => Config.ecdsaVerify k (Config.sha256 (m.take (mfSigned m))) ((m.drop (mfSigned m)).take 32) ((m.drop (mfSigned m + 32)).take 32)
  | none => false

/-- Whether check 3 of R446 is not made (R447). -/
def State.needsNoSignature (s : State) : Bool := s.lcs == 0 && s.otp.updateKey.isNone

/-- The image check of a slot (R451, R447). -/
def State.imageOk (s : State) (n : Nat) : Bool :=
  match (s.dev n).image with
  | some g =>
    (if (s.bootRec.slot n).unsignedImg then s.lcs == 0 else s.signatureOk g.manifest) && digestsOk g &&
    decide (s.bootRec.svnMin ≤ mfSvn g.manifest) && (mfSteps g.manifest).testBit s.otp.step
  | none => false

/-! The boot record. -/

/-- A boot record with what a slot's entry becomes. -/
def BootRec.onSlot (r : BootRec) (n : Nat) (f : SlotRec → SlotRec) : BootRec :=
  if n = 0 then { r with a := f r.a } else { r with b := f r.b }

/-- Both copies of a boot record written (R449): the MRAM copy, then the next entry of the 64 KB ring, where it is not the newest already;
when the ring is full it is erased first. -/
def Update.putRec (u : Update) (r : BootRec) : Update :=
  if u.ring.head? == some r then { u with mram := some r }
  else if u.ring.length ≥ 1024 then { u with mram := some r, ring := [r], wearA := u.wearA + 1 }
  else { u with mram := some r, ring := r :: u.ring }

/-- The boot record written (R449): SEQ incremented, both copies. -/
def State.writeRec (s : State) (f : BootRec → BootRec) : State :=
  let r := f s.bootRec
  s.onUpd (fun u => u.putRec { r with seq := wrap 32 (s.bootRec.seq + 1) })

/-- A flash device changed. -/
def State.onDev (s : State) (n : Nat) (f : FlashDev → FlashDev) : State :=
  s.onUpd (fun u => if n = 0 then { u with devA := f u.devA } else { u with devB := f u.devB })

/-- A slot marked with a state. -/
def SlotRec.mark (st : SlotState) (x : SlotRec) : SlotRec := { x with state := st }

/-- An erase of a flash device counted (R257). -/
def State.wear (s : State) (n : Nat) : State :=
  s.onUpd (fun u => if n = 0 then { u with wearA := u.wearA + 1 } else { u with wearB := u.wearB + 1 })

/-- Before the first erase: the slot is marked DIRTY, then erased (R445, R460). -/
def State.dirtySlot (s : State) (n : Nat) : State :=
  ((s.writeRec (fun r => r.onSlot n (fun _ => ⟨.dirty, false, 0, 0⟩))).onDev n (fun d => { d with image := none })).wear n

/-- The slot written with an image and marked APPLIED (R445). -/
def State.putImage (s : State) (n : Nat) (g : Image) : State :=
  (s.onDev n (fun d => { d with image := some g })).writeRec (fun r =>
    r.onSlot n (fun _ => ⟨.applied, false, mfVersion g.manifest, mfSvn g.manifest⟩))

/-- A fallback record (R451): the trial slot FAILED, the other ACTIVE and named, no trial, and the cause; UPD_FALLBACK is reported, and
source 39 raised (R461, R462). -/
def State.fallBack (s : State) (bad cause : Nat) : State :=
  (((s.writeRec (fun r => { (r.onSlot bad (SlotRec.mark .failed)).onSlot (1 - bad) (SlotRec.mark .active) with
    active := 1 - bad, trial := false, fbcause := cause })).reportNow Code.updFallback 0xFFFF)).irq 39

end Sys2Proof.Machine
end

