-- ==== Sys2Proof/Machine/Upd.lean ====
section
/-! DEFINITION. Firmware update: the commands of group 0C and the events of their operations (R442 to R461). -/

namespace Sys2Proof.Machine

/-- The slot that update writes: the target that SEED names, else the one that does not run (R442, R460). -/
def State.inactive (s : State) : Nat := if s.upd.run = 2 then s.upd.target else 1 - s.upd.run

/-- Whether the Seed ROM runs (R459). -/
def State.inSeed (s : State) : Bool := s.pwr.boot == .seed

/-- The image that runs, or none in SEED. -/
def State.activeImage (s : State) : Option Image := if s.upd.run < 2 then (s.dev s.upd.run).image else none

/-- Whether an operation runs (R443). -/
def State.updRuns (s : State) : Bool := s.upd.stage == .apply || s.upd.stage == .verify

/-- The staging pages given back (R260). -/
def State.dropStaging (s : State) : State :=
  ((s.freePagesBack s.upd.pages).onFab (fun f => { f with dram := { f.dram with usedUpd := 0 } })).onUpd (fun u => { u with
    pages := [], chunks := [], pieces := [] })

/-- n pages taken for staging, none when they cannot be had (R444). -/
def State.takeStaging : Nat → State → Option State
  | 0, s => some s
  | n + 1, s =>
    match s.allocPage 1 with
    | some (p, t) =>
      (t.onUpd (fun u => { u with pages := p :: u.pages })
        |>.onFab (fun f => { f with dram := { f.dram with usedUpd := f.dram.usedUpd + 1 } })).takeStaging n
    | none => none

/-- The chunks of a package of a length. -/
def chunkCount (plen : Nat) : Nat := ceilDiv plen 4096

/-- The length of chunk k of a package. -/
def chunkLen (plen k : Nat) : Nat := min 4096 (plen - 4096 * k)

/-- A stage taken. -/
def State.toStage (s : State) (g : Stage) : State := s.onUpd (fun u => { u with stage := g })

/-! The download (R444, R460). -/

/-- UPD_BEGIN (R444, R460, R461). -/
def execUpdBegin (p : Packet) (s : State) : Out :=
  done (s.command Op.updBegin p (fun s =>
    let n := (p.word 0).toNat
    let fresh := fun (t : State) => (t.onUpd (fun u => { u with
      stage := .download, plen := n, chunks := [], pieces := [] })).reply Status.ok 0 [word (chunkCount n)]
    if s.updRuns then s.reply Status.busy 0 []
    else if s.upd.stage != .idle && s.upd.stage != .confirmed then s.reply Status.state 0 []
    else if s.inSeed then
      (if n < 64 ∨ n > 268435456 then s.reply Status.badParam 0x86 []
       else
        let slot := field (p.word 1) 0 1
        fresh ((s.onUpd (fun u => { u with target := slot })).dirtySlot slot))
    else if s.fab.dram.total = 0 then s.reply Status.state 0 []
    else if n < 64 ∨ n > 268435456 ∨ ceilDiv n 65536 > s.fld (Reg.fabAquota 1) 0 17 then s.reply Status.badParam 0x86 []
    else match s.takeStaging (ceilDiv n 65536) with
      | some t => fresh t
      | none => (s.countRefusal 1).reply Status.busy 0 []))

/-- The package as stored. -/
def Update.package (u : Update) : List Byte := (u.chunks.map Prod.snd).flatten

/-- A chunk stored (R444, R460): in SEED chunk 0 must hold a valid manifest, each chunk is applied as it arrives, and the last completes the
slot. -/
def State.storeChunk (s : State) (k : Nat) (bs : List Byte) : Result :=
  let t := s.onUpd (fun u => { u with
    chunks := Tab.put (fun _ => []) u.chunks k bs, pieces := u.pieces.filter (fun x => x.chunk != k) })
  let whole := decide (t.upd.chunks.length = chunkCount s.upd.plen)
  let ok := fun (v : State) => v.reply Status.ok 0 [word v.upd.chunks.length]
  if !s.inSeed then ok (if whole then (t.toStage .downloaded).irq 39 else t)
  else
    let pkg := t.upd.package
    let fault := if k = 0 then s.applyFault bs s.upd.plen s.upd.target none true else none
    match fault with
    | some f => s.reply f.1 f.2 []
    | none =>
      if !deltasSoFar pkg then s.reply Status.badParam 0x83 []
      else if !whole then ok t
      else match buildImage pkg none with
        | some g => ok (((t.putImage s.upd.target g).toStage .applied).irq 39)
        | none => s.reply Status.badParam 0x83 []

/-- The pieces of a chunk with one more (R444): a piece sent again replaces the earlier copy. -/
def Update.piecesWith (u : Update) (k len crc off : Nat) (bs : List Byte) : Pieces :=
  let old := match u.pieces.find? (fun x => x.chunk == k) with | some x => x.got.filter (fun e => e.1 != off) | none => []
  ⟨k, len, crc, insertBy (fun a b => decide (a.1 < b.1)) (off, bs) old⟩

/-- Whether every byte of a chunk has arrived. -/
def Pieces.whole (x : Pieces) : Bool :=
  (List.range (ceilDiv x.len 32)).all (fun j => x.got.any (fun e => e.1 == 32 * j && e.2.length == min 32 (x.len - 32 * j)))

/-- The bytes of the pieces, in order. -/
def Pieces.bytes (x : Pieces) : List Byte := (x.got.map Prod.snd).flatten

/-- A piece taken (R444): the CRC is judged when the last byte arrives; on a mismatch the pieces are dropped. -/
def State.takePiece (s : State) (k len crc off : Nat) (bs : List Byte) : Result :=
  let x := s.upd.piecesWith k len crc off bs
  if !x.whole then
    let t := s.onUpd (fun u => { u with pieces := x :: u.pieces.filter (fun y => y.chunk != k) })
    t.reply Status.ok 0 [word t.upd.chunks.length]
  else if crc32 x.bytes ≠ crc then
    (s.onUpd (fun u => { u with pieces := u.pieces.filter (fun y => y.chunk != k) })).reply Status.badParam 0x82 []
  else s.storeChunk k x.bytes

/-- UPD_CHUNK (R444, R460, R461). -/
def execUpdChunk (p : Packet) (s : State) : Out :=
  done (s.command Op.updChunk p (fun s =>
    let k := field (p.word 0) 0 16
    let len := field (p.word 1) 0 13
    let crc := (p.word 2).toNat
    let off := field (p.word 3) 0 12
    let size := p.len.toNat - 16
    if s.updRuns then s.reply Status.busy 0 []
    else if s.upd.stage != .download then s.reply Status.state 0 []
    else if k ≥ chunkCount s.upd.plen || len ≠ chunkLen s.upd.plen k then s.reply Status.badParam 0 []
    else if s.inSeed && decide (k ≠ s.upd.chunks.length) then s.reply Status.state 0x8B []
    else if p.hasPtr then
      (let bs := s.dmaRead p.ptr.toNat len
       if crc32 bs ≠ crc then s.reply Status.badParam 0x82 [] else s.storeChunk k bs)
    else if off % 32 ≠ 0 || size = 0 || decide (off + size > len) then s.reply Status.badParam 0 []
    else s.takePiece k len crc off ((p.params.drop 16).take size)))

/-! Apply and verify (R445 to R447). -/

/-- The end of an operation (R443): RESULT and DETAIL, source 39, the stage it leaves, the reply of its command. -/
def State.endUpd (s : State) (op : Op) (g : Stage) (status detail : Nat) (data : List Word) : State :=
  let t := (s.onUpd (fun u => { u with stage := g, op := none, result := status, detail := detail })).irq 39
  match s.upd.op with
  | some p => t.answer op p status detail data
  | none => t

/-- UPD_APPLY (R445): checks 1 to 5 at once; then the slot is DIRTY and erased, and the deltas are being applied. -/
def execUpdApply (p : Packet) (s : State) : Out :=
  done (s.command Op.updApply p (fun s =>
    if s.updRuns then s.reply Status.busy 0 []
    else if s.upd.stage != .downloaded then s.reply Status.state 0 []
    else
      match s.applyFault s.upd.package s.upd.plen s.inactive s.activeImage false with
      | some f => ((s.onUpd (fun u => { u with result := f.1, detail := f.2 })).irq 39).reply f.1 f.2 []
      | none => ((s.dirtySlot s.inactive).onUpd (fun u => { u with stage := .apply, op := some p })).later))

/-- UPD_APPLY_DONE (R445, check 6): the parts written and the slot APPLIED, or a malformed delta, or a flash error; a failure leaves the
slot DIRTY and the package staged. -/
def execUpdApplyDone (flashError : Bool) (s : State) : Out :=
  done (if s.upd.stage == .apply && s.serving then
    match buildImage s.upd.package s.activeImage with
    | none => s.endUpd Op.updApply .downloaded Status.badParam 0x83 []
    | some g =>
      if flashError then s.endUpd Op.updApply .downloaded Status.busy 0x84 []
      else ((s.putImage s.inactive g).dropStaging).endUpd Op.updApply .applied Status.ok 0 [word g.parts.length]
  else s)

/-- UPD_VERIFY (R446). -/
def execUpdVerify (p : Packet) (s : State) : Out :=
  done (s.command Op.updVerify p (fun s =>
    if s.updRuns then s.reply Status.busy 0 []
    else if s.upd.stage != .applied then s.reply Status.state 0 []
    else (s.onUpd (fun u => { u with stage := .verify, op := some p })).later))

/-- Checks 2 to 4 of R446 over a slot's image. -/
def State.verifyFault (s : State) (g : Image) : Option (Nat × Nat) :=
  if !digestsOk g then some (Status.verifyFail, 0x87)
  else if !s.needsNoSignature && !s.signatureOk g.manifest then some (Status.authFail, 0x88)
  else if mfSvn g.manifest < s.bootRec.svnMin then some (Status.state, 0x85)
  else none

/-- UPD_VERIFY_DONE (R446, R447): the slot VERIFIED, or still APPLIED. -/
def execUpdVerifyDone (s : State) : Out :=
  done (if s.upd.stage == .verify && s.serving then
    match (s.dev s.inactive).image with
    | none => s.endUpd Op.updVerify .applied Status.verifyFail 0x87 []
    | some g =>
      match s.verifyFault g with
      | some f => s.endUpd Op.updVerify .applied f.1 f.2 []
      | none => (s.writeRec (fun r => r.onSlot s.inactive (fun x => { x with
          state := .verified, unsignedImg := s.needsNoSignature }))).endUpd Op.updVerify .verified Status.ok 0 []
  else s)

/-! Activate, confirm, abort, revert (R450 to R453, R458, R461). -/

/-- UPD_ACTIVATE (R450, R460, R461): `flashError`: the record cannot be written. -/
def execUpdActivate (p : Packet) (flashError : Bool) (s : State) : Out :=
  done (s.command Op.updActivate p (fun s =>
    let n := s.inactive
    if s.updRuns then s.reply Status.busy 0 []
    else if s.upd.stage != .verified then s.reply Status.state 0 []
    else if flashError then s.reply Status.busy 0x84 []
    else
      let t := s.writeRec (fun r => { r.onSlot n (SlotRec.mark .trial) with
        active := n, trial := true, tries := 0, window := s.fld Reg.updCtl 0 8 })
      ((t.toStage .activated).irq 39).reply Status.ok 0 [word t.bootRec.seq]))

/-- Ticks of n seconds. -/
def secTicks (n : Nat) : Nat := msTicks (1000 * n)

/-- Whether the confirm window has ended (R453), before this CCLK: a confirm in the CCLK of its end stands (R458). -/
def State.windowEnded (s : State) : Bool :=
  match s.upd.window with
  | some t => s.past t (secTicks (60 * s.bootRec.window) + 2)
  | none => true

/-- UPD_CONFIRM (R453, R456, R461). The old slot becomes PREVIOUS where it was the fallback. -/
def execUpdConfirm (p : Packet) (s : State) : Out :=
  done (s.command Op.updConfirm p (fun s =>
    let n := s.upd.run
    if s.updRuns then s.reply Status.busy 0 []
    else if s.upd.migr = 4 then s.reply Status.migrationFail 0 []
    else if s.upd.stage != .trial || s.windowEnded then s.reply Status.state 0 []
    else
      let t := s.writeRec (fun r => { (r.onSlot n (SlotRec.mark .active)).onSlot (1 - n) (fun x =>
          if x.state == .active || x.state == .previous then { x with state := .previous } else x) with
        trial := false, tries := 0, svnMin := max r.svnMin (r.slot n).svn })
      ((t.onUpd (fun u => { u with stage := .confirmed, window := none })).irq 39).reply Status.ok 0 [word t.bootRec.svnMin]))

/-- UPD_ABORT (R458, R461). -/
def execUpdAbort (p : Packet) (s : State) : Out :=
  done (s.command Op.updAbort p (fun s =>
    let n := s.inactive
    let ok := fun (t : State) => t.reply Status.ok 0 [word s.upd.stage.code]
    match s.upd.stage with
    | .idle | .confirmed | .trial | .fallback => s.reply Status.state 0 []
    | .apply | .verify => s.reply Status.busy 0 []
    | .download | .downloaded => ok (s.dropStaging.toStage .idle)
    | .applied | .verified => ok ((s.writeRec (fun r => r.onSlot n (SlotRec.mark .dirty))).toStage .idle)
    | .activated =>
      ok ((s.writeRec (fun r => { r.onSlot n (SlotRec.mark .verified) with active := 1 - n, trial := false, tries := 0 })).toStage .verified)))

/-- UPD_REVERT (R461). -/
def execUpdRevert (p : Packet) (s : State) : Out :=
  done (s.command Op.updRevert p (fun s =>
    let other := 1 - s.upd.run
    if s.updRuns then s.reply Status.busy 0 []
    else if (s.upd.stage == .idle || s.upd.stage == .confirmed) && (s.bootRec.slot other).state == .previous && s.imageOk other then
      let t := (s.fallBack s.upd.run 5).toStage .fallback
      t.reply Status.ok 0 [word t.bootRec.seq]
    else s.reply Status.state 0 []))

/-- CONFIRM_WINDOW_WARNING (R461): one minute before the window ends. -/
def execConfirmWindowWarning (s : State) : Out :=
  done (match s.upd.window with
    | some t =>
      if s.served && s.upd.stage == .trial && !s.upd.warned && s.past t (secTicks (60 * (s.bootRec.window - 1))) then
        (s.onUpd (fun u => { u with warned := true })).irq 39
      else s
    | none => s)

/-- CONFIRM_WINDOW_END (R453): the device falls back with cause WINDOW; a trial with no fallback slot only ends its window (R451). -/
def execConfirmWindowEnd (s : State) : Out :=
  done (match s.upd.window with
    | some t =>
      if s.served && s.upd.stage == .trial && s.past t (secTicks (60 * s.bootRec.window)) then
        let u := s.onUpd (fun u => { u with window := none })
        if s.upd.nofb then u else (u.fallBack s.upd.run 2).toStage .fallback
      else s
    | none => s)

/-! Settings (R454, R455, R461). -/

/-- The 28 header bytes that the CRC covers, of a half. -/
def SetHalf.head (h : SetHalf) : List Byte :=
  leBytes 4 0x54534553 ++ leBytes 2 h.sver ++ leBytes 2 (flag h.auto) ++ leBytes 4 h.seq ++ leBytes 4 h.origin ++
  leBytes 4 h.body.length ++ leBytes 8 0

/-- A half as it stands in flash: header with CRC, then the body. -/
def SetHalf.image (h : SetHalf) : List Byte := h.head ++ leBytes 4 (crc32 (h.head ++ h.body)) ++ h.body

/-- A half written into the half that is not in force (R454). -/
def FlashDev.putHalf (d : FlashDev) (h : SetHalf) : FlashDev :=
  match d.half0, d.half1 with
  | some a, some b => if a.seq < b.seq then { d with half0 := some h } else { d with half1 := some h }
  | some _, none => { d with half1 := some h }
  | none, _ => { d with half0 := some h }

/-- UPD_SETTINGS_SAVE (R455): SVER is the running image's; a save keeps the ORIGIN of the settings in force (DEDUCED from R456). -/
def execUpdSettingsSave (p : Packet) (s : State) : Out :=
  done (s.command Op.updSettingsSave p (fun s =>
    if s.updRuns then s.reply Status.state 0 []
    else
      let old := s.settings
      let h : SetHalf := ⟨(match s.activeImage with | some g => mfSverNew g.manifest | none => 0), wbit (p.word 0) 0,
        wrap 32 ((match old with | some o => o.seq | none => 0) + 1), (match old with | some o => o.origin | none => 0), s.settingsBody⟩
      ((s.onDev s.upd.run (fun d => d.putHalf h)).wear s.upd.run).reply Status.ok 0 [word h.seq, word h.body.length]))

/-- UPD_SETTINGS_READ (R461): header and body to host memory; nothing where the slot holds no valid settings. -/
def execUpdSettingsRead (p : Packet) (s : State) : Out :=
  done (s.command Op.updSettingsRead p (fun s =>
    let n := if wbit (p.word 0) 0 then 1 - s.upd.run else s.upd.run
    match (s.dev n).settings with
    | some h => (s.dmaWrite p.ptr.toNat h.image).reply Status.ok 0 [word h.image.length, word h.sver]
    | none => s.reply Status.ok 0 [0, 0]))

/-! The sag (R457). -/

/-- What a sag leaves of an update at t0 (R457): a download is dropped, an apply ends with the slot DIRTY, a verify leaves it APPLIED. -/
def State.updAtSag (s : State) : State :=
  let t := s.onUpd (fun u => { u with op := none })
  match s.upd.stage with
  | .download | .downloaded | .apply => t.dropStaging.toStage .idle
  | .verify => t.toStage .applied
  | _ => s

end Sys2Proof.Machine
end

