-- ==== Sys2Proof/Machine/Keep.lean ====
section
/-! DEFINITION. The keep record (R425, R426): its bytes in the keep store, what a save writes, and the retirements a boot restores from it. -/

namespace Sys2Proof.Machine

/-- The STATE word of the record (R425). -/
def KeepState.word : KeepState → Nat
  | .none => 0
  | .started => 0x53540001
  | .valid => 0x56410001

/-- The header bytes 0x0004 to 0x001B. -/
def KeepRec.head (k : KeepRec) : List Byte :=
  leBytes 4 k.seq ++ leBytes 8 k.t0 ++ leBytes 2 k.boot ++ leBytes 2 k.us ++ leBytes 2 k.vin ++ leBytes 2 k.hold ++ leBytes 2 k.flags ++
  leBytes 2 k.body.length

/-- The 16 KB of the keep record region (R257, R425): until step 3 of a save the header but for STATE is the earlier record's. -/
def KeepRec.region (k : KeepRec) : List Byte :=
  let body := match k.torn with
    | some n => (List.range 0x2DD0).map (Config.tornKeep n)
    | none => k.body
  let bs := leBytes 4 k.state.word ++ k.head ++ leBytes 4 (if k.seq = 0 then 0 else crc32 (k.head ++ k.body)) ++
    leBytes 4 (if k.consumed then 0x434F4E53 else 0) ++ List.replicate 28 0 ++ body
  bs ++ List.replicate (0x4000 - bs.length) 0

/-- The aspects in force, 2 bits a lamp (R425, R90). -/
def State.keepAspects (s : State) : List Byte :=
  (List.range 128).map (fun b => BitVec.ofNat 8
    ((List.range 4).map (fun j => (s.stream (4 * b + j)).content.aspect.code * 4 ^ j)).sum)

/-- The lamp words of the record: PRV_LSTAT.STATE, CAUSE and EPOCH. -/
def State.keepLamps (s : State) : List Word :=
  (List.range 512).map (fun l =>
    let p := s.prv l
    pack [(0, s.lampState l), (3, match p.retired with | some c => c.code | none => 0), (16, p.epoch)])

/-- The submodule entries of the record: up to 512 valid ones in ascending SM id, 16 bytes each (R425). -/
def State.keepEntries (s : State) : List Word :=
  let ws := ((s.weir.smt.filter (fun e => e.2.valid)).take 512).flatMap (fun e =>
    let x := e.2
    [pack [(0, e.1), (12, x.arm), (16, x.lamp)], pack [(0, x.vcap), (16, x.age), (24, x.status)],
     (s.smtWords e.1).getD 8 0, word x.swcnt])
  ws ++ List.replicate (2048 - ws.length) 0

/-- The body of the record as the save writes it (R425); LMP_SSTAT is that of t0. -/
def State.keepBody (s : State) : List Byte :=
  s.keepAspects ++ bytesOf (s.keepLamps ++ s.pwr.t0Sstat ++
    (List.range 8).flatMap (fun a => [s.readReg (Reg.weirAref0 a), s.readReg (Reg.weirAref1 a)]) ++
    (List.range 8).flatMap (fun a => [s.readReg (Reg.weirAstat a), s.readReg (Reg.weirAstat2 a)]) ++
    [s.readReg Reg.fioIn, s.readReg Reg.fioOcmd, s.readReg Reg.fioOstat, s.readReg Reg.fioStat] ++ List.replicate 44 0 ++
    s.keepEntries ++ [s.readReg Reg.fltSum, s.readReg Reg.fltHusk, s.readReg Reg.fltLogptr, 0] ++
    (List.range 128).map (fun n => s.readReg (Reg.fltActmap n)))

/-- The duration of a save that ends now, in whole µs, saturating (R425; rounding down: DESIGN CHOICE, log entry 99). -/
def State.saveUs (s : State) : Nat := min ((s.wall - s.pwr.sagMono) / 640) 0xFFFF

/-- The record after step 3 of R425; the service state and the husk are those of t0. -/
def State.finishKeep (s : State) : State :=
  s.onPwr (fun p => { p with keep := ⟨.valid, wrap 32 (p.keep.seq + 1), p.sagTime, wrap 16 s.pwr.boots, s.saveUs, p.sagVin, p.sagHold,
    p.preBase.code + 4 * flag p.preHusk + 8 * flag p.saveTest.isSome, s.keepBody, false, none⟩ })

/-- The lamps that a record names as RETIRED, with the cause recorded. -/
def KeepRec.retired (k : KeepRec) : List (Nat × Cause) :=
  (List.range 512).filterMap (fun l =>
    let w := leAt k.body (0x80 + 4 * l) 4
    if w % 8 = 4 then (Cause.ofCode (w / 8 % 8)).map (fun c => (l, c)) else none)

/-- The retirements of the record restored (R426): no fault, no interrupt, each lamp's epoch incremented; the record is then CONSUMED. -/
def State.restoreRetired (s : State) : State :=
  let t := s.each s.pwr.keep.retired (fun s e => s.onPrv e.1 (fun p => { p with retired := some e.2, epoch := wrap 16 (p.epoch + 1) }))
  t.onPwr (fun p => { p with keep := { p.keep with consumed := true }, restored := true })

end Sys2Proof.Machine
end

