-- ==== Sys2Proof/Machine/Sag.lean ====
section
/-! DEFINITION. The sag sequence (R422 to R424, R427, R430): t0, the cut, the packets, the save, and the return from SAVED (R429). -/

namespace Sys2Proof.Machine

/-- A running LMP commit abandoned at t0 (R430), and the settings application that waited for it goes on. -/
def State.sagCommit (s : State) : State :=
  match s.lamps.commit with
  | some c =>
    let t := s.abandonLmp c Status.state 0x21 0
    (if s.upd.todo.isEmpty then t else t.settingRefused).goOn
  | none => s

/-- The command of an update operation that t0 ends answers BUSY (R423, R457). -/
def State.sagUpdate (s : State) : State :=
  let t := match s.upd.op with
    | some p => s.answer (if s.upd.stage == Stage.verify then Op.updVerify else Op.updApply) p Status.busy 0 []
    | none => s
  t.updAtSag

/-- The lamps that carry a stream: every LAMP position. -/
def State.streamLamps (s : State) : List Nat := (List.range 512).filter (fun l => confMode s.conf l == 1)

/-- The sequence from t0 up to the cut (R423, R425 step 1), for a qualified sag or a save test: `vin` and `hold` are VIN at the
crossing and HOLD at t0. -/
def State.beginSave (s : State) (vin hold : Nat) (test : Option SaveTest) : State :=
  s.reacting (fun s =>
    let t := ({ s with free := s.free + 1 } : State).onPwr (fun p => { p with
      phase := .save, swept := false, hgate := true, boost := false, sagTime := s.now, sagMono := s.wall,
      sagVin := vin, sagHold := hold, preBase := p.base,
      preHusk := s.devHusk, saveTest := test,
      t0Sstat := (List.range 128).map (fun i => s.readReg (Reg.lmpSstat i)),
      keep := { p.keep with state := .started, consumed := false, torn := some s.free } })
    let u := (t.each t.streamLamps (fun t l => t.commandStream .sag l ⟨.block, false, 0, false, 0⟩)).reportNow Code.vinSag 0xFFFF
    ((((u.irq 41).abortSlice.when (s.chain.role == .member) State.loseContact).sagCommit).sagUpdate))

/-! Packets at t0 + 100 µs (R423). -/

/-- Whether a completion of a packet can be written (R423): over the UART always, else with room in the CQ and Bus Master Enable set. -/
def State.canAnswer (s : State) (p : Packet) : Bool := p.uart || (s.busMaster && !(s.queue p.src).cqFull)

/-- BUSY for a command that goes on outside the fabric; one that still runs in it is abandoned with its task. -/
def State.busyFor (s : State) (op : Op) (p : Option Packet) : State :=
  match p with
  | some p => if (s.runningEntry p).isNone && s.canAnswer p then s.answer op p Status.busy 0 [] else s
  | none => s

/-- Proving commands abandoned: a re-admission leaves its lamp retired (R158), a requested trickle test is dropped. -/
def State.dropProving (s : State) : State :=
  s.each ((s.lamps.prove.filter (fun e => e.2.readmit.isSome || e.2.hostReq.isSome)).map Prod.fst) (fun s l =>
    let p := s.prv l
    let t := s.onPrv l (fun p => { p with readmit := none, hostReq := none })
    let u := if p.readmit.isSome then t.retarget [groupOf (strOf l)] else t
    (u.busyFor Op.prvReadmit (p.readmit.bind Prod.snd)).busyFor Op.prvTrickleNow (p.hostReq.map Prod.snd))

/-- The packet and opcode of an urgent request that a calibration command made. -/
def UrgJob.packet : UrgJob → Option (Op × Packet)
  | .host _ => none
  | .zero p => some (Op.msrCalZero, p)
  | .span p _ _ => some (Op.msrCalSpan, p)

/-- Calibration commands abandoned, with their runs. -/
def State.dropCals (s : State) : State :=
  s.each (List.range 4) (fun s ad =>
    let c := s.conv ad
    let t := if c.calRun then s.abortRun ad else s
    (t.onConv ad (fun c => { c with urgent := c.urgent.filter (fun u => !u.job.cal) })).each c.urgent (fun t u =>
      match u.job.packet with
      | some x => t.busyFor x.1 (some x.2)
      | none => t))

/-- Chain commands abandoned. -/
def State.dropChain (s : State) : State :=
  let c := s.chain
  (((s.onChain (fun c => { c with form := none, admitting := none, roleWait := none })).busyFor Op.tribForm (c.form.map Admission.packet)).busyFor
    Op.tribAdmit (c.admitting.map Admission.packet)).busyFor Op.tribSetRole c.roleWait

/-- Self-test commands abandoned. -/
def State.dropSlices (s : State) : State :=
  let b := s.bist
  let t := s.onBist (fun b => { b with now := none, judging := b.judging.map (fun x => { x with packet := none }) })
  (t.busyFor Op.bistSliceNow (b.now.map Prod.snd)).each b.judging (fun t x => t.busyFor Op.bistSliceNow x.packet)

/-- A command packet of the task store ended: with its reply where it has been executed, else with BUSY. The packet of a save test goes on
to SAVED (R437). -/
def State.endPacket (s : State) (i : Nat) : State :=
  let e := s.entry i
  match e.packet with
  | some p =>
    if s.pwr.saveTest.any (fun x => x.packet == p) then s
    else
      let r := match s.host.results.find? (fun r => r.1 == e.order) with
        | some r => r.2
        | none => s.plainReply e p Status.busy 0
      let t := s.onHost (fun h => { h with results := h.results.filter (fun r => r.1 != e.order) })
      let u := if s.canAnswer p then t.completeTask e r else t
      if e.state == .running then (u.onEngine e.engine (fun g => { g with task := none })).endTask i else u.freeTask i
  | none => s

/-- Every command packet ended that t0 found running or not started. -/
def State.dropPackets (s : State) : State :=
  let t := (s.onPwr (fun p => { p with swept := true })).dropProving.dropCals.dropChain.dropSlices
  t.each ((t.fab.store.filter (fun e => e.2.state != .free && e.2.packet.isSome)).map Prod.fst) State.endPacket

/-! The cut (R423, R69, R76). -/

/-- Every string enters SAG_CUT and every drive is held low; rail conditions are judged no more (R499). -/
def State.sagCut (s : State) : State :=
  let t := s.each (List.range 128) (fun s i => (s.leaveSteady i).onStr i (fun x => { x with state := .sagCut, cur := 0 }))
  (t.onPwr (fun p => { p with railsHeld := true })).each (List.range 8) (fun t g =>
    (t.endRail g).onGroup g (fun r => { r with reached := false })) |>.review

/-! SAVED (R427). -/

/-- Entry to SAVED: the record is VALID, the log is mirrored, recorder and converters stop, the queues fetch again and take the UART packets
held; `back`: VIN is above VSAG + 0.5 V (R420, R421); `mirrorBad`: a mirror write fails its verification (R388). -/
def State.enterSaved (s : State) (back mirrorBad : Bool) : State :=
  let t := s.finishKeep
  let u := if s.flt.unposted.isEmpty then t else t.mirrorUnposted mirrorBad
  let v := (u.stopRecorder.stopConvs).onPwr (fun p => { p with
    phase := .saved, hgate := !back, boost := back, statSaves := satAdd 32 p.statSaves 1 })
  let w := (v.irq 41).onHost (fun h => { h with uartHeld := [] })
  w.each s.host.uartHeld (fun w r => w.takeUart r)

/-- The reply of a save test on entry to SAVED (R437): duration, HOLD before and after, VIN above HOLD throughout. -/
def State.endTest (s : State) (us hold : Nat) (above : Bool) : State :=
  match s.pwr.saveTest with
  | some x =>
    (s.onPwr (fun p => { p with saveTest := none })).answer Op.pwrSaveTest x.packet Status.ok 0
      [word us, word x.hold, word hold, word (flag above)]
  | none => s

/-! The warm restart (R429). -/

/-- A string leaves SAG_CUT (R76, R430): DISABLED, or CUT again after a stuck-lit cut. -/
def State.leaveSagCut (s : State) (str : Nat) : State :=
  s.onStr str (fun x => if x.state == .sagCut then { x with state := if x.stuckCut then .cut else .disabled, cur := 0 } else x)

/-- Strings, enables and rails (R429, effect 2; R499): `rails` are the measured rails. -/
def State.resumeStrings (s : State) (rails : List Nat) : State :=
  let t := (s.each (List.range 128) State.leaveSagCut).each (List.range 4) (fun t n => t.setReg (Reg.lmpSen n) 0)
  let u := t.onPwr (fun p => { p with railsHeld := false })
  (u.each (List.range 8) (fun u g => (u.measure g (rails.getD g 0)).resumeRail g)).retarget (List.range 8)

/-- Streams that are husked at the warm restart show their husk aspect from then (R114). -/
def State.huskStreams (s : State) : State :=
  s.each (s.streamLamps.filter s.streamHusked) (fun s l => s.commandStream .husk l (s.huskContent l))

/-- The effects of R429 in its order. -/
def State.warmRestart (s : State) (lost : List (Nat × Nat)) (rails : List Nat) : State :=
  s.reacting (fun s =>
    let t := (s.onPwr (fun p => { p with
      hgate := false, phase := .normal, base := if p.keep.flags % 4 = 1 then .maint else .run,
      statWarm := satAdd 32 p.statWarm 1 })).resumeStrings rails
    (((t.restartRecorder lost).restartConvs).endCause Code.vinSag 0xFFFF).huskStreams)

end Sys2Proof.Machine
end

