-- ==== Sys2Proof/Machine/Boot.lean ====
section
/-! DEFINITION. Boot (R4, R431, R432, R449 to R456, R459, R468, R474): what runs after a reset, and the state at RUN-ready. -/

namespace Sys2Proof.Machine

/-! What the keep store and the flash hold at a boot. -/

/-- Blocks of the keep store and copies of the boot record that fail their check are not used (R359, R389, R426, R449); a lost calibration
block is reported once, DIRTY slots are reported (R457), and the copies of the boot record are made equal. -/
def State.readStores (s : State) (o : BootObs) : State :=
  let t := (s.onMsr (fun m => { m with cals := m.cals.filter (fun c => !o.calLost.contains c.1) })).onFlt (fun f =>
    let m := f.mirror.filter (fun e => !o.mirrorBad.contains e.seq)
    { f with mirror := m, seq := mirrorSeq m })
  let mram := if o.mramBad then none else t.upd.mram
  let ring := t.upd.ring.filter (fun r => !o.ringBad.contains r.seq)
  let u := t.onUpd (fun u => { u with mram := mram, ring := ring, mvalid := mram.isSome, fvalid := !ring.isEmpty })
  let v := if mram.isSome || !ring.isEmpty then u.onUpd (fun x => x.putRec u.bootRec) else u
  let w := v.each o.imageBad (fun v n => v.onDev n (fun d => { d with image := none }))
  let x := if o.calLost.any (fun c => s.msr.cals.any (fun e => e.1 == c)) then w.reportNow Code.msrCalLost 0xFFFF else w
  let y := if o.keepBad then ({ x with free := x.free + 1 } : State).onPwr (fun p => { p with keep := { p.keep with torn := some x.free } }) else x
  y.each ([0, 1].filter (fun n => (y.bootRec.slot n).state == .dirty)) (fun y n => y.reportNow Code.updSlotDirty n)

/-- DRAM found by training, with the default quotas (R258 to R260). -/
def State.trainDram (s : State) (pages : Nat) : State :=
  if pages = 0 then s.reportNow Code.dramFail 0xFFFF
  else
    let t := s.onFab (fun f => { f with dram := { f.dram with total := pages } })
    ((t.setFld (Reg.fabAquota 0) 0 17 (pages - 8192)).setFld (Reg.fabAquota 1) 0 17 4096).setFld (Reg.fabAquota 2) 0 17 4096

/-! Which image runs (R451). -/

/-- Whether a slot is a fallback: its state is ACTIVE or PREVIOUS. -/
def SlotRec.backs (x : SlotRec) : Bool := x.state == .active || x.state == .previous

/-- A trial boot counted, or the fallback of the fourth (R451). -/
def State.countTrial (s : State) : State :=
  let r := s.bootRec
  if r.trial && (r.slot (1 - r.active)).backs then
    if r.tries = 3 then s.fallBack r.active 1 else s.writeRec (fun r => { r with tries := r.tries + 1 })
  else s

/-- The slot to run: none where the device enters SEED; `flashB`: BOOT_SEL selects slot B. -/
def State.chooseImage (s : State) (flashB : Bool) : State × Option Nat :=
  if flashB then (s, if s.imageOk 1 then some 1 else none)
  else
    let t := s.countTrial
    let r := t.bootRec
    if t.imageOk r.active then (t, some r.active)
    else if (r.slot (1 - r.active)).backs && t.imageOk (1 - r.active) then (t.fallBack r.active 4, some (1 - r.active))
    else (t, none)

/-- Whether the boot ends in SEED before an image is looked for (R4, R459): BOOT_SEL selects Seed, GRADE is 0 outside MANUFACTURE, or
GRADE is reserved. -/
def State.seedOnly (s : State) : Bool :=
  decide (2 ≤ s.fld Reg.pwrReset 4 2) || (s.otp.grade == 0 && s.lcs != 0) || decide (3 ≤ s.otp.grade)

/-! Migration (R456). -/

/-- A settings record under a SCHEMA part: none where its conversion fails. -/
def convertRecord (schema : List Byte) (old : Nat) (r : Nat × List Word) : Option (List Byte) :=
  (Config.migrateRecord schema old r.1 r.2).map (recordBytes r.1)

/-- A settings body under a SCHEMA part: none where a record fails conversion. -/
def convertBody (schema : List Byte) (old : Nat) : List (Nat × List Word) → Option (List Byte)
  | [] => some []
  | r :: rs =>
    match convertRecord schema old r, convertBody schema old rs with
    | some a, some b => some (a ++ b)
    | _, _ => none

/-- The SCHEMA part of an image. -/
def Image.schema (g : Image) : List Byte := match g.parts.find? (fun p => p.type == 5) with | some p => p.bytes | none => []

/-- MIGR and the settings of the new slot (R456) from those of the old slot. -/
def migrate (g : Image) (old : Option SetHalf) (seq : Nat) : Nat × Option SetHalf :=
  match old with
  | none => (1, none)
  | some h =>
    if h.sver = mfSverNew g.manifest then (2, some { h with seq := seq, origin := h.seq })
    else if mfSverMin g.manifest ≤ h.sver ∧ h.sver ≤ mfSverMax g.manifest then
      (match convertBody g.schema h.sver (bodyRecords h.body.length h.body) with
       | some b => (3, some ⟨mfSverNew g.manifest, h.auto, seq, h.seq, b⟩)
       | none => (4, none))
    else (4, none)

/-- Migration at a trial boot: later trial boots keep settings whose ORIGIN is the old record's SEQ (R456). -/
def State.migrateSettings (s : State) (n : Nat) : State :=
  let old := (s.dev (1 - n)).settings
  let now := (s.dev n).settings
  let kept := decide (s.bootRec.tries ≠ 1) && (match old, now with | some a, some b => b.origin == a.seq | _, _ => false)
  match (s.dev n).image with
  | some g =>
    if kept then s
    else
      let r := migrate g old (wrap 32 ((match now with | some h => h.seq | none => 0) + 1))
      let t := s.onUpd (fun u => { u with migr := r.1 })
      let u := match r.2 with
        | some h => t.onDev n (fun d => d.putHalf h)
        | none => t
      if r.1 = 4 then u.fallBack n 3 else u
  | none => s

/-! The stage and the image's data. -/

/-- The stage that follows from the boot record (R442). -/
def State.bootStage (s : State) (n : Nat) : Stage :=
  if s.upd.migr = 4 then .fallback
  else if s.bootRec.trial && s.bootRec.active == n then .trial
  else match (s.bootRec.slot (1 - n)).state with
    | .applied => .applied
    | .verified => .verified
    | _ => .idle

/-- LMP_LTRIM (R53): from a valid TRIM part of the image that runs, else from OTP. -/
def State.loadTrim (s : State) (g : Option Image) : State :=
  let part := (g.bind (fun g => g.parts.find? (fun p => p.type == 4))).bind (fun p => Config.trimWords p.bytes)
  s.onLamps (fun l => { l with trim := match part with
    | some ws => (List.range 512).foldl (fun (t : Tab Word) i => Tab.put (fun _ => 0) t i (ws.getD i 0)) []
    | none => s.otp.trim })

/-- The firmware code of the image that runs, which every engine holds (R237): its RILL parts in manifest order (R439). -/
def State.loadCode (s : State) (g : Option Image) : State :=
  s.onFab (fun f => { f with code := match g with
    | some g => (g.parts.filter (fun p => p.type == 2)).flatMap Part.bytes
    | none => [] })

/-! What the other chapters give a boot. -/

/-- The blocks that full BIST failed (R409): UNUSABLE, each reported; the cause of an unspared one lasts. -/
def State.useFullBist (s : State) : State :=
  if s.bit Reg.bistFres 0 then
    s.each (fullBlocks.filter (fun id => s.bit (Reg.bistBstat id) 11 && s.fld (Reg.bistBstat id) 8 3 == RifVerdict.fail.code)) (fun s id =>
      let t := (s.failBlock id none).reportNow Code.riffleFail id
      if 0x60 ≤ id ∧ id ≤ 0x6F then t.addCause Code.riffleFail id else t)
  else s

/-- Whether this boot restores the retirements of the keep record (R426). -/
def State.restores (s : State) : Bool :=
  let c := s.fld Reg.pwrReset 8 3
  (c == ResetCause.por.code || c == ResetCause.holdEnd.code) && s.pwr.keep.state == .valid && !s.pwr.keep.consumed && s.pwr.keep.torn.isNone &&
  s.bit Reg.pwrCtl 17

/-- The base state at RUN-ready (R468). -/
def State.bootBase (s : State) : BaseState :=
  if s.fld Reg.pwrReset 8 3 = ResetCause.bist.code ∨ (s.lcs = 0 ∧ s.otp.grade = 0) ∨ s.upd.migr = 4 then .maint else .run

/-- The periods that count from RUN-ready. -/
def State.startPeriods (s : State) : State :=
  ((s.onMsr (fun m => { m with summaryAt := s.mono })).onBist (fun b => { b with slotAt := s.mono })).restartConvs

/-- The settings of the running slot applied where AUTO asks for it (R455); a failed migration applies none (R456). -/
def State.bootSettings (s : State) : State :=
  match s.settings with
  | some h => if h.auto && s.upd.migr != 4 then s.applySettings h else s
  | none => s

/-- RUN-ready of an image in slot n (R432). -/
def State.runReady (s : State) (n : Nat) (o : BootObs) : State :=
  let a := s.onUpd (fun u => { u with run := n })
  let b := if a.bootRec.trial && a.bootRec.active == n then a.migrateSettings n else a
  let trial := b.bootStage n == .trial
  let c := b.onUpd (fun u => { u with
    stage := b.bootStage n, nofb := trial && !(b.bootRec.slot (1 - n)).backs, window := if trial then some b.mono else none })
  let d := if trial then c.irq 39 else c
  let e := ((d.loadTrim (d.dev n).image).loadCode (d.dev n).image).useFullBist
  let f := if e.restores then e.restoreRetired else e
  let g := (f.onPwr (fun p => { p with boot := .ready, base := f.bootBase })).startPeriods
  g.reacting State.bootSettings

/-- The end of a boot (R432, R459, R464, R474): HALT for a RETIRED device, SEED, or RUN-ready. -/
def State.endBoot (s : State) (o : BootObs) : State :=
  if s.lcs = 4 then s.onPwr (fun p => { p with boot := .halt })
  else
    let t := (s.readStores o).trainDram o.dramPages
    let seed := fun (t : State) => (t.loadTrim none).reacting (fun t =>
      (t.onPwr (fun p => { p with boot := .seed })).onUpd (fun u => { u with run := 2, stage := .idle }))
    if t.seedOnly then seed t
    else match t.chooseImage (t.fld Reg.pwrReset 4 2 == 1) with
      | (u, some n) => u.runReady n o
      | (u, none) => seed u

end Sys2Proof.Machine
end

