-- ==== Sys2Proof/Machine/Pwr.lean ====
section
/-! DEFINITION. The meanings of the power, hold-up, reset and boot rows (chapter 13). -/

namespace Sys2Proof.Machine

/-! Commands (R429, R437). -/

/-- PWR_WARM_RESTART (R429, R437): in SAVED only; VIN, PG and HOLD judged in that order. `hold30`: HOLD is at or above 30.0 V; `lost` the
captures (stream, id) that fail their page CRCs; `rails` the measured rails. -/
def execPwrWarmRestart (p : Packet) (hold30 : Bool) (lost : List (Nat × Nat)) (rails : List Nat) (s : State) : Out :=
  done (s.command Op.pwrWarmRestart p (fun s =>
    if s.pwr.phase != .saved then s.reply Status.state 0 []
    else if !s.pwr.vinok then s.reply Status.causeActive 0x70 []
    else if s.pwr.good != 31 then s.reply Status.causeActive 0x71 []
    else if !hold30 then s.reply Status.causeActive 0x72 []
    else (s.warmRestart lost rails).reply Status.ok 0 [word s.pwr.keep.seq]))

/-- PWR_KEEP_READ (R437): the whole region. -/
def execPwrKeepRead (p : Packet) (s : State) : Out :=
  done (s.command Op.pwrKeepRead p (fun s =>
    (s.dmaWrite p.ptr.toNat s.pwr.keep.region).reply Status.ok 0 [0x4000, word s.pwr.keep.state.word]))

/-- PWR_STATS (R437). -/
def execPwrStats (p : Packet) (s : State) : Out :=
  done (s.command Op.pwrStats p (fun s =>
    let x := s.pwr
    (s.when (wbit (p.word 0) 16) (fun s => s.onPwr (fun p => { p with
      statSags := 0, statGlitches := 0, statVinhi := 0, statRetries := 0, statSaves := 0, statLost := 0, statWarm := 0 }))).reply
      Status.ok 0 ([x.statSags, x.statGlitches, x.statVinhi, x.statRetries, x.statSaves, x.statLost, x.statWarm].map word)))

/-- PWR_SAVE_TEST (R437): its reply comes on entry to SAVED. -/
def execPwrSaveTest (p : Packet) (vin hold : BitVec 16) (s : State) : Out :=
  done (s.command Op.pwrSaveTest p (fun s =>
    if field (p.word 0) 0 16 ≠ 0x5A7E then s.reply Status.badParam 0 []
    else if (List.range 128).any (fun i => (s.str i).state != .disabled) then s.reply Status.state 0 []
    else (s.beginSave vin.toNat hold.toNat (some ⟨p, hold.toNat⟩)).later))

/-! VIN, sag and hold-up. -/

/-- The boost stopped and VINOK low: VIN is below VSAG. -/
def State.vinLow (s : State) : State := s.onPwr (fun p => { p with vinok := false, boost := false, vinAt := s.wall })

/-- VIN_SAG_CROSSING (R421, R422, R430): qualified only while READY is high. -/
def execVinSagCrossing (s : State) : Out :=
  done (if s.bist.full == .running then (s.endFull [] true).vinLow
    else match s.pwr.boot with
      | .inReset | .halt => s.vinLow
      | .booting | .seed => (s.resetTo .holdEnd).vinLow
      | .ready =>
        match s.pwr.phase with
        | .normal => s.vinLow.onPwr (fun p => { p with phase := .qualify, hgate := true })
        | .qualify => s
        | .save => s.vinLow
        | .saved => s.vinLow.onPwr (fun p => { p with hgate := true }))

/-- SAG_QUALIFY_ABANDON (R421, R422): before the 10 µs have passed. The boost comes back with VINOK, 10 ms later (R420). -/
def execSagQualifyAbandon (s : State) : Out :=
  done (if s.pwr.phase == .qualify && !s.pastWall s.pwr.vinAt (usTicks 10) then s.onPwr (fun p => { p with
    phase := .normal, hgate := false, vinAt := s.wall, glitches := satAdd 16 p.glitches 1, statGlitches := satAdd 32 p.statGlitches 1 }) else s)

/-- VIN_SAG (R422, R423): t0 of a qualified sag, 10 µs after the crossing. -/
def execVinSag (vin hold : BitVec 16) (s : State) : Out :=
  done (if s.pwr.phase == .qualify && s.pastWall s.pwr.vinAt (usTicks 10) then
    (s.onPwr (fun p => { p with sags := satAdd 16 p.sags 1, statSags := satAdd 32 p.statSags 1 })).beginSave vin.toNat hold.toNat none
  else s)

/-- SAG_CUT (R423): 5 µs after t0. -/
def execSagCut (s : State) : Out :=
  done (if s.pwr.phase == .save && s.pastWall s.pwr.sagMono (usTicks 5) then s.sagCut else s)

/-- SAG_PACKET_DEADLINE (R423): 100 µs after t0. -/
def execSagPacketDeadline (s : State) : Out :=
  done (if s.pwr.phase == .save && s.pastWall s.pwr.sagMono (usTicks 100) then s.dropPackets else s)

/-- SAVE_COMPLETE (R423, R425, R427): once the packets of t0 have been ended; `hold` HOLD now in 10 mV, `above` whether VIN stayed above
HOLD, `back` whether VIN is above VSAG + 0.5 V, `mirrorBad` whether a mirror write of the save fails its verification (R388). -/
def execSaveComplete (hold : BitVec 16) (above back mirrorBad : Bool) (s : State) : Out :=
  done (if s.pwr.phase == .save && s.pwr.railsHeld && s.pwr.swept then
    s.reacting (fun s => (s.enterSaved back mirrorBad).endTest s.saveUs hold.toNat above)
  else s)

/-- HOLD_END (R427): HOLD below 8.0 V with VIN below VSAG + 0.5 V, so that the boost does not run (R420); in SAVE the record stays
STARTED. -/
def execHoldEnd (s : State) : Out := done (if s.saved && !s.pwr.vinok && !s.pwr.boost then s.resetTo .holdEnd else s)

/-- VIN_RETURN_SAVED (R420, R421, R436): the 10 ms of R429 start. -/
def execVinReturnSaved (s : State) : Out :=
  done (if s.pwr.phase == .saved then (s.onPwr (fun p => { p with hgate := false, boost := true, vinAt := s.wall })).irq 41 else s)

/-- VINOK (R420): 10 ms after VIN was last below VSAG + 0.5 V, in every state in which VAON is present. -/
def execVinok (s : State) : Out :=
  done (if s.pwr.phase == .qualify || !s.pastWall s.pwr.vinAt (msTicks 10) then s else s.onPwr (fun p => { p with vinok := true, boost := true }))

/-- HOLDOK_CHANGE (R420, R436, R502): HOLD at 33.0 V arms HOLD_LOW. -/
def execHoldokChange (ok : Bool) (s : State) : Out :=
  done (if s.pwr.holdok == ok then s
    else (s.onPwr (fun p => { p with holdok := ok, holdArmed := p.holdArmed || ok })).when (s.pwr.boot != .inReset) (fun s => s.irq 41))

/-- HOLD_LOW (R502): HOLD is below 30.0 V, so HOLDOK is 0, has reached 33.0 V once since reset, and it is not SAVE or SAVED. -/
def execHoldLow (s : State) : Out :=
  done (if s.pwr.boot != .inReset && s.pwr.holdArmed && !s.pwr.holdok && !s.pwr.holdLow && !s.saved then
    (s.onPwr (fun p => { p with holdLow := true })).reportNow Code.holdLow 0xFFFF
  else s)

/-- HOLD_LOW_END (R502): HOLD reaches 33.0 V. -/
def execHoldLowEnd (s : State) : Out :=
  done (if s.pwr.holdLow then
    s.reacting (fun s => (s.onPwr (fun p => { p with holdLow := false })).endCause Code.holdLow 0xFFFF)
  else s)

/-- VINHI (R436). -/
def execVinhi (s : State) : Out :=
  done ((s.setBit Reg.pwrStat 15 true).onPwr (fun p => { p with statVinhi := satAdd 32 p.statVinhi 1 }))

/-! Resets (R419, R428). -/

/-- POWER_ON_RESET (R428). -/
def execPowerOnReset (s : State) : Out := done (s.resetTo .por)

/-- RST_N (R428, R430): at once, in SAVE too. -/
def execRstN (s : State) : Out := done (s.resetTo .rstN)

/-- PG_LOSS (R419): after the sequence has completed. -/
def execPgLoss (k : Fin 5) (s : State) : Out :=
  done (if s.pwr.seqNext != 5 then s
    else
      let t := s.onPwr (fun p => { p with lastRail := k, good := p.good &&& (31 - 2 ^ k.val) })
      if k.val ≤ 1 then t.resetTo .pg
      else if t.causePresent Code.pgFault || s.pwr.boot == .inReset then t else t.reportNow Code.pgFault 0xFFFF)

/-- THERMAL_SHUTDOWN (R428). -/
def execThermalShutdown (s : State) : Out := done (s.resetTo .thermal)

/-- THERMAL_SHUTDOWN_END (R428): the rail sequence may run again. -/
def execThermalShutdownEnd (s : State) : Out := done (s.onPwr (fun p => { p with hotDown := false }))

/-! Sequencing (R417). -/

/-- SEQ_ENABLE_STEP (R417, R427): 200 µs after PG{k − 1} is high, or 1 ms after POR, SEQ_EN{k} is raised; after a power-down at the end of
hold the first enable waits for VINOK, after a thermal shutdown for cool dies. -/
def execSeqEnableStep (s : State) : Out :=
  let p := s.pwr
  let waits := p.hotDown || (s.fld Reg.pwrReset 8 3 == ResetCause.holdEnd.code && !p.vinok)
  done (if p.boot == .inReset && decide (p.seqNext ≤ 4) && !waits && s.pastWall p.seqFrom 0 then
    s.onPwr (fun p => { p with
      enabled := 2 ^ (p.seqNext + 1) - 1, good := 2 ^ p.seqNext - 1, seqNext := p.seqNext + 1,
      seqFrom := s.wall + usTicks 200 })
  else s)

/-- SEQ_PG_TIMEOUT (R417), 10 ms after the enable: every enable is lowered; the rail is recorded and the retry counted. -/
def execSeqPgTimeout (s : State) : Out :=
  let p := s.pwr
  done (if p.boot == .inReset && decide (1 ≤ p.seqNext) && decide (p.seqNext ≤ 5) && p.good != 31 && s.pastWall p.seqFrom (usTicks 9800) then
    s.onPwr (fun p => { p with
      enabled := 0, good := 0, seqNext := 6, retries := satAdd 16 p.retries 1, statRetries := satAdd 32 p.statRetries 1,
      lastRail := p.seqNext - 1, seqFrom := s.wall + msTicks 100 })
  else s)

/-- SEQ_RETRY (R417): after 100 ms the sequence starts again at k = 0. -/
def execSeqRetry (s : State) : Out :=
  done (if s.pwr.seqNext = 6 && s.pastWall s.pwr.seqFrom 0 then s.onPwr (fun p => { p with seqNext := 0 }) else s)

/-- RESET_RELEASE (R431): PG4 is high, so that the sequence is complete; the straps are sampled and the boot count increments. -/
def execResetRelease (chainId : Fin 8) (bootSel : Fin 4) (hostSel : Bool) (s : State) : Out :=
  done (if s.pwr.boot == .inReset && s.pwr.seqNext == 5 && !s.pwr.hotDown && s.bist.full != .running then
    let t := ((s.setFld Reg.pwrReset 0 3 chainId).setFld Reg.pwrReset 4 2 bootSel).setBit Reg.pwrReset 6 hostSel
    (t.onChain (fun c => { c with pos := chainId })).onPwr (fun p => { p with
      good := 31, boot := .booting, boots := p.boots + 1, holdArmed := p.holdok })
  else s)

/-- RUN_READY (R432, R459, R464): the end of the boot, with what it finds. -/
def execRunReady (o : BootObs) (s : State) : Out :=
  done (if s.pwr.boot == .booting && s.clk.running && !s.clk.lost then s.endBoot o else s)

end Sys2Proof.Machine
end

