-- ==== Sys2Proof/Machine/Dispatch.lean ====
section
/-! DEFINITION. What every command does to everything but the queue: one arm for each constructor. -/

namespace Sys2Proof.Machine

/-- The effect of a command. -/
def exec (i : Instr) (s : State) : Host.Outcome State Fault Refusal :=
  match i with
  | .genNop p => Sys2Proof.Machine.execGenNop p s
  | .genIdentify p => Sys2Proof.Machine.execGenIdentify p s
  | .genSetState p => Sys2Proof.Machine.execGenSetState p s
  | .genQueueStats p => Sys2Proof.Machine.execGenQueueStats p s
  | .genAbort p => Sys2Proof.Machine.execGenAbort p s
  | .genVectorTest p => Sys2Proof.Machine.execGenVectorTest p s
  | .lmpCommit p => Sys2Proof.Machine.execLmpCommit p s
  | .lmpCfgcmtCommit => Sys2Proof.Machine.execLmpCfgcmtCommit s
  | .lmpCommitApply => Sys2Proof.Machine.execLmpCommitApply s
  | .lmpCommitTimeout => Sys2Proof.Machine.execLmpCommitTimeout s
  | .lmpStringRestore p closed => Sys2Proof.Machine.execLmpStringRestore p closed s
  | .lmpEstimate p => Sys2Proof.Machine.execLmpEstimate p s
  | .lmpSenWrite n v => Sys2Proof.Machine.execLmpSenWrite n v s
  | .aspCommit p => Sys2Proof.Machine.execAspCommit p s
  | .aspCfgcmtCommit => Sys2Proof.Machine.execAspCfgcmtCommit s
  | .aspSet p => Sys2Proof.Machine.execAspSet p s
  | .aspLcmdGo l v => Sys2Proof.Machine.execAspLcmdGo l v s
  | .aspLaneStats p => Sys2Proof.Machine.execAspLaneStats p s
  | .aspRcfgWrite n v => Sys2Proof.Machine.execAspRcfgWrite n v s
  | .fadeStep l => Sys2Proof.Machine.execFadeStep l s
  | .frameTransmitStart l => Sys2Proof.Machine.execFrameTransmitStart l s
  | .idleStrikeRefresh l => Sys2Proof.Machine.execIdleStrikeRefresh l s
  | .provingFlash l => Sys2Proof.Machine.execProvingFlash l s
  | .returnFrame n syms => Sys2Proof.Machine.execReturnFrame n syms s
  | .rankUpdate sm => Sys2Proof.Machine.execRankUpdate sm s
  | .returnSyncAcquire n => Sys2Proof.Machine.execReturnSyncAcquire n s
  | .syncLoss n inFrame => Sys2Proof.Machine.execSyncLoss n inFrame s
  | .returnLos n => Sys2Proof.Machine.execReturnLos n s
  | .prvReadmit p => Sys2Proof.Machine.execPrvReadmit p s
  | .readmitComplete l => Sys2Proof.Machine.execReadmitComplete l s
  | .readmitTimeout l => Sys2Proof.Machine.execReadmitTimeout l s
  | .prvLampStats p => Sys2Proof.Machine.execPrvLampStats p s
  | .prvTrickleNow p => Sys2Proof.Machine.execPrvTrickleNow p s
  | .trickleNowTimeout l => Sys2Proof.Machine.execTrickleNowTimeout l s
  | .prvRetire p => Sys2Proof.Machine.execPrvRetire p s
  | .litSample l o => Sys2Proof.Machine.execLitSample l o s
  | .complianceLoss t v0 v1 v2 v3 => Sys2Proof.Machine.execComplianceLoss t v0 v1 v2 v3 s
  | .siblingDisturbanceEnd t => Sys2Proof.Machine.execSiblingDisturbanceEnd t s
  | .stuckLitDetect l mv => Sys2Proof.Machine.execStuckLitDetect l mv s
  | .trickleStart l => Sys2Proof.Machine.execTrickleStart l s
  | .trickleJudge l mv guard => Sys2Proof.Machine.execTrickleJudge l mv guard s
  | .trickleAbort l => Sys2Proof.Machine.execTrickleAbort l s
  | .proveStarved l => Sys2Proof.Machine.execProveStarved l s
  | .retirementReport => Sys2Proof.Machine.execRetirementReport s
  | .stringRampEnd t => Sys2Proof.Machine.execStringRampEnd t s
  | .deratingUpdate => Sys2Proof.Machine.execDeratingUpdate s
  | .railSlewStep g => Sys2Proof.Machine.execRailSlewStep g s
  | .railTargetReached g r => Sys2Proof.Machine.execRailTargetReached g r s
  | .railUv g mv => Sys2Proof.Machine.execRailUv g mv s
  | .railOv g mv => Sys2Proof.Machine.execRailOv g mv s
  | .railOvEnd g mv => Sys2Proof.Machine.execRailOvEnd g mv s
  | .railOc g => Sys2Proof.Machine.execRailOc g s
  | .railOcHoldEnd g mv => Sys2Proof.Machine.execRailOcHoldEnd g mv s
  | .railOcEnd g => Sys2Proof.Machine.execRailOcEnd g s
  | .ntcFault g => Sys2Proof.Machine.execNtcFault g s
  | .weirAcommit v => Sys2Proof.Machine.execWeirAcommit v s
  | .weirAcfgWrite a v => Sys2Proof.Machine.execWeirAcfgWrite a v s
  | .weirSnapselWrite v => Sys2Proof.Machine.execWeirSnapselWrite v s
  | .weirWrselGo v => Sys2Proof.Machine.execWeirWrselGo v s
  | .weirSmtWrite p => Sys2Proof.Machine.execWeirSmtWrite p s
  | .weirSmtLoad p => Sys2Proof.Machine.execWeirSmtLoad p s
  | .weirSmtRead p => Sys2Proof.Machine.execWeirSmtRead p s
  | .weirPin p => Sys2Proof.Machine.execWeirPin p s
  | .weirArmStats p => Sys2Proof.Machine.execWeirArmStats p s
  | .smtRankMove sm => Sys2Proof.Machine.execSmtRankMove sm s
  | .auFault u => Sys2Proof.Machine.execAuFault u s
  | .auRebuildDone u => Sys2Proof.Machine.execAuRebuildDone u s
  | .auRevenant u => Sys2Proof.Machine.execAuRevenant u s
  | .tribSetRole p => Sys2Proof.Machine.execTribSetRole p s
  | .tribForm p => Sys2Proof.Machine.execTribForm p s
  | .tribAdmit p => Sys2Proof.Machine.execTribAdmit p s
  | .tribAdmitTimeout => Sys2Proof.Machine.execTribAdmitTimeout s
  | .tribExpel p => Sys2Proof.Machine.execTribExpel p s
  | .tribRing p => Sys2Proof.Machine.execTribRing p s
  | .tribStats p => Sys2Proof.Machine.execTribStats p s
  | .tribPortDown p los => Sys2Proof.Machine.execTribPortDown p los s
  | .tribPortUp p => Sys2Proof.Machine.execTribPortUp p s
  | .fsumBreak p f => Sys2Proof.Machine.execFsumBreak p f s
  | .refFrame p f => Sys2Proof.Machine.execRefFrame p f s
  | .histFrame p f => Sys2Proof.Machine.execHistFrame p f s
  | .histReturn p f => Sys2Proof.Machine.execHistReturn p f s
  | .histMergeDeadline a => Sys2Proof.Machine.execHistMergeDeadline a s
  | .thrFrame p f => Sys2Proof.Machine.execThrFrame p f s
  | .timeSyncSend sub => Sys2Proof.Machine.execTimeSyncSend sub s
  | .timeSyncFrame p f sub res => Sys2Proof.Machine.execTimeSyncFrame p f sub res s
  | .timeSyncTimeout => Sys2Proof.Machine.execTimeSyncTimeout s
  | .pdreqSend p sub => Sys2Proof.Machine.execPdreqSend p sub s
  | .pdreqFrame p f sub res => Sys2Proof.Machine.execPdreqFrame p f sub res s
  | .pdrespFrame p f sub => Sys2Proof.Machine.execPdrespFrame p f sub s
  | .fsumSend event => Sys2Proof.Machine.execFsumSend event s
  | .fsumFrame p f => Sys2Proof.Machine.execFsumFrame p f s
  | .epnNoticeSend => Sys2Proof.Machine.execEpnNoticeSend s
  | .epnNoticeFrame p f => Sys2Proof.Machine.execEpnNoticeFrame p f s
  | .joinReqSend => Sys2Proof.Machine.execJoinReqSend s
  | .joinReqFrame p f => Sys2Proof.Machine.execJoinReqFrame p f s
  | .controlCycleEnd => Sys2Proof.Machine.execControlCycleEnd s
  | .memberContactTimeout => Sys2Proof.Machine.execMemberContactTimeout s
  | .tribFrameForward p f => Sys2Proof.Machine.execTribFrameForward p f s
  | .fabEngineStats p => Sys2Proof.Machine.execFabEngineStats p s
  | .fabProducerStats p => Sys2Proof.Machine.execFabProducerStats p s
  | .fabMsselWrite v => Sys2Proof.Machine.execFabMsselWrite v s
  | .taskDispatch => Sys2Proof.Machine.execTaskDispatch s
  | .taskComplete e => Sys2Proof.Machine.execTaskComplete e s
  | .taskOverrun e => Sys2Proof.Machine.execTaskOverrun e s
  | .engineRestartDone e => Sys2Proof.Machine.execEngineRestartDone e s
  | .deadEngineHalt e access => Sys2Proof.Machine.execDeadEngineHalt e access s
  | .timerExpiry t template key op => Sys2Proof.Machine.execTimerExpiry t template key op s
  | .timerRetry t => Sys2Proof.Machine.execTimerRetry t s
  | .fabLag l => Sys2Proof.Machine.execFabLag l s
  | .sramEccError off corrected read => Sys2Proof.Machine.execSramEccError off corrected read s
  | .recArm p => Sys2Proof.Machine.execRecArm p s
  | .recTrigger p => Sys2Proof.Machine.execRecTrigger p s
  | .recTrigWrite v => Sys2Proof.Machine.execRecTrigWrite v s
  | .recCtlWrite v => Sys2Proof.Machine.execRecCtlWrite v s
  | .recRead p => Sys2Proof.Machine.execRecRead p s
  | .recRelease p => Sys2Proof.Machine.execRecRelease p s
  | .recList p => Sys2Proof.Machine.execRecList p s
  | .recPageFull t => Sys2Proof.Machine.execRecPageFull t s
  | .captureEnd t => Sys2Proof.Machine.execCaptureEnd t s
  | .recDrop t => Sys2Proof.Machine.execRecDrop t s
  | .msrCommit p => Sys2Proof.Machine.execMsrCommit p s
  | .msrCvctlCommit ad v => Sys2Proof.Machine.execMsrCvctlCommit ad v s
  | .msrCvctlStart ad v => Sys2Proof.Machine.execMsrCvctlStart ad v s
  | .msrCvctlRun ad v => Sys2Proof.Machine.execMsrCvctlRun ad v s
  | .msrUrgent p => Sys2Proof.Machine.execMsrUrgent p s
  | .msrUrgaGo ad v => Sys2Proof.Machine.execMsrUrgaGo ad v s
  | .msrAclrWrite v => Sys2Proof.Machine.execMsrAclrWrite v s
  | .msrCalZero p => Sys2Proof.Machine.execMsrCalZero p s
  | .msrCalSpan p => Sys2Proof.Machine.execMsrCalSpan p s
  | .msrCalClear p => Sys2Proof.Machine.execMsrCalClear p s
  | .msrStats p => Sys2Proof.Machine.execMsrStats p s
  | .conversionDone ad u clipped => Sys2Proof.Machine.execConversionDone ad u clipped s
  | .vfCaptureTimeout ad => Sys2Proof.Machine.execVfCaptureTimeout ad s
  | .houseRoundDue die => Sys2Proof.Machine.execHouseRoundDue die s
  | .houseRoundStart die => Sys2Proof.Machine.execHouseRoundStart die s
  | .houseRoundDone die codes => Sys2Proof.Machine.execHouseRoundDone die codes s
  | .msrHouseLate die => Sys2Proof.Machine.execMsrHouseLate die s
  | .msrSum => Sys2Proof.Machine.execMsrSum s
  | .fioDiag p => Sys2Proof.Machine.execFioDiag p s
  | .fioOutRestore p overloads => Sys2Proof.Machine.execFioOutRestore p overloads s
  | .fioStats p => Sys2Proof.Machine.execFioStats p s
  | .fioKickWrite v => Sys2Proof.Machine.execFioKickWrite v s
  | .fioKcfgWrite v => Sys2Proof.Machine.execFioKcfgWrite v s
  | .fioFcfgWrite n v => Sys2Proof.Machine.execFioFcfgWrite n v s
  | .fioOcmdWrite v => Sys2Proof.Machine.execFioOcmdWrite v s
  | .fioFltcfgWrite v => Sys2Proof.Machine.execFioFltcfgWrite v s
  | .filterTick clkB raw => Sys2Proof.Machine.execFilterTick clkB raw s
  | .stuck k => Sys2Proof.Machine.execStuck k s
  | .chatterWindowEnd k => Sys2Proof.Machine.execChatterWindowEnd k s
  | .overload k => Sys2Proof.Machine.execOverload k s
  | .overloadRetry k again => Sys2Proof.Machine.execOverloadRetry k again s
  | .demagEnd k limit => Sys2Proof.Machine.execDemagEnd k limit s
  | .offstateVoltage pin => Sys2Proof.Machine.execOffstateVoltage pin s
  | .openLoad k => Sys2Proof.Machine.execOpenLoad k s
  | .fldLow => Sys2Proof.Machine.execFldLow s
  | .fldLowEnd => Sys2Proof.Machine.execFldLowEnd s
  | .fldUv => Sys2Proof.Machine.execFldUv s
  | .fldUvEnd => Sys2Proof.Machine.execFldUvEnd s
  | .hostSilent => Sys2Proof.Machine.execHostSilent s
  | .fltPin p n => Sys2Proof.Machine.execFltPin p n s
  | .fltClear p pinsHealthy => Sys2Proof.Machine.execFltClear p pinsHealthy s
  | .fltLogRead p => Sys2Proof.Machine.execFltLogRead p s
  | .fltInject p => Sys2Proof.Machine.execFltInject p s
  | .fltCodeStats p => Sys2Proof.Machine.execFltCodeStats p s
  | .fltFfclr => Sys2Proof.Machine.execFltFfclr s
  | .fltHoldWrite v => Sys2Proof.Machine.execFltHoldWrite v s
  | .faultReport wires => Sys2Proof.Machine.execFaultReport wires s
  | .faultCauseEnd code inst => Sys2Proof.Machine.execFaultCauseEnd code inst s
  | .quietExpiry code => Sys2Proof.Machine.execQuietExpiry code s
  | .shadowClose k => Sys2Proof.Machine.execShadowClose k s
  | .bistSliceNow p => Sys2Proof.Machine.execBistSliceNow p s
  | .bistFull p => Sys2Proof.Machine.execBistFull p s
  | .bistResults p => Sys2Proof.Machine.execBistResults p s
  | .bistLcsChallenge p => Sys2Proof.Machine.execBistLcsChallenge p s
  | .bistLcsToken p => Sys2Proof.Machine.execBistLcsToken p s
  | .bistLcsSet p => Sys2Proof.Machine.execBistLcsSet p s
  | .lcsRetiredReset => Sys2Proof.Machine.execLcsRetiredReset s
  | .nonceExpiry => Sys2Proof.Machine.execNonceExpiry s
  | .challengeLockoutEnd => Sys2Proof.Machine.execChallengeLockoutEnd s
  | .riffleSlot => Sys2Proof.Machine.execRiffleSlot s
  | .riffleHandover => Sys2Proof.Machine.execRiffleHandover s
  | .riffleTestEnd misr count => Sys2Proof.Machine.execRiffleTestEnd misr count s
  | .riffleReturn => Sys2Proof.Machine.execRiffleReturn s
  | .riffleVerdict => Sys2Proof.Machine.execRiffleVerdict s
  | .fullBistStart => Sys2Proof.Machine.execFullBistStart s
  | .fullBistEnd fails aborted => Sys2Proof.Machine.execFullBistEnd fails aborted s
  | .updBegin p => Sys2Proof.Machine.execUpdBegin p s
  | .updChunk p => Sys2Proof.Machine.execUpdChunk p s
  | .updApply p => Sys2Proof.Machine.execUpdApply p s
  | .updApplyDone flashError => Sys2Proof.Machine.execUpdApplyDone flashError s
  | .updVerify p => Sys2Proof.Machine.execUpdVerify p s
  | .updVerifyDone => Sys2Proof.Machine.execUpdVerifyDone s
  | .updActivate p flashError => Sys2Proof.Machine.execUpdActivate p flashError s
  | .updConfirm p => Sys2Proof.Machine.execUpdConfirm p s
  | .updAbort p => Sys2Proof.Machine.execUpdAbort p s
  | .updSettingsSave p => Sys2Proof.Machine.execUpdSettingsSave p s
  | .updSettingsRead p => Sys2Proof.Machine.execUpdSettingsRead p s
  | .updRevert p => Sys2Proof.Machine.execUpdRevert p s
  | .confirmWindowWarning => Sys2Proof.Machine.execConfirmWindowWarning s
  | .confirmWindowEnd => Sys2Proof.Machine.execConfirmWindowEnd s
  | .pwrWarmRestart p hold30 lost rails => Sys2Proof.Machine.execPwrWarmRestart p hold30 lost rails s
  | .pwrKeepRead p => Sys2Proof.Machine.execPwrKeepRead p s
  | .pwrStats p => Sys2Proof.Machine.execPwrStats p s
  | .pwrSaveTest p vin hold => Sys2Proof.Machine.execPwrSaveTest p vin hold s
  | .vinSagCrossing => Sys2Proof.Machine.execVinSagCrossing s
  | .sagQualifyAbandon => Sys2Proof.Machine.execSagQualifyAbandon s
  | .vinSag vin hold => Sys2Proof.Machine.execVinSag vin hold s
  | .sagCut => Sys2Proof.Machine.execSagCut s
  | .sagPacketDeadline => Sys2Proof.Machine.execSagPacketDeadline s
  | .saveComplete hold above back mirrorBad => Sys2Proof.Machine.execSaveComplete hold above back mirrorBad s
  | .holdEnd => Sys2Proof.Machine.execHoldEnd s
  | .vinReturnSaved => Sys2Proof.Machine.execVinReturnSaved s
  | .vinok => Sys2Proof.Machine.execVinok s
  | .holdokChange ok => Sys2Proof.Machine.execHoldokChange ok s
  | .holdLow => Sys2Proof.Machine.execHoldLow s
  | .holdLowEnd => Sys2Proof.Machine.execHoldLowEnd s
  | .vinhi => Sys2Proof.Machine.execVinhi s
  | .powerOnReset => Sys2Proof.Machine.execPowerOnReset s
  | .rstN => Sys2Proof.Machine.execRstN s
  | .pgLoss k => Sys2Proof.Machine.execPgLoss k s
  | .thermalShutdown => Sys2Proof.Machine.execThermalShutdown s
  | .seqEnableStep => Sys2Proof.Machine.execSeqEnableStep s
  | .seqPgTimeout => Sys2Proof.Machine.execSeqPgTimeout s
  | .seqRetry => Sys2Proof.Machine.execSeqRetry s
  | .resetRelease chainId bootSel hostSel => Sys2Proof.Machine.execResetRelease chainId bootSel hostSel s
  | .pllaLockRetry => Sys2Proof.Machine.execPllaLockRetry s
  | .pllaLock => Sys2Proof.Machine.execPllaLock s
  | .runReady o => Sys2Proof.Machine.execRunReady o s
  | .clkLoss ref => Sys2Proof.Machine.execClkLoss ref s
  | .clkWindowEnd edges => Sys2Proof.Machine.execClkWindowEnd edges s
  | .dramClk => Sys2Proof.Machine.execDramClk s
  | .pllaRelock => Sys2Proof.Machine.execPllaRelock s
  | .huskLineRelease rails => Sys2Proof.Machine.execHuskLineRelease rails s
  | .dieLinkError die e => Sys2Proof.Machine.execDieLinkError die e s
  | .dieResyncWord die good rails => Sys2Proof.Machine.execDieResyncWord die good rails s
  | .sqFetch => Sys2Proof.Machine.execSqFetch s
  | .cqCompletionWrite q => Sys2Proof.Machine.execCqCompletionWrite q s
  | .interruptCoalesceTimeout q => Sys2Proof.Machine.execInterruptCoalesceTimeout q s
  | .hostSqtdbWrite q v => Sys2Proof.Machine.execHostSqtdbWrite q v s
  | .hostCqhdbWrite q v => Sys2Proof.Machine.execHostCqhdbWrite q v s
  | .hostQctlEnable q v => Sys2Proof.Machine.execHostQctlEnable q v s
  | .hostQctlDisable q v => Sys2Proof.Machine.execHostQctlDisable q v s
  | .hostLink how => Sys2Proof.Machine.execHostLink how s
  | .hostDma x => Sys2Proof.Machine.execHostDma x s
  | .uartFrame line => Sys2Proof.Machine.execUartFrame line s
  | .consoleLine line => Sys2Proof.Machine.execConsoleLine line s
  | .hostFpclk => Sys2Proof.Machine.execHostFpclk s
  | .tapInstruction x => Sys2Proof.Machine.execTapInstruction x s
  | .genTimeLoRead => Sys2Proof.Machine.execGenTimeLoRead s
  | .genTimeHiRead => Sys2Proof.Machine.execGenTimeHiRead s
  | .pairLowRead port off => Sys2Proof.Machine.execPairLowRead port off s
  | .pairHighRead port off => Sys2Proof.Machine.execPairHighRead port off s
  | .accSumLoRead port ad k => Sys2Proof.Machine.execAccSumLoRead port ad k s
  | .registerWrite space off data full => Sys2Proof.Machine.execRegisterWrite space off data full s
  | .presentCurrentStep t => Sys2Proof.Machine.execPresentCurrentStep t s
  | .escalationWindowEnd code => Sys2Proof.Machine.execEscalationWindowEnd code s
  | .openLoadEnd k => Sys2Proof.Machine.execOpenLoadEnd k s
  | .offstateVoltageEnd k => Sys2Proof.Machine.execOffstateVoltageEnd k s
  | .thermalShutdownEnd => Sys2Proof.Machine.execThermalShutdownEnd s
  | .pcieLinkUp speed width => Sys2Proof.Machine.execPcieLinkUp speed width s
  | .busMasterEnable => Sys2Proof.Machine.execBusMasterEnable s
  | .tribFormDone => Sys2Proof.Machine.execTribFormDone s
  | .tribPllLoss => Sys2Proof.Machine.execTribPllLoss s
  | .pcieRefclkLoss => Sys2Proof.Machine.execPcieRefclkLoss s

end Sys2Proof.Machine
end

