-- ==== Sys2Proof/Machine/Tick.lean ====
section
/-! DEFINITION. One TCLK tick (R25, R34, R36, R263): what passes when no command waits. -/

namespace Sys2Proof.Machine

/-- The correction that the tick makes (R36): at most one tick inserted or skipped in any 256 TCLK. -/
def Clocks.slewNow (c : Clocks) : Int := if c.slew = 0 ∨ c.ticks < c.slewTick + 256 then 0 else if 0 < c.slew then 1 else -1

/-- The clocks after a tick: the wall count always advances, the device time and the interval count while PLL-A runs. -/
def Clocks.tick (c : Clocks) : Clocks :=
  if c.running && !c.lost then
    { c with
      time := wrap 64 ((c.time : Int) + 1 + c.slewNow).toNat, ticks := c.ticks + 1, wall := c.wall + 1, slew := c.slew - c.slewNow,
      slewTick := if c.slewNow = 0 then c.slewTick else c.ticks }
  else { c with wall := c.wall + 1 }

/-- A tick: every shunt line takes the level that its stream asks for, and its edges are recorded (R20, R261, R263);
the re-initialisations that are complete are noted (R390). -/
def State.tick (s : State) : State :=
  let t := s.onClk Clocks.tick
  let u := if s.served then t.each s.lamps.streams (fun t e => t.follow e.1) else t
  if s.clk.lost then u else u.noteReinit

end Sys2Proof.Machine
end

