-- ==== Sys2Proof/Safety.lean ====
section
/-! DEFINITION. What counts as a safe run, and the other terms that the statements use. -/

namespace Sys2Proof.Machine

/-- The block does not stop with a command. -/
def completes (i : Instr) (s : State) : Prop := ∃ t, exec i s = .next t

/-- Every lamp is dark because no string drives current (R434). -/
def State.dark (s : State) : Prop := ∀ str, (s.str str).cur = 0

/-- A command packet is taken for execution: the controller die executes commands, its task runs this opcode (R304), no header check of
R299 fails, and no parameter bit outside the opcode's table is set (R298). -/
abbrev State.accepts (s : State) (op : Op) (p : Packet) : Prop :=
  s.serving = true ∧ s.mayExecute op p = true ∧ s.headerFails op p = none ∧ op.paramsClean p = true

/-- The opcode and packet of a command that is a command packet (R297, R305); none for register accesses and events. The checks of
two opcodes depend on an operand (R249, R411). -/
def asPacket (s : State) : Instr → Option (Op × Packet)
  | .genNop p => some (Op.genNop, p)
  | .genIdentify p => some (Op.genIdentify, p)
  | .genSetState p => some (Op.genSetState, p)
  | .genQueueStats p => some (Op.genQueueStats, p)
  | .genAbort p => some (Op.genAbort, p)
  | .genVectorTest p => some (Op.genVectorTest, p)
  | .lmpCommit p => some (Op.lmpCommit, p)
  | .lmpStringRestore p _ => some (Op.lmpStringRestore, p)
  | .lmpEstimate p => some (Op.lmpEstimate, p)
  | .aspCommit p => some (Op.aspCommit, p)
  | .aspSet p => some (Op.aspSet, p)
  | .aspLaneStats p => some (Op.aspLaneStats, p)
  | .prvReadmit p => some (Op.prvReadmit, p)
  | .prvLampStats p => some (Op.prvLampStats, p)
  | .prvTrickleNow p => some (Op.prvTrickleNow, p)
  | .prvRetire p => some (Op.prvRetire, p)
  | .weirSmtWrite p => some (Op.weirSmtWrite, p)
  | .weirSmtLoad p => some (Op.weirSmtLoad, p)
  | .weirSmtRead p => some (Op.weirSmtRead, p)
  | .weirPin p => some (Op.weirPin, p)
  | .weirArmStats p => some (Op.weirArmStats, p)
  | .tribSetRole p => some (Op.tribSetRole, p)
  | .tribForm p => some (Op.tribForm, p)
  | .tribAdmit p => some (Op.tribAdmit, p)
  | .tribExpel p => some (Op.tribExpel, p)
  | .tribRing p => some (Op.tribRing, p)
  | .tribStats p => some (Op.tribStats, p)
  | .fabEngineStats p => some (Op.fabEngineStats, p)
  | .recArm p => some (Op.recArm, p)
  | .recTrigger p => some (Op.recTrigger, p)
  | .recRead p => some (Op.recRead, p)
  | .recRelease p => some (Op.recRelease, p)
  | .recList p => some (Op.recList, p)
  | .msrCommit p => some (Op.msrCommit, p)
  | .msrUrgent p => some (Op.msrUrgent, p)
  | .msrCalZero p => some (Op.msrCalZero, p)
  | .msrCalSpan p => some (Op.msrCalSpan, p)
  | .msrCalClear p => some (Op.msrCalClear, p)
  | .msrStats p => some (Op.msrStats, p)
  | .fioDiag p => some (Op.fioDiag, p)
  | .fioOutRestore p _ => some (Op.fioOutRestore, p)
  | .fioStats p => some (Op.fioStats, p)
  | .fltClear p _ => some (Op.fltClear, p)
  | .fltLogRead p => some (Op.fltLogRead, p)
  | .fltInject p => some (Op.fltInject, p)
  | .fltCodeStats p => some (Op.fltCodeStats, p)
  | .bistSliceNow p => some (Op.bistSliceNow, p)
  | .bistFull p => some (Op.bistFull, p)
  | .bistResults p => some (Op.bistResults, p)
  | .bistLcsChallenge p => some (Op.bistLcsChallenge, p)
  | .bistLcsToken p => some (Op.bistLcsToken, p)
  | .updBegin p => some (Op.updBegin, p)
  | .updChunk p => some (Op.updChunk, p)
  | .updApply p => some (Op.updApply, p)
  | .updVerify p => some (Op.updVerify, p)
  | .updActivate p _ => some (Op.updActivate, p)
  | .updConfirm p => some (Op.updConfirm, p)
  | .updAbort p => some (Op.updAbort, p)
  | .updSettingsSave p => some (Op.updSettingsSave, p)
  | .updSettingsRead p => some (Op.updSettingsRead, p)
  | .updRevert p => some (Op.updRevert, p)
  | .pwrWarmRestart p _ _ _ => some (Op.pwrWarmRestart, p)
  | .pwrKeepRead p => some (Op.pwrKeepRead, p)
  | .pwrStats p => some (Op.pwrStats, p)
  | .pwrSaveTest p _ _ => some (Op.pwrSaveTest, p)
  | .fabProducerStats p => some (Op.fabProducerStats (field (p.word 0) 0 3 == 0), p)
  | .bistLcsSet p => some (Op.bistLcsSet (s.lcs == 3 && field (p.word 0) 0 3 == 2), p)
  | _ => none

end Sys2Proof.Machine
end

