-- ==== Sys2Proof/Certificates/Slice0/Obligations.lean ====
section
/-! DEFINITION. The statements for the provers. -/

open Sys2Proof Sys2Proof.Machine

/-- One step takes the command at the front of the queue and does what that command does, with the queue's rest. -/
def Obligations.StepRunsFrontCommand : Prop :=
  ∀ (c : Instr) (s : State), step { s with pending := c :: s.pending } = exec c s

/-- On an empty queue one TCLK passes (the model's choice: notes/assumptions/2.md): the count of the power domain advances by one; while
PLL-A runs the interval count advances by one, and the device time by one and the correction under way (R25, R34, R36); without it both
stay. The step changes nothing else but the levels of the shunt lines (R20), the recorder's streams with their dropped-record flags (R261,
R262), and the collector's note of the re-initialisations that are complete (R390). -/
def Obligations.EmptyQueueTicks : Prop :=
  ∀ (s : State), s.pending = [] → ∃ t : State, step s = .next t ∧ t.clk.wall = s.clk.wall + 1 ∧
    ((s.clk.running && !s.clk.lost) = true →
      t.clk.ticks = s.clk.ticks + 1 ∧ t.clk.time = ((s.clk.time : Int) + 1 + s.clk.slewNow).toNat % 2 ^ 64) ∧
    ((s.clk.running && !s.clk.lost) = false → t.clk.ticks = s.clk.ticks ∧ t.clk.time = s.clk.time) ∧
    t = { s with
      clk := t.clk, regs := t.regs, lamps := { s.lamps with streams := t.lamps.streams }, fab := { s.fab with strms := t.fab.strms },
      flt := { s.flt with reinit := t.flt.reinit } }

/-- No command touches the queue of the commands that wait: a step takes its front and nothing else of it. -/
def Obligations.QueueUntouched : Prop :=
  ∀ (c : Instr) (s t : State), exec c s = .next t → t.pending = s.pending

/-- Host memory stays in its canonical form through every step, from every state in which it is. -/
def Obligations.HostMemoryCanonical : Prop :=
  ∀ (s t : State), Memory.wf s.hostMem → step s = .next t → Memory.wf t.hostMem

/-- Every command answers a next state: the spec gives every command of this block an effect. -/
def Obligations.EveryCommandCompletes : Prop := ∀ (c : Instr) (s : State), completes c s

/-- After reset (R428, R434): every register at its reset value, no code held, every lamp dark, the queue empty, host memory listing
nothing and canonical. -/
def Obligations.ResetState : Prop :=
  (∀ off, State.reset.reg off = regReset off) ∧ State.reset.dark ∧ State.reset.pending = [] ∧
  State.reset.hostMem = [] ∧ Memory.wf State.reset.hostMem ∧ State.reset.service = none ∧
  (∀ code, State.reset.held code = false) ∧ State.reset.devHusk = false

/-- Where a command packet has no effect of its own (R298, R299, R301, R304, R464, R501). On a device executing no command, and where the
packet's task runs another opcode or has executed it, nothing changes. Otherwise one that fails a header check of R299 is counted as
refused and answered with the status and detail of the first check it fails and DATA of zero. One with a parameter bit set that its
opcode's table does not name is answered BAD_PARAM, detail 0x0A. -/
def Obligations.PacketsWithoutEffect : Prop :=
  ∀ (s : State) (i : Instr) (op : Op) (p : Packet), asPacket s i = some (op, p) →
    (s.serving = false ∨ s.mayExecute op p = false → exec i s = .next s) ∧
    (∀ st d, s.serving = true → s.mayExecute op p = true → s.headerFails op p = some (st, d) →
      exec i s = .next ((s.onQueue p.src (fun q => { q with refusedHeader := satAdd 32 q.refusedHeader 1 })).answer op p st d [])) ∧
    (s.serving = true → s.mayExecute op p = true → s.headerFails op p = none → op.paramsClean p = false →
      exec i s = .next (s.answer op p Status.badParam 0x0A []))

/-- What an answer is (R300, R301): one reply, with the packet's TAG and queue, status, detail and opcode; reply data of up to five words
stands in DATA, longer data goes over PCIe to host memory at PTR with its length in DATA word 0, over the UART into continuation frames. It
waits for the end of the task that runs the packet, or goes to its completion queue at once; a command that has its reply, or that has been
ended, gets no second one. Nothing but the host interface and, for long data over PCIe, those bytes of host memory change. -/
def Obligations.AnswerIsOneReply : Prop :=
  ∀ (s : State) (op : Op) (p : Packet) (st d : Nat) (data : List Word),
    let r : Reply := ⟨p.src, p.tag, p.queue, st, d, op.code, if p.uart then 0 else p.sqhead,
      if data.length > 5 then [word (4 * data.length)] else data, 0, p.urgent,
      if data.length > 5 ∧ p.uart = true then bytesOf data else []⟩
    let t := s.answer op p st d data
    (∀ e, s.runningEntry p = some e → s.host.results.any (fun x => x.1 == e.2.order) = true → t = s) ∧
    (s.runningEntry p = none → s.host.ended.contains p = true → t = s.onHost (fun h => { h with ended := h.ended.erase p })) ∧
    (∀ e, s.runningEntry p = some e → s.host.results.any (fun x => x.1 == e.2.order) = false →
      t.host = { s.host with results := (e.2.order, r) :: s.host.results }) ∧
    (s.runningEntry p = none → s.host.ended.contains p = false → p.src ≠ 255 →
      (t.queue p.src).due = (s.queue p.src).due ++ [r] ∧ (t.queue p.src).completed = satAdd 32 (s.queue p.src).completed 1) ∧
    (s.runningEntry p = none → s.host.ended.contains p = false → p.src = 255 →
      t.host.uartOut = ((continuations 256 0 r.long).map (uartFrameOf 0x03)).reverse ++ (uartFrameOf 0x02 (r.bytes false) :: s.host.uartOut)) ∧
    t = { s with host := t.host, hostMem := t.hostMem } ∧
    (data.length ≤ 5 ∨ p.uart = true → t.hostMem = s.hostMem) ∧
    (data.length > 5 → p.uart = false → (∀ e, s.runningEntry p = some e → s.host.results.any (fun x => x.1 == e.2.order) = false) →
      (s.runningEntry p = none → s.host.ended.contains p = false) →
      t.dmaRead p.ptr.toNat (4 * data.length) = bytesOf data ∧
      ∀ a, a < p.ptr.toNat ∨ p.ptr.toNat + 4 * data.length ≤ a → t.hostByte a = s.hostByte a)

/-- The GEN commands (R306, R466, R467) run wherever they are taken: GEN_NOP answers the device time; GEN_IDENTIFY the identity;
GEN_SET_STATE sets the base state and answers both service states; GEN_QUEUE_STATS answers a queue's counters and clears them on
request; GEN_ABORT cancels the oldest packet of the TAG that has not started; GEN_VECTOR_TEST raises the vector. -/
def Obligations.GenCommandsComplete : Prop :=
  ∀ (s : State) (p : Packet),
    (s.accepts Op.genNop p → exec (.genNop p) s = .next (s.answer Op.genNop p Status.ok 0 [lo32 s.now, hi32 s.now])) ∧
    (s.accepts Op.genIdentify p → exec (.genIdentify p) s = .next (s.answer Op.genIdentify p Status.ok 0
      [s.genId, s.fwVersion,
        pack [(0, s.upd.run), (4, s.lcs), (8, s.serviceCode), (12, s.chain.role.code), (16, s.chain.pos)],
        lo32 s.otp.serial, hi32 s.otp.serial])) ∧
    (s.accepts Op.genSetState p → field (p.word 0) 0 2 = 1 →
      ∃ t : State, exec (.genSetState p) s = .next (t.answer Op.genSetState p Status.ok 0 [word s.serviceCode, word t.serviceCode]) ∧
        t.pwr = { s.pwr with base := .maint }) ∧
    (s.accepts Op.genSetState p → field (p.word 0) 0 2 = 0 → s.otp.grade ≠ 0 → s.scanHusk = false →
      ∃ t : State, exec (.genSetState p) s = .next (t.answer Op.genSetState p Status.ok 0 [word s.serviceCode, word t.serviceCode]) ∧
        t.pwr = { s.pwr with base := .run }) ∧
    (s.accepts Op.genQueueStats p → queueOk (field (p.word 0) 0 8) = true →
      ∃ t : State, exec (.genQueueStats p) s = .next (t.answer Op.genQueueStats p Status.ok 0
          ([(s.queue (field (p.word 0) 0 8)).fetched, (s.queue (field (p.word 0) 0 8)).completed,
            (s.queue (field (p.word 0) 0 8)).refusedDeposit, (s.queue (field (p.word 0) 0 8)).refusedHeader,
            (s.queue (field (p.word 0) 0 8)).holds].map word)) ∧
        (wbit (p.word 0) 16 = false → t = s) ∧
        (wbit (p.word 0) 16 = true → t = s.onQueue (field (p.word 0) 0 8) (fun x => { x with
          fetched := 0, completed := 0, refusedDeposit := 0, refusedHeader := 0, holds := 0 }))) ∧
    (s.accepts Op.genAbort p → queueOk (field (p.word 0) 0 8) = true →
      ∀ e, (s.notStarted (field (p.word 0) 0 8)).find? (fun e =>
          e.2.carries (field (p.word 0) 0 8) (BitVec.ofNat 8 (field (p.word 0) 8 8))) = some e →
        exec (.genAbort p) s = .next ((s.cancelTask e.1).answer Op.genAbort p Status.ok 0 [0])) ∧
    (s.accepts Op.genVectorTest p → s.hostSel = false → s.msixEnabled = true →
      exec (.genVectorTest p) s = .next ((s.triggerVector (field (p.word 0) 0 6)).answer Op.genVectorTest p Status.ok 0 []))

/-- The frame of the GEN commands (R306, R466, R467): those that answer and set nothing but queue counters, vectors and the host's own
replies leave everything but the host interface as it is, every byte of host memory too; GEN_SET_STATE changes the base state and nothing
else of the power section, and leaves the queue, the clocks, the flash, one-time-programmable memory and every byte of host memory. -/
def Obligations.GenFrames : Prop :=
  (∀ (s t : State) (p : Packet),
     (exec (.genNop p) s = .next t ∨ exec (.genIdentify p) s = .next t ∨ exec (.genQueueStats p) s = .next t ∨
       exec (.genVectorTest p) s = .next t) →
     t = { s with host := t.host } ∧ ∀ a, t.hostByte a = s.hostByte a) ∧
  (∀ (s t : State) (p : Packet), exec (.genSetState p) s = .next t →
     t.pwr = { s.pwr with base := t.pwr.base } ∧ t.clk = s.clk ∧ t.upd = s.upd ∧ t.otp = s.otp ∧
     t.pending = s.pending ∧ ∀ a, t.hostByte a = s.hostByte a)

/-- The queue rows (R290 to R293, R295): a doorbell below SIZE moves its tail or head and one of SIZE or more is counted; HOST_QCTL enables
an idle pair with heads and tails 0 and PHASE 1, and disables it; SQ_FETCH takes the packet at the head of the queue that the round robin
serves; an unsignalled completion that is old enough raises the queue's source. -/
def Obligations.QueueRowsComplete : Prop :=
  ∀ (s : State) (q : Fin 32) (v : Word),
    (s.serving = true → (s.queue q).enabled = true → field v 0 10 < (s.queue q).size →
      exec (.hostSqtdbWrite q v) s = .next (s.onQueue q (fun x => { x with sqTail := field v 0 10 })) ∧
      exec (.hostCqhdbWrite q v) s = .next (s.onQueue q (fun x => { x with cqHead := field v 0 10 }))) ∧
    (s.serving = true → (s.queue q).enabled = true → (s.queue q).size ≤ field v 0 10 →
      exec (.hostSqtdbWrite q v) s = .next ((s.onQueue q (fun x => { x with
        doorbellErrors := satAdd 32 x.doorbellErrors 1 })).setBit (Reg.hostQstat q) 2 true) ∧
      exec (.hostCqhdbWrite q v) s = .next ((s.onQueue q (fun x => { x with
        doorbellErrors := satAdd 32 x.doorbellErrors 1 })).setBit (Reg.hostQstat q) 2 true)) ∧
    (s.serving = true → (s.queue q).enabled = false → wbit v 0 = true → 2 ≤ field v 5 11 → field v 5 11 ≤ 1024 →
      ∃ t : State, exec (.hostQctlEnable q v) s = .next t ∧ (t.queue q).enabled = true ∧ (t.queue q).size = field v 5 11 ∧
        (t.queue q).sqHead = 0 ∧ (t.queue q).sqTail = 0 ∧ (t.queue q).cqHead = 0 ∧ (t.queue q).cqTail = 0 ∧
        (t.queue q).phase = true ∧ (t.queue q).due = [] ∧ t = { s with regs := t.regs, host := t.host } ∧
        ∀ j, j ≠ q.val → t.queue j = s.queue j) ∧
    (s.serving = true → (s.queue q).enabled = true →
      ∃ t : State, exec (.hostQctlDisable q v) s = .next t ∧ (t.queue q).enabled = false ∧
        (t.queue q).fetched = (s.queue q).fetched ∧ t.hostMem = s.hostMem) ∧
    (s.fetching = true → s.busMaster = true → s.linkUp = true → s.nextQueue = some q.val →
      let bytes := s.dmaRead (s.sqBase q + 64 * (s.queue q).sqHead) 64
      let head := ((s.queue q).sqHead + 1) % (s.queue q).size
      exec .sqFetch s = .next (((s.onQueue q (fun x => { x with sqHead := head })).onHost (fun h => { h with
        rrNext := (q.val + 1) % 32 })).takePacket (packetOf q head bytes).1 (packetOf q head bytes).2) ∧
      ∃ t : State, exec .sqFetch s = .next t ∧ (t.queue q).sqHead = ((s.queue q).sqHead + 1) % (s.queue q).size ∧
        (t.queue q).fetched = satAdd 32 (s.queue q).fetched 1 ∧ t.host.rrNext = (q.val + 1) % 32) ∧
    ((s.queue q).unsignalled ≠ 0 → s.fld (Reg.hostQctl q) 24 8 ≠ 0 →
      s.past (s.queue q).oldest (usTicks (s.fld (Reg.hostQctl q) 24 8)) = true →
      exec (.interruptCoalesceTimeout q) s = .next ((s.onQueue q (fun x => { x with unsignalled := 0 })).irq q))

/-- A completion that is written (R292): the reply's 32 bytes with the present PHASE stand in the CQ at its tail, every other byte of
host memory stays, the tail moves on by one modulo SIZE, and PHASE inverts where it wraps. -/
def Obligations.CompletionWritten : Prop :=
  ∀ (s : State) (q : Fin 32) (r : Reply) (rs : List Reply),
    s.clk.lost = false → (s.queue q).enabled = true → (s.queue q).err = false → s.busMaster = true → (s.queue q).due = r :: rs →
    (s.queue q).size ≠ 0 → (s.queue q).cqFull = false →
    ∃ t : State, exec (.cqCompletionWrite q) s = .next t ∧ (t.queue q).due = rs ∧
      (t.queue q).cqTail = ((s.queue q).cqTail + 1) % (s.queue q).size ∧
      (t.queue q).phase = (if (s.queue q).cqTail + 1 = (s.queue q).size then !(s.queue q).phase else (s.queue q).phase) ∧
      t.dmaRead (s.cqBase q + 32 * (s.queue q).cqTail) 32 = r.bytes (s.queue q).phase ∧
      ∀ a, a < s.cqBase q + 32 * (s.queue q).cqTail ∨ s.cqBase q + 32 * (s.queue q).cqTail + 32 ≤ a → t.hostByte a = s.hostByte a

/-- The link, DMA, UART, console, Fast Port clock and boundary scan rows (R273, R289, R296, R303, R311 to R314). A lost link resets the
MSI-X table and is reported; a link comes up at its speed and width once the reference is locked. A DMA error stops a queue, or ends a
running command with BAD_PARAM, detail DMA_ERROR; it is reported either way. A UART frame is taken as a packet or discarded and counted.
The console answers a line with what its command asks for. FP_CLK lost is reported, and a boundary-scan instruction is in force. -/
def Obligations.HostEventsComplete : Prop :=
  ∀ (s : State),
    (∀ how : LinkLoss, s.linkUp = true → ∃ t : State, exec (.hostLink how) s = .next t ∧ t.host.msix = [] ∧ t.host.pba = [] ∧
      t.host.funcMask = false ∧ Report.plain Code.hostLink 0xFFFF s.now ∈ t.flt.asserted) ∧
    (∀ speed width : Fin 4, s.endpointOn = true → s.clk.lost = false → s.linkUp = false → speed.val ≠ 0 →
      (width.val = 1 ∨ width.val = 2) → s.bit Reg.genClkstat 3 = true →
      ∃ t : State, exec (.pcieLinkUp speed width) s = .next t ∧ t.linkUp = true ∧ t.fld Reg.hostStat 4 2 = speed.val ∧
        t.fld Reg.hostStat 2 2 = width.val ∧ t.bit Reg.genClkstat 3 = true) ∧
    (s.linkUp = true → s.clk.lost = false → exec .busMasterEnable s = .next (s.setBit Reg.hostStat 0 true)) ∧
    (∀ (q : Fin 32) (how : DmaError), s.linkUp = true → s.clk.lost = false → (s.queue q).enabled = true →
      ∃ t : State, exec (.hostDma ⟨.sqFetch q, how⟩) s = .next t ∧ exec (.hostDma ⟨.cqWrite q, how⟩) s = .next t ∧
        (t.queue q).err = true ∧ (∀ j, j ≠ q.val → t.queue j = s.queue j) ∧
        Report.plain Code.hostDma q s.now ∈ t.flt.asserted ∧ t = { s with host := t.host, flt := t.flt }) ∧
    (∀ (q : Fin 32) (n : Nat) (how : DmaError) (e : Nat × Entry) (p : Packet), s.linkUp = true → s.clk.lost = false →
      s.fab.store.find? (fun e => e.2.state == .running && (match e.2.packet with | some p => p.src == q.val && p.hasPtr | none => false)) =
        some e → e.2.packet = some p →
      ∃ t r, exec (.hostDma ⟨.ptr q n, how⟩) s = .next t ∧ (e.2.order, r) ∈ t.host.results ∧ r.status = Status.badParam ∧
        r.detail = 0x55 ∧ ∃ x ∈ t.flt.asserted, x.code = Code.hostDma ∧ x.inst = q.val) ∧
    (∀ (line : List Byte) (r : Packet × Nat), s.fetching = true → s.bit Reg.hostCtl 1 = true → framePacket line = some r →
      exec (.uartFrame line) s = .next (s.takeUart r)) ∧
    (∀ line : List Byte, s.serving = true → framePacket line = none →
      exec (.uartFrame line) s = .next (s.onHost (fun h => { h with uartDiscards := satAdd 32 h.uartDiscards 1 }))) ∧
    (∀ line : List Byte, s.serving = true → s.bit Reg.hostCtl 0 = true → (line.any (fun b => b == 0x7E || b == 0x7D)) = false →
      ∃ t : State, exec (.consoleLine line) s = .next t ∧
        t.host.consoleOut = (Config.consoleText line (match consoleCmd line with | some c => s.consoleData c | none => [])).filter
          (fun b => !(b == 0x7E || b == 0x7D)) :: s.host.consoleOut ∧
        t = { s with host := t.host }) ∧
    (s.serving = true → s.causePresent Code.hostFpclk = false →
      exec .hostFpclk s = .next (((s.setBit Reg.hostFpstat 0 false).setBit Reg.hostFpstat 1 true).reportNow Code.hostFpclk 0xFFFF)) ∧
    (∀ (i : TapIns) (low : Bool) (cells : ScanCells), ∃ t : State, exec (.tapInstruction ⟨i, low, cells⟩) s = .next t ∧
      t.host.tap = (if low then .idcode else i) ∧ t.host.scan = cells ∧ t.hostMem = s.hostMem)

/-- Reads with an effect (R35, R282 to R284), on an interface that answers: GEN_TIME_LO latches the high word of the same value; GEN_TIME_HI
and the high word of a pair give what was latched, once, and without it the live word with TORN; the low word of a pair latches its high
word; SUM_LO latches every other word of its set. -/
def Obligations.ReadsComplete : Prop :=
  ∀ (s : State), s.portOn .pcie = true → s.pwr.boot = .ready →
    (∃ t : State, exec .genTimeLoRead s = .next t ∧ t.host.lastRead = lo32 s.now ∧
      t.shadow .pcie Reg.genTimeHi = some (hi32 s.now)) ∧
    (∀ v, s.shadow .pcie Reg.genTimeHi = some v →
      ∃ t : State, exec .genTimeHiRead s = .next t ∧ t.host.lastRead = v ∧ t.shadow .pcie Reg.genTimeHi = none ∧ t.regs = s.regs) ∧
    (s.shadow .pcie Reg.genTimeHi = none →
      ∃ t : State, exec .genTimeHiRead s = .next t ∧ t.host.lastRead = hi32 s.now ∧ t.bit Reg.genTsync 3 = true) ∧
    (∀ off, pairLow off = true → setWord off ≠ some 0 → s.shadow .pcie off = none →
      ∃ t : State, exec (.pairLowRead .pcie off) s = .next t ∧ t.host.lastRead = s.readReg off ∧
        t.shadow .pcie (off + 4) = some (s.readReg (off + 4)) ∧ t.regs = s.regs) ∧
    (∀ off v, shadowed off = true → s.shadow .pcie off = some v →
      ∃ t : State, exec (.pairHighRead .pcie off) s = .next t ∧ t.host.lastRead = v ∧ t.shadow .pcie off = none ∧ t.regs = s.regs) ∧
    (∀ (ad : Fin 4) (k : Fin 128), ∃ t : State, exec (.accSumLoRead .pcie ad k) s = .next t ∧
      t.host.lastRead = s.readReg (Reg.msrAset (16 * (128 * ad.val + k.val))) ∧
      (∀ w ∈ setShadows, t.shadow .pcie (Reg.msrAset (16 * (128 * ad.val + k.val)) + 4 * w) =
        some (s.readReg (Reg.msrAset (16 * (128 * ad.val + k.val)) + 4 * w))) ∧ t.regs = s.regs)

/-- Register writes of the host (R12 to R16, R279, R280, R287): a write where the spec gives no register changes no register; a word
written over BAR0 to a register whose write has no effect of its own is taken by the access codes of its fields, and no other register
changes; a write of more than two words or of part of a word is discarded and counted. -/
def Obligations.RegisterWritesComplete : Prop :=
  ∀ (s : State) (off : Nat) (v : Word), s.portOn .pcie = true → s.pwr.boot = .ready →
    (off % 4 = 0 → findRow off = none → exec (.registerWrite .bar0 off [v] true) s = .next s) ∧
    (off % 4 = 0 → exec (.registerWrite .bar0 off [v] true) s = .next (s.hostWrite off v)) ∧
    (exec (.registerWrite .bar0 off [v] false) s = .next (s.incFld Reg.hostStat 16 16)) ∧
    (∀ a b c rest, exec (.registerWrite .bar0 off (a :: b :: c :: rest) true) s = .next (s.incFld Reg.hostStat 16 16)) ∧
    (∀ o ∈ [Reg.lmpCtl, Reg.lmpDrt, Reg.prvCtl, Reg.msrCtl, Reg.fioInirq, Reg.fioOnirq, Reg.pwrCtl], ∀ r, findRow o = some r →
      exec (.registerWrite .bar0 o [v] true) s = .next (s.setReg o (r.write (s.reg o) v)))

/-- A field after a write of a word, by its access code (R12, R14, R16): an RW field takes a value that its encoding table lists and keeps
its value otherwise, a W1C field keeps the flags where a 0 is written and loses those where a 1 is, an RO field keeps its value; in
every case no bit outside the field changes. -/
def Obligations.FieldAccessCodes : Prop :=
  ∀ (f : Fld) (old v : Word), f.lo + f.len ≤ 32 →
    (f.acc = .rw → f.lists (field v f.lo f.len) = true → field (f.write old v) f.lo f.len = field v f.lo f.len) ∧
    (f.acc = .rw → f.lists (field v f.lo f.len) = false → f.write old v = old) ∧
    (f.acc = .w1c → ∀ b, b < f.len →
      (f.write old v).getLsbD (f.lo + b) = (old.getLsbD (f.lo + b) && !v.getLsbD (f.lo + b))) ∧
    (f.acc = .ro → f.write old v = old) ∧
    (∀ b, b < f.lo ∨ f.lo + f.len ≤ b → (f.write old v).getLsbD b = old.getLsbD b)

/-- The start of an LMP commit (R64 to R66, R68). With staged values that pass every check, over a command and over LMP_CFGCMT, it runs
over a snapshot of them, LMP_CFGSTAT reads BUSY and COMMIT 1, and the groups whose targets rise are those it waits for. Where a check fails,
nothing staged takes effect and LMP_CFGSTAT names the first failure. -/
def Obligations.LmpCommitChecked : Prop :=
  (∀ (s : State), s.lamps.commit = none → s.lmpFault (s.snapConf s.lmpSnap) = none →
     (∀ p, s.accepts Op.lmpCommit p → ∃ t : State, exec (.lmpCommit p) s = .next t ∧ t.fld Reg.lmpCfgstat 0 8 = Status.busy ∧
       t.reg Reg.lmpCfgcmt = 1 ∧ t.live = s.live ∧
       t.lamps.commit = some ⟨s.lmpSnap, (List.range 8).filter (fun g =>
         decide (s.targetOf (s.snapConf s.lmpSnap) g > (s.group g).target)), s.mono, pEst (s.snapConf s.lmpSnap), some p⟩) ∧
     (s.served = true → ∃ t : State, exec .lmpCfgcmtCommit s = .next t ∧ t.fld Reg.lmpCfgstat 0 8 = Status.busy ∧
       t.reg Reg.lmpCfgcmt = 1 ∧ t.live = s.live ∧
       t.lamps.commit = some ⟨s.lmpSnap, (List.range 8).filter (fun g =>
         decide (s.targetOf (s.snapConf s.lmpSnap) g > (s.group g).target)), s.mono, pEst (s.snapConf s.lmpSnap), none⟩)) ∧
  (∀ (s : State) (st d i : Nat), s.lamps.commit = none → s.lmpFault (s.snapConf s.lmpSnap) = some (st, d, i) → s.served = true →
     st < 256 → d < 256 → i < 512 →
     ∃ t : State, exec .lmpCfgcmtCommit s = .next t ∧ t.live = s.live ∧ t.fld Reg.lmpCfgstat 0 8 = st ∧
       t.fld Reg.lmpCfgstat 8 8 = d ∧ t.fld Reg.lmpCfgstat 16 9 = i ∧ t.lamps = s.lamps)

/-- The end of an LMP commit (R66): with every raised rail at its target every staged value of the snapshot takes effect and every other
committed value stays; with a raised rail late after 10 ms none takes effect and LMP_CFGSTAT reads RAIL_TIMEOUT of that group. -/
def Obligations.LmpCommitEnds : Prop :=
  ∀ (s : State) (c : LmpCommit), s.lamps.commit = some c → s.served = true → s.upd.todo = [] →
    (s.saved = false → c.upGroups.all s.railReady = true → Tab.wf regReset c.snap = true →
      (∀ e ∈ c.snap, lmpStaged e.1 = true) →
      ∃ t : State, exec .lmpCommitApply s = .next t ∧ t.lamps.commit = none ∧
        (∀ off, lmpStaged off = true → t.liveReg off = Tab.get regReset c.snap off) ∧
        (∀ off, lmpStaged off = false → t.liveReg off = s.liveReg off) ∧ t.fld Reg.lmpCfgstat 0 8 = Status.ok) ∧
    (∀ g, c.upGroups.find? (fun g => !s.railReady g) = some g → g < 8 → s.past c.started (msTicks 10) = true →
      ∃ t : State, exec .lmpCommitTimeout s = .next t ∧ t.lamps.commit = none ∧ t.live = s.live ∧
        t.fld Reg.lmpCfgstat 0 8 = Status.state ∧ t.fld Reg.lmpCfgstat 8 8 = 0x20 ∧ t.fld Reg.lmpCfgstat 16 9 = g)

/-- LMP_ESTIMATE (R86) answers the first failure of checks 2 to 9, or none, with P_est of the staged values, and changes nothing but the
reply. LMP_STRING_RESTORE (R140) of a cut string whose shunts read closed clears its STUCK marks and starts the string from zero current:
DISABLED where it is not enabled or has no current set, else WAIT_RAIL or, with the rail ready, RAMP_UP; with a shunt not closed it is
refused with CAUSE_ACTIVE, and of a string that is not CUT with STATE. A write of LMP_SEN (R69, R71) stands, and of the strings whose bit
changed one that is switched off ramps down from its present current, or is DISABLED at 0, and one that is switched on ramps up towards
its target, or waits for its rail at 0; no current changes at once, cut and held strings stay, and so does every string whose bit stays. -/
def Obligations.LmpCommandsComplete : Prop :=
  ∀ (s : State),
    (∀ p, s.accepts Op.lmpEstimate p →
      (s.confFault (s.snapConf s.lmpSnap) = none →
        exec (.lmpEstimate p) s = .next (s.answer Op.lmpEstimate p Status.ok 0 [0, 0, word (pEst (s.snapConf s.lmpSnap))])) ∧
      (∀ f, s.confFault (s.snapConf s.lmpSnap) = some f →
        exec (.lmpEstimate p) s =
          .next (s.answer Op.lmpEstimate p Status.badParam f.1 [word f.1, word f.2, word (pEst (s.snapConf s.lmpSnap))]))) ∧
    (∀ p, s.accepts Op.lmpStringRestore p → (p.word 0).toNat ≤ 127 →
      let n := (p.word 0).toNat
      ((s.str n).state ≠ .cut → ∀ c, exec (.lmpStringRestore p c) s = .next (s.answer Op.lmpStringRestore p Status.state 0 [])) ∧
      ((s.str n).state = .cut →
        exec (.lmpStringRestore p false) s = .next (s.answer Op.lmpStringRestore p Status.causeActive 0 []) ∧
        ∃ t : State, exec (.lmpStringRestore p true) s = .next (t.answer Op.lmpStringRestore p Status.ok 0 []) ∧
          (∀ l ∈ lampsOf n, (t.prv l).stuck = false) ∧ (t.str n).cur = 0 ∧ (t.str n).stuckCut = false ∧
          (s.sinkHeld n = false → (t.str n).state = if s.enabled n = true ∧ s.target n ≠ 0 then
            (if s.railReady (groupOf n) then .rampUp else .waitRail) else .disabled) ∧
          (s.sinkHeld n = true → (t.str n).state = .disabled) ∧ ∀ j, j ≠ n → t.str j = s.str j)) ∧
    (∀ (n : Fin 4) (v : Word), s.served = true →
      ∃ t : State, exec (.lmpSenWrite n v) s = .next t ∧ t.reg (Reg.lmpSen n) = v ∧ t = { s with regs := t.regs, lamps := t.lamps } ∧
        (∀ off, off ≠ Reg.lmpSen n → t.reg off = s.reg off) ∧ (∀ j, j / 32 ≠ n.val → t.str j = s.str j) ∧
        ∀ b, b < 32 →
          let x := s.str (32 * n.val + b)
          let y := t.str (32 * n.val + b)
          (wbit (s.reg (Reg.lmpSen n)) b = wbit v b ∨ x.state = .cut ∨ x.state = .sagCut ∨ s.sinkHeld (32 * n.val + b) = true → y = x) ∧
          (wbit (s.reg (Reg.lmpSen n)) b ≠ wbit v b → x.state ≠ .cut → x.state ≠ .sagCut → s.sinkHeld (32 * n.val + b) = false →
            y.cur = x.cur ∧ (wbit v b = false → y.state = if x.cur = 0 then .disabled else .rampDown) ∧
            (wbit v b = true → x.cur < s.target (32 * n.val + b) →
              y.state = if x.cur = 0 ∧ s.railReady (groupOf (32 * n.val + b)) = false then .waitRail else .rampUp)))

/-- Ramps and derating (R69 to R73, R79 to R81): a step that is due by the ramp's slope, or in STEADY 10 µs after the last one, moves the
present current by one towards the string's target; a step that is not due, or at the target, changes nothing. A ramp that has arrived
ends, STEADY or at 0 DISABLED. DERATING_UPDATE, once per millisecond, gives every group the factor of its temperature. -/
def Obligations.RampsComplete : Prop :=
  ∀ (s : State) (str : Fin 128), s.served = true →
    (s.sinkHeld str = false → ((s.str str).state = .rampUp ∨ (s.str str).state = .rampDown ∨ (s.str str).state = .steady) →
      ∃ t : State, exec (.presentCurrentStep str) s = .next t ∧ t = { s with lamps := t.lamps } ∧
        (t.str str).state = (s.str str).state ∧
        let x := s.str str
        let due := if x.state = .steady then x.rampAt + 6400 ≤ s.mono
          else (x.rampSteps + 1) * x.slopeDen * 640000 ≤ x.slopeNum * (s.mono - x.rampAt)
        (due → x.cur < s.rampEnd str → (t.str str).cur = x.cur + 1) ∧
        (due → s.rampEnd str < x.cur → (t.str str).cur + 1 = x.cur) ∧
        (¬ due ∨ x.cur = s.rampEnd str → t = s) ∧
        ∀ j, j ≠ str.val → t.str j = s.str j) ∧
    (s.sinkHeld str = false → ((s.str str).state = .rampUp ∨ (s.str str).state = .rampDown) → (s.str str).cur = s.rampEnd str →
      ((s.str str).cur = 0 → exec (.stringRampEnd str) s = .next (s.onStr str (fun x => { x with state := .disabled }))) ∧
      ((s.str str).cur ≠ 0 → exec (.stringRampEnd str) s =
        .next ((s.onStr str (fun x => { x with state := .steady, steadySince := s.mono })).review))) ∧
    (s.past s.lamps.deratedAt (msTicks 1) = true → ∃ t : State, exec .deratingUpdate s = .next t ∧ t = { s with lamps := t.lamps } ∧
      ∀ g, g < 8 → (t.group g).kf = deratingK (s.deratingInput g) (s.reg Reg.lmpDrt))

/-- A derated current (R79): never above the set current, 0 for a set current of 0, and at least 2.0 mA (32 steps) for one of at least
2.0 mA; it does not rise as the temperature rises. -/
def Obligations.DeratingBounds : Prop :=
  (∀ cur k, ieff cur k ≤ cur ∧ ieff 0 k = 0 ∧ (32 ≤ cur → 32 ≤ ieff cur k)) ∧
  (∀ (t u : Int) (drt : Word) (cur : Nat), t ≤ u → ieff cur (deratingK u drt) ≤ ieff cur (deratingK t drt))

/-- Rails (R61, R63, R499): the setpoint slews in steps of 50 mV, 10 µs apart, and stops at the target; RAIL_TARGET_REACHED marks the rail
ready 50 µs after the setpoint and the measured rail got there; the rail and NTC fault rows report, hold the drive and end, each after its
time. The rows of ramps and rail voltages change the lamp section only, the rows of rail faults the lamp section and the fault collector
only, whatever they find. -/
def Obligations.RailsComplete : Prop :=
  (∀ (s : State) (g : Fin 8) (mv : Nat),
     (s.served = true → s.drvHeld g = false → (s.group g).setpoint < (s.group g).target →
       s.past (s.group g).slewAt (usTicks 10) = true → exec (.railSlewStep g) s =
         .next (s.onGroup g (fun r => { r with setpoint := min (r.setpoint + 50) r.target, slewAt := s.mono }))) ∧
     (s.served = true → s.drvHeld g = false → (s.group g).target < (s.group g).setpoint →
       s.past (s.group g).slewAt (usTicks 10) = true → exec (.railSlewStep g) s =
         .next (s.onGroup g (fun r => { r with setpoint := max (r.setpoint - 50) r.target, slewAt := s.mono }))) ∧
     (∀ stay, s.served = true → s.drvHeld g = false → (s.group g).setpoint = (s.group g).target →
       s.past (s.group g).slewAt (usTicks 50) = true → usTicks 50 ≤ stay →
       50 * ((mv - (s.group g).target) + ((s.group g).target - mv)) ≤ (s.group g).target + 2500 →
       ∃ t : State, exec (.railTargetReached g ⟨mv, stay⟩) s = .next t ∧ (t.group g).reached = true ∧ (t.group g).measMv = mv ∧
         t = { s with lamps := t.lamps }) ∧
     (s.railJudged g = true → (s.group g).setpoint = (s.group g).target → 20 * mv + 2000 < 19 * (s.group g).target →
       (s.group g).uv = false →
       exec (.railUv g mv) s =
         .next (((s.measure g mv).onGroup g (fun r => { r with uv := true, reached := false })).railReport Code.railUv g)) ∧
     (s.railJudged g = true → (11 * (s.group g).setpoint + 2000 < 10 * mv ∨ 21000 < mv) → (s.group g).ov = false →
       ∃ t : State, exec (.railOv g mv) s = .next t ∧ (t.group g).ov = true ∧ t.drvHeld g = true ∧ (Code.railOv, g.val) ∈ t.flt.causes) ∧
     (s.railJudged g = true → (s.group g).ovHold = true → 20 * mv < 21 * (s.group g).setpoint →
       ∃ t : State, exec (.railOvEnd g mv) s = .next t ∧ (t.group g).ovHold = false ∧ (t.group g).ov = false ∧
         (Code.railOv, g.val) ∉ t.flt.causes) ∧
     (s.railJudged g = true → (s.group g).ocHold = false →
       ∃ t : State, exec (.railOc g) s = .next t ∧ (t.group g).oc = true ∧ t.drvHeld g = true) ∧
     (s.railJudged g = true → (s.group g).ocHold = true → s.past (s.group g).ocAt (msTicks 10) = true →
       ∃ t : State, exec (.railOcHoldEnd g mv) s = .next t ∧ (t.group g).ocHold = false ∧ (t.group g).measMv = mv ∧
         t = { s with lamps := t.lamps }) ∧
     (s.railJudged g = true → (s.group g).oc = true → (s.group g).ocHold = false → (s.group g).setpoint = (s.group g).target →
       ∃ t : State, exec (.railOcEnd g) s = .next t ∧ (t.group g).oc = false ∧ (Code.railOc, g.val) ∉ t.flt.causes) ∧
     (s.served = true → s.bit Reg.lmpNtccfg (16 + g) = true → (s.group g).ntcFault = false →
       (s.group g).ntcOut.any (fun t => s.past t (msTicks 10)) = true →
       ∃ t : State, exec (.ntcFault g) s = .next t ∧ (t.group g).ntcFault = true ∧ (Code.ntcFault, g.val) ∈ t.flt.causes)) ∧
  (∀ (s t : State) (g : Fin 8) (str : Fin 128) (mv stay : Nat),
     ((exec (.presentCurrentStep str) s = .next t ∨ exec .deratingUpdate s = .next t ∨ exec (.railSlewStep g) s = .next t ∨
       exec (.railTargetReached g ⟨mv, stay⟩) s = .next t ∨ exec (.railOcHoldEnd g mv) s = .next t) → t = { s with lamps := t.lamps }) ∧
     ((exec (.railUv g mv) s = .next t ∨ exec (.railOv g mv) s = .next t ∨ exec (.railOvEnd g mv) s = .next t ∨
       exec (.railOc g) s = .next t ∨ exec (.railOcEnd g) s = .next t ∨ exec (.ntcFault g) s = .next t) →
       t = { s with lamps := t.lamps, flt := t.flt }))

/-- The ASP commit (R94 to R96): staged lane settings that pass every check come into force together, over a command and over ASP_CFGCMT,
and settings that fail one leave every committed value as it was, with the failure in ASP_CFGSTAT. Host lamp commands (R124): ASP_LCMD
with GO apply the aspect and duty to a lamp that refuses none; ASP_SET of 1 to 11 entries applies each in turn (the model's choice where two
name one lamp, log entry 95) where none is refused, and none where one is, answering the first refused entry. ASP_LANE_STATS answers a
lane's or a return input's counters and clears them on request; ASP_RCFG sets an input hunting or disabled. -/
def Obligations.AspCommandsComplete : Prop :=
  (∀ (s : State),
     (s.served = true → s.aspFault = none →
       ∃ t : State, exec .aspCfgcmtCommit s = .next t ∧
         (∀ l, l < 512 → t.liveReg (Reg.aspLcfg l) = s.reg (Reg.aspLcfg l) ∧ t.liveReg (Reg.aspLphase l) = s.reg (Reg.aspLphase l) ∧
           t.liveReg (Reg.prvLcfg l) = s.reg (Reg.prvLcfg l)) ∧
         t.liveReg Reg.prvCtl = s.reg Reg.prvCtl ∧ t.reg Reg.aspCfgstat = 0) ∧
     (∀ st d l, s.served = true → s.aspFault = some (st, d, l) →
       exec .aspCfgcmtCommit s = .next (s.setReg Reg.aspCfgstat (pack [(0, st), (8, d), (16, l)]))) ∧
     (∀ p, s.accepts Op.aspCommit p → s.aspFault = none →
       exec (.aspCommit p) s = .next (s.runAspCommit.2.answer Op.aspCommit p Status.ok 0 [0, 0]))) ∧
  (∀ (s : State),
     (∀ (l : Fin 512) (v : Word), s.served = true → wbit v 31 = true →
       (s.writeReg (Reg.aspLcmd l) v).hostRefused l = none →
       exec (.aspLcmdGo l v) s = .next ((s.writeReg (Reg.aspLcmd l) v).commandStream .host l
         (hostContent ((s.writeReg (Reg.aspLcmd l) v).fld (Reg.aspLcmd l) 16 2) ((s.writeReg (Reg.aspLcmd l) v).fld (Reg.aspLcmd l) 0 16)))) ∧
     (∀ p n, s.accepts Op.aspSet p → (p.word 0).toNat = n → 1 ≤ n → n ≤ 11 → (∀ i, n < i → i < 12 → p.word i = 0) →
       ((∀ i, i < n → field (p.word (i + 1)) 9 5 = 0 ∧ s.hostRefused (field (p.word (i + 1)) 0 9) = none) →
         exec (.aspSet p) s = .next ((((List.range n).map (fun i => p.word (i + 1))).foldl (fun s w =>
           s.commandStream .host (field w 0 9) (hostContent (field w 14 2) (field w 16 16))) s).answer Op.aspSet p Status.ok 0 [0xFF])) ∧
       (∀ i, i < n → (∀ j, j < i → field (p.word (j + 1)) 9 5 = 0 ∧ s.hostRefused (field (p.word (j + 1)) 0 9) = none) →
         (field (p.word (i + 1)) 9 5 ≠ 0 → exec (.aspSet p) s = .next (s.answer Op.aspSet p Status.badParam 0x0A [word i])) ∧
         (∀ st, field (p.word (i + 1)) 9 5 = 0 → s.hostRefused (field (p.word (i + 1)) 0 9) = some st →
           exec (.aspSet p) s = .next (s.answer Op.aspSet p st 0 [word i])))) ∧
     (∀ p, s.accepts Op.aspLaneStats p → wbit (p.word 0) 16 = true →
       ∃ t : State, exec (.aspLaneStats p) s = .next (t.answer Op.aspLaneStats p Status.ok 0
           ([(s.ret (field (p.word 0) 0 9)).good, (s.ret (field (p.word 0) 0 9)).crc, (s.ret (field (p.word 0) 0 9)).framing,
             (s.ret (field (p.word 0) 0 9)).syncLoss, (s.ret (field (p.word 0) 0 9)).unassigned].map word)) ∧
         (wbit (p.word 0) 17 = false → t = s) ∧
         (wbit (p.word 0) 17 = true → t = s.onRet (field (p.word 0) 0 9) (fun x => { x with
           good := 0, crc := 0, framing := 0, syncLoss := 0, unassigned := 0 }))) ∧
     (∀ p, s.accepts Op.aspLaneStats p → wbit (p.word 0) 16 = false →
       ∃ t : State, exec (.aspLaneStats p) s = .next (t.answer Op.aspLaneStats p Status.ok 0
           ([(s.stream (field (p.word 0) 0 9)).sent, (s.stream (field (p.word 0) 0 9)).replaced,
             (s.stream (field (p.word 0) 0 9)).repeated, (s.stream (field (p.word 0) 0 9)).idles].map word)) ∧
         (wbit (p.word 0) 17 = false → t = s) ∧
         (wbit (p.word 0) 17 = true → t = s.onStream (field (p.word 0) 0 9) (fun x => { x with
           sent := 0, replaced := 0, repeated := 0, idles := 0 }))) ∧
     (∀ (n : Fin 512) (v : Word), s.served = true →
       ∃ t : State, exec (.aspRcfgWrite n v) s = .next t ∧ (t.ret n).lastEdge = s.mono ∧ (t.ret n).los = false ∧ (t.ret n).errors = [] ∧
         (t.ret n).state = (if t.bit (Reg.aspRcfg n) 0 then .hunt else .disabled) ∧ t = { s with regs := t.regs, lamps := t.lamps }))

/-- From a host command to its lamp (R98, R105, R106, R108, R114, R124): a host command that may act is what its stream shows from then
on, at once where it does not fade; on a free framed lane the next frame carries new content with the next sequence number modulo 16, as a
strike for a steady aspect with FKIND 0 and as a command frame otherwise. -/
def Obligations.ContentReachesLamp : Prop :=
  (∀ (s : State) (l : Nat) (c : Content), s.mayAct .host l = true →
     ((s.commandStream .host l c).stream l).content = c ∧
     (confFramed s.conf l = false → s.fld (Reg.aspLcfg l) 16 16 = 0 →
       ((s.commandStream .host l c).stream l).dIns = dInsOf (confW s.conf l) c) ∧
     (∀ j, j ≠ l → (s.commandStream .host l c).stream j = s.stream j)) ∧
  (∀ (s : State) (l : Fin 512) (c : Content), s.served = true → confFramed s.conf l = true → (s.stream l).content.aspect ≠ .dark →
     (s.stream l).lineBusy (s.boundary l) = false → (s.stream l).sagPend = false → (s.stream l).huskPend = false →
     (s.stream l).newPend = some c →
     ∃ t f, exec (.frameTransmitStart l) s = .next t ∧ (t.stream l).now = some f ∧ (t.stream l).newPend = none ∧
       (t.stream l).seq = ((s.stream l).seq + 1) % 16 ∧ f.seq = ((s.stream l).seq + 1) % 16 ∧ f.content = c ∧
       f.start = s.boundary l ∧
       (strikes (confFkind s.conf l) c = true → f.kind = .strike ∧ f.syms = strikeSyms false f.seq c.aspect) ∧
       (strikes (confFkind s.conf l) c = false → f.kind = .command ∧ f.syms = commandSyms f.seq c))

/-- Generators and serialisers (R100, R108 to R111, R149). A fade step at the start of an insertion interval sets the duty of its elapsed
time, or ends the fade at its target. At a boundary of an idle line the item of highest priority starts: a sag frame, a husk frame, new
content, the command frame of a restart, a repeat, an IDLE strike; with none the line goes on. An IDLE strike falls due after the refresh
time. A proving flash takes the place of idle symbols on a lane whose position is proven and has not been lit for half a trickle interval. -/
def Obligations.LaneEventsComplete : Prop :=
  ∀ (s : State) (l : Fin 512), s.served = true →
    (∀ f, (s.stream l).fade = some f →
      counterAt (confW s.conf l) (confPre s.conf l) s.lampTime = confPhase s.conf l % 2 ^ confW s.conf l →
      ∃ t : State, exec (.fadeStep l) s = .next t ∧ t = { s with lamps := t.lamps, fab := t.fab, regs := t.regs } ∧
        (f.len ≤ (s.mono - f.start) / 640 → (t.stream l).dIns = f.d1 ∧ (t.stream l).fade = none) ∧
        ((s.mono - f.start) / 640 < f.len → (t.stream l).fade = some f ∧
          (t.stream l).dIns = ((f.d0 : Int) + truncDiv (((f.d1 : Int) - f.d0) * ((s.mono - f.start) / 640 : Nat)) f.len).toNat)) ∧
    (confFramed s.conf l = true → (s.stream l).content.aspect ≠ .dark → (s.stream l).lineBusy (s.boundary l) = false →
      let x := s.stream l
      let sym := symTicks (confRate s.conf l)
      ∃ t : State, exec (.frameTransmitStart l) s = .next t ∧ t = { s with lamps := t.lamps, fab := t.fab, regs := t.regs } ∧
        (x.sagPend = true → ∃ f, (t.stream l).now = some f ∧ f.start = s.boundary l ∧ f.seq = (x.seq + 1) % 16 ∧ (t.stream l).sagPend = false ∧
          f.content.aspect = .block ∧ (f.kind = .command ↔ s.boundary l + 6 * sym ≤ s.pwr.sagTime + 2624) ∧
          (f.kind = .strike ↔ s.pwr.sagTime + 2624 < s.boundary l + 6 * sym)) ∧
        (x.sagPend = false → x.huskPend = true → ∃ f, (t.stream l).now = some f ∧ f.start = s.boundary l ∧ f.seq = (x.seq + 1) % 16 ∧
          (t.stream l).huskPend = false ∧ f.kind = .command ∧ f.content = ⟨huskAspect (confHusk s.conf l), false, 0, true, 0⟩) ∧
        (∀ c, x.sagPend = false → x.huskPend = false → x.newPend = some c → ∃ f, (t.stream l).now = some f ∧ f.start = s.boundary l ∧
          f.seq = (x.seq + 1) % 16 ∧ f.content = c ∧ (t.stream l).newPend = none) ∧
        (x.sagPend = false → x.huskPend = false → x.newPend = none → x.restartPend = true → ∃ f, (t.stream l).now = some f ∧
          f.start = s.boundary l ∧ f.seq = (x.seq + 1) % 16 ∧ f.kind = .command ∧ f.content.aspect = x.content.aspect ∧
          f.content.duty = x.content.duty) ∧
        (∀ g rest, x.urgent = false → x.repeatPend = true → x.sentNew = g :: rest → ∃ f, (t.stream l).now = some f ∧
          f.start = s.boundary l ∧ f.kind = g.kind ∧ f.seq = g.seq ∧ f.syms = g.syms ∧ (t.stream l).seq = x.seq ∧
          (t.stream l).repeated = satAdd 32 x.repeated 1) ∧
        (x.urgent = false → x.repeatPend = false → x.idlePend = true → ∃ f, (t.stream l).now = some f ∧ f.start = s.boundary l ∧
          f.kind = .idle ∧ (t.stream l).seq = x.seq ∧ (t.stream l).idles = satAdd 32 x.idles 1) ∧
        (x.urgent = false → x.repeatPend = false → x.idlePend = false → (t.stream l).now = x.now)) ∧
    (confFramed s.conf l = true → (s.stream l).content.aspect ≠ .dark → s.fld Reg.aspCtl 0 8 ≠ 0 →
      (s.stream l).lineBusy s.lampTime = false → (s.stream l).lastEnd + usTicks (s.fld Reg.aspCtl 0 8) ≤ s.lampTime →
      exec (.idleStrikeRefresh l) s = .next (s.onStream l (fun x => { x with idlePend := true }))) ∧
    (∀ p, s.edgeLamp l = some p → s.proven p = true → confFramed s.conf l = true → confFlash s.conf l = true →
      (s.stream l).content.aspect ≠ .dark → (s.stream l).urgent = false → (s.stream l).repeatPend = false → (s.stream l).idlePend = false →
      (s.stream l).now.all (fun f => decide (f.stop + 4 * symTicks (confRate s.conf l) ≤ s.boundary l)) = true →
      s.past (s.prv p).lastLitAt (confTrk s.conf / 2) = true → s.past (s.stream l).lastFlash (confTrk s.conf) = true →
      ∃ t : State, exec (.provingFlash l) s = .next t ∧ t = { s with lamps := t.lamps, fab := t.fab, regs := t.regs } ∧
        (t.stream l).lastFlash = s.mono ∧ ∃ f, (t.stream l).now = some f ∧ f.kind = .flash ∧ f.start = s.boundary l)

/-- Return inputs (R42, R43, R116, R118, R121, R122). A hunting input that finds synchronisation is in SYNC; one that loses it hunts
again, and SYNC_LOSS is counted and shown; an enabled input without a transition for 32 bit times shows LOS. At an input in SYNC, a frame
of K28.0 and seven data characters with a right CRC writes STATUS, VCAP, TEMP and ECHO of the valid entry that names the input, with AGE
0, FRAMES one more, the time and U_GATE by the STATUS byte, and is counted as good; where no entry names the input it is counted as
unassigned and shown; with a wrong CRC it is counted and nothing else of it is used. The rank of an accepted frame follows in its own
step. -/
def Obligations.ReturnLanesComplete : Prop :=
  ∀ (s : State) (n : Fin 512), s.served = true →
    ((s.ret n).state = .hunt →
      exec (.returnSyncAcquire n) s = .next (s.onRet n (fun r => { r with
        state := .sync, los := false, lastEdge := s.mono, errors := [] }))) ∧
    (∀ b, (s.ret n).state = .sync →
      exec (.syncLoss n b) s = .next ((s.onRet n (fun r => { r with
        state := .hunt, errors := [], syncLoss := satAdd 32 r.syncLoss 1 })).setBit (Reg.aspRstat n) 2 true)) ∧
    ((s.ret n).state ≠ .disabled → s.past (s.ret n).lastEdge (32 * bitTicks (s.fld (Reg.aspRcfg n) 1 2)) = true →
      exec (.returnLos n) s = .next (s.onRet n (fun r => { r with los := true }))) ∧
    (∀ b0 b1 b2 b3 b4 b5 b6 : Byte, (s.ret n).state = .sync → countTrue (s.ret n).errors < 4 →
      let frame : List RetSym := [.ctrl 0x1C, .data b0, .data b1, .data b2, .data b3, .data b4, .data b5, .data b6]
      (∀ e, crc16 [b0, b1, b2, b3, b4] = 256 * b5.toNat + b6.toNat → s.weir.smt.find? (fun e => e.2.valid && e.2.rxl == n.val) = some e →
        ∃ t : State, exec (.returnFrame n frame) s = .next t ∧ (t.ret n).good = satAdd 32 (s.ret n).good 1 ∧ (t.ret n).los = false ∧
          (t.smt e.1).status = b0.toNat ∧ (t.smt e.1).vcap = 256 * b1.toNat + b2.toNat ∧ (t.smt e.1).temp = b3.toNat ∧
          (t.smt e.1).echo = b4.toNat ∧ (t.smt e.1).age = 0 ∧ (t.smt e.1).frames = ((s.smt e.1).frames + 1) % 65536 ∧
          (t.smt e.1).rtime = s.now ∧
          ((t.smt e.1).uGate = true ↔ b0.getLsbD 7 = false ∨ b0.getLsbD 5 = true ∨ b0.getLsbD 6 = true ∨
            (b0.getLsbD 4 = true ∧ s.bit (Reg.weirAcfg (s.smt e.1).arm) 2 = true))) ∧
      (crc16 [b0, b1, b2, b3, b4] = 256 * b5.toNat + b6.toNat → s.weir.smt.find? (fun e => e.2.valid && e.2.rxl == n.val) = none →
        ∃ t : State, exec (.returnFrame n frame) s = .next t ∧ (t.ret n).unassigned = satAdd 32 (s.ret n).unassigned 1 ∧
          t.bit (Reg.aspRstat n) 3 = true ∧ t = { s with lamps := t.lamps, regs := t.regs }) ∧
      (crc16 [b0, b1, b2, b3, b4] ≠ 256 * b5.toNat + b6.toNat →
        ∃ t : State, exec (.returnFrame n frame) s = .next t ∧ (t.ret n).crc = satAdd 32 (s.ret n).crc 1 ∧ (t.ret n).state = .sync ∧
          (t.ret n).good = (s.ret n).good ∧ t = { s with lamps := t.lamps })) ∧
    (∀ (sm : Fin 4096) v, (s.smt sm).rankPend = some v →
      ∃ t : State, exec (.rankUpdate sm) s = .next t ∧ (t.smt sm).ranked = some v ∧ (t.smt sm).rankPend = none ∧
        t = { s with weir := t.weir } ∧ ∀ j, j ≠ sm.val → (t.smt j).ranked = (s.smt j).ranked)

/-- A strike frame (R105), for every sequence number and aspect: two symbols, K28.1 to K28.3 by the aspect or K28.4 for IDLE, and a data
character with SEQ in [7:4], the aspect's code in [3:2], 0 in [1], and an odd number of 1 bits. An IDLE strike that starts carries the
lane's present sequence number and the aspect in force on it. -/
def Obligations.StrikeFrameLayout : Prop :=
  (∀ (idle : Bool) (seq : Fin 16) (a : Aspect), a ≠ .dark →
    let y := match idle, a with
      | true, _ => 4
      | false, .insert => 1
      | false, .bypass => 2
      | false, _ => 3
    let code := match a with
      | .insert => 1
      | .bypass => 2
      | _ => 3
    ∃ b : Byte, strikeSyms idle seq a = [⟨true, BitVec.ofNat 8 (32 * y + 28)⟩, ⟨false, b⟩] ∧
      b.toNat / 16 = seq ∧ b.toNat / 4 % 4 = code ∧ b.getLsbD 1 = false ∧ countTrue (byteBits b) % 2 = 1) ∧
  ∀ (s : State) (l : Fin 512), s.served = true → confFramed s.conf l = true → (s.stream l).content.aspect ≠ .dark →
    (s.stream l).lineBusy (s.boundary l) = false → (s.stream l).urgent = false → (s.stream l).repeatPend = false →
    (s.stream l).idlePend = true →
    ∃ t f, exec (.frameTransmitStart l) s = .next t ∧ (t.stream l).now = some f ∧ f.kind = .idle ∧
      f.syms = strikeSyms true (s.stream l).seq (s.stream l).content.aspect ∧ (t.stream l).seq = (s.stream l).seq


/-- Re-admission and the proving commands (R158, R159, R163, R164): PRV_READMIT of a retired lamp that no available entry names, whose
last trickle test passed, on a STEADY string, starts it and waits; with the rail at its target the lamp is back in service under a new
epoch, and the command is answered with that epoch; after 10 ms without it the lamp stays retired and the command is answered STATE.
PRV_LAMP_STATS answers a lamp's counters and clears them on request; PRV_TRICKLE_NOW waits for its test and is answered UNPROVABLE after
one trickle interval; PRV_RETIRE takes a lamp out of service with cause HOST. -/
def Obligations.ProvingCommandsComplete : Prop :=
  (∀ (s : State),
     (∀ p, s.accepts Op.prvReadmit p → (s.prv (field (p.word 0) 0 9)).retired.isSome = true →
       s.weir.smt.any (fun e => e.2.valid && e.2.avail && e.2.pin == 0 &&
         (e.2.lamp == field (p.word 0) 0 9 || (e.2.spv && e.2.spare == field (p.word 0) 0 9))) = false →
       (s.str (strOf (field (p.word 0) 0 9))).state = .steady → (s.prv (field (p.word 0) 0 9)).readmit = none →
       (s.prv (field (p.word 0) 0 9)).lastTrk = some .pass →
       ∃ t : State, exec (.prvReadmit p) s = .next t ∧
         t.prv (field (p.word 0) 0 9) = { s.prv (field (p.word 0) 0 9) with readmit := some (s.mono, some p) } ∧
         t = { s with lamps := t.lamps, fab := t.fab }) ∧
     (∀ (l : Fin 512) t0 p, (s.prv l).readmit = some (t0, p) → s.served = true → s.railReady (groupOf (strOf l)) = true →
       ∃ t : State, exec (.readmitComplete l) s = .next (match p with
           | some q => t.answer Op.prvReadmit q Status.ok 0 [word (((s.prv l).epoch + 1) % 65536)]
           | none => t) ∧
         (t.prv l).retired = none ∧ (t.prv l).active = false ∧ (t.prv l).readmit = none ∧ (t.prv l).epoch = ((s.prv l).epoch + 1) % 65536) ∧
     (∀ (l : Fin 512) t0 p, (s.prv l).readmit = some (t0, p) → s.served = true → s.past t0 (msTicks 10) = true →
       ∃ t : State, exec (.readmitTimeout l) s = .next (match p with
           | some q => t.answer Op.prvReadmit q Status.state 0 []
           | none => t) ∧
         t.prv l = { s.prv l with readmit := none } ∧ t = { s with lamps := t.lamps })) ∧
  (∀ (s : State),
     (∀ p, s.accepts Op.prvLampStats p →
       ∃ t : State, exec (.prvLampStats p) s =
           .next (t.answer Op.prvLampStats p Status.ok 0 ((s.prv (field (p.word 0) 0 9)).counters.words.map word)) ∧
         (wbit (p.word 0) 16 = false → t = s) ∧
         (wbit (p.word 0) 16 = true → t = s.onPrv (field (p.word 0) 0 9) (fun x => { x with counters := .reset }))) ∧
     (∀ p, s.accepts Op.prvTrickleNow p → (s.prv (field (p.word 0) 0 9)).hostReq = none →
       (s.str (strOf (field (p.word 0) 0 9))).state = .steady → confMode s.conf (field (p.word 0) 0 9) ≠ 0 →
       ∃ t : State, exec (.prvTrickleNow p) s = .next t ∧
         t.prv (field (p.word 0) 0 9) = { s.prv (field (p.word 0) 0 9) with hostReq := some (s.mono, p) } ∧
         t = { s with lamps := t.lamps, fab := t.fab }) ∧
     (∀ (l : Fin 512) t0 p, (s.prv l).hostReq = some (t0, p) → s.served = true → s.past t0 (confTrk s.conf) = true →
       exec (.trickleNowTimeout l) s =
         .next ((s.onPrv l (fun x => { x with hostReq := none })).answer Op.prvTrickleNow p Status.unprovable 0 [])) ∧
     (∀ p, s.accepts Op.prvRetire p → confMode s.conf (field (p.word 0) 0 9) ≠ 0 → (s.prv (field (p.word 0) 0 9)).retired = none →
       ∃ t : State, exec (.prvRetire p) s =
           .next (t.answer Op.prvRetire p Status.ok 0 [word (t.prv (field (p.word 0) 0 9)).epoch]) ∧
         (t.prv (field (p.word 0) 0 9)).retired = some .host))

/-- Lit proving (R127 to R136, R156): a sample that falls due on a lit lamp of a proven position gives DISTURBED during a disturbance or
within DLY after it, else LOW, HIGH or PASS by its window, each counted; LOW retires the lamp at the SHORTN-th in a row, and PASS and HIGH
end the row. A sample that a sibling's edge meets is deferred and judged nothing; an interval too short for its sample is counted UNPROVEN
in aspect mode; a result of an older epoch is counted as fenced. Strings and positions at fault (R132 to R134, R137 to R139, R152, R154).
A STEADY string that loses compliance is disturbed from then on; each of its positions with an open shunt above its MAX is retired, OPEN,
and with none COMPLIANCE is reported. The end of the disturbance is noted. A whole interval without cover is counted, shown and reported.
A position above 0.45 V whose shunt has been commanded closed for 24 TCLK cuts its string at once. The oldest retirement on the status
buses takes its effects: its report is asserted, and a spare that is ready takes its stream. -/
def Obligations.LitProvingCompletes : Prop :=
  (∀ (s : State) (l : Fin 512) (tag : Half), s.served = true → s.proven l = true →
     (∀ o, tag.toNat ≠ (s.prv l).epoch →
       exec (.litSample l ⟨tag, o⟩) s = .next (s.onPrv l (fun p => { p with
         counters := { p.counters with fenced := satAdd 32 p.counters.fenced 1 } }))) ∧
     (tag.toNat = (s.prv l).epoch →
       (∀ mv till, s.sampleKind l = .defer till → ∃ t : State, exec (.litSample l ⟨tag, .volts mv⟩) s = .next t ∧
         t = { s with lamps := t.lamps } ∧ (t.prv l).sampleAt = some till ∧ (t.prv l).deferred = some till ∧
         (t.prv l).lastLit = (s.prv l).lastLit ∧ (t.prv l).counters = (s.prv l).counters) ∧
       (∀ e, s.missedSample l = some e → confFramed s.conf (s.streamOf l) = false →
         ∃ t : State, exec (.litSample l ⟨tag, .tooShort⟩) s = .next t ∧ (t.prv l).lastLit = some .unproven ∧
           (t.prv l).counters.unproven = satAdd 32 (s.prv l).counters.unproven 1 ∧ (t.prv l).cover = (s.prv l).cover) ∧
       (∀ mv, s.sampleKind l = .judge → s.disturbedNow (strOf l) = true →
         ∃ t : State, exec (.litSample l ⟨tag, .volts mv⟩) s = .next t ∧ (t.prv l).lastLit = some .disturbed ∧
           (t.prv l).counters.disturbed = satAdd 32 (s.prv l).counters.disturbed 1 ∧ (t.prv l).cover = (s.prv l).cover) ∧
       (∀ mv, s.sampleKind l = .judge → s.disturbedNow (strOf l) = false →
         ∃ t : State, exec (.litSample l ⟨tag, .volts mv⟩) s = .next t ∧ (t.prv l).cover = s.mono ∧
           (mv < confMin s.conf l → (t.prv l).lastLit = some .low ∧ (t.prv l).counters.low = satAdd 32 (s.prv l).counters.low 1 ∧
             ((s.prv l).shortCount + 1 < s.fld Reg.prvCtl 20 4 → (t.prv l).shortCount = (s.prv l).shortCount + 1 ∧ (t.prv l).retired = none) ∧
             (s.fld Reg.prvCtl 20 4 ≤ (s.prv l).shortCount + 1 → (t.prv l).retired = some .shortLit)) ∧
           (confMin s.conf l ≤ mv → confVf s.conf l < mv → (t.prv l).lastLit = some .high ∧ (t.prv l).shortCount = 0 ∧
             (t.prv l).vfHigh = true ∧ (t.prv l).counters.high = satAdd 32 (s.prv l).counters.high 1 ∧ (t.prv l).retired = none) ∧
           (confMin s.conf l ≤ mv → mv ≤ confVf s.conf l → (t.prv l).lastLit = some .pass ∧ (t.prv l).shortCount = 0 ∧
             (t.prv l).vfHigh = false ∧ (t.prv l).counters.litPass = ((s.prv l).counters.litPass + 1) % 2 ^ 32 ∧ (t.prv l).retired = none)))) ∧
  (∀ (s : State), s.served = true →
     (∀ (n : Fin 128) (v : Fin 4 → Nat), (s.str n).state = .steady → s.sinkHeld n = false →
       ∃ t : State, exec (.complianceLoss n (v 0) (v 1) (v 2) (v 3)) s = .next t ∧
         (t.str n).disturbed = some ((s.str n).disturbed.getD s.now) ∧
         (∀ i : Fin 4, confMode s.conf (4 * n.val + i.val) ≠ 0 → s.shuntOpen (4 * n.val + i.val) s.mono = true →
           confVf s.conf (4 * n.val + i.val) < v i → (t.prv (4 * n.val + i.val)).retired = some .openLit) ∧
         ((∀ i : Fin 4, confMode s.conf (4 * n.val + i.val) = 0 ∨ s.shuntOpen (4 * n.val + i.val) s.mono = false ∨
             v i ≤ confVf s.conf (4 * n.val + i.val)) →
           ∃ r ∈ t.flt.asserted, r.code = Code.compliance ∧ r.inst = n.val)) ∧
     (∀ (n : Fin 128) t0, (s.str n).disturbed = some t0 →
       ∃ t : State, exec (.siblingDisturbanceEnd n) s = .next t ∧ (t.str n).disturbed = none ∧ (t.str n).disturbEnd = s.mono) ∧
     (∀ l : Fin 512, s.proven l = true → (s.prv l).retired = none →
       s.past (max (s.prv l).cover (s.str (strOf l)).steadySince) (confTrk s.conf) = true →
       ∃ t : State, exec (.proveStarved l) s = .next t ∧ (t.prv l).starvedLast = true ∧ (t.prv l).cover = s.mono ∧
         (t.prv l).counters.starved = satAdd 32 (s.prv l).counters.starved 1 ∧ t.bit (Reg.prvLstat l) 11 = true ∧
         ∃ r ∈ t.flt.asserted, r.code = Code.proveStarved ∧ r.inst = l.val) ∧
     (∀ (l : Fin 512) mv, s.proven l = true → s.stuckRun l = true → (s.prv l).trickle = none → s.lossHere (strOf l) = true → 450 < mv →
       ∃ t : State, exec (.stuckLitDetect l mv) s = .next t ∧ (t.str (strOf l)).state = .cut ∧ (t.str (strOf l)).cur = 0 ∧
         (t.prv l).stuck = true) ∧
     (∀ n ns, s.lamps.notes = n :: ns → (∀ sm, s.smOfLamp n.lamp = some sm → (s.smt sm).spare ≠ n.lamp) →
       ∃ t : State, exec .retirementReport s = .next t ∧ t.lamps.notes = ns ∧ (t.prv n.lamp).active = false ∧
         (t.prv n.lamp).shuntHeld = false ∧
         (∀ code, retireCode (confMode s.conf n.lamp == 2 && !(s.prv n.lamp).active) n.cause = some code →
           ∃ r ∈ t.flt.asserted, r.code = code ∧ r.inst = n.lamp) ∧
         (∀ sm, s.smOfLamp n.lamp = some sm → (s.smt sm).spv = true → s.spareReady (s.smt sm).spare = true →
           (t.prv (s.smt sm).spare).active = true)))

/-- Trickle proving (R141 to R146, R156, R160): a test starts on a dark position of a string with no other test, tagged with the lamp's
epoch. Judged after its time, it is fenced where the lamp has changed epoch, ABORTED where a lit edge fell due, DISTURBED where a
disturbance touched it, GUARDED where the guard acted (of the two, DISTURBED first: the model's choice, log entry 95), and else gives its
verdict: at the clamp OPEN, below TMIN SHORT, each retiring a lamp in service, and in between PASS. An abort leaves no verdict. -/
def Obligations.TrickleProvingCompletes : Prop :=
  ∀ (s : State) (l : Fin 512), s.served = true →
    (s.proven l = true → (s.prv l).stuck = false →
      (lampsOf (strOf l)).all (fun k => (s.prv k).trickle.isNone) = true → s.darkEnough l = true →
      ∃ t : State, exec (.trickleStart l) s = .next t ∧ t = { s with lamps := t.lamps } ∧ (t.prv l).trkLast = s.mono ∧
        (t.prv l).trickle = some ⟨s.mono, (s.prv l).epoch, false, (s.str (strOf l)).disturbed.isSome, (s.prv l).hostReq.map Prod.snd⟩) ∧
    (∀ x mv guard, (s.prv l).trickle = some x → s.past x.start 1200 = true → s.proven l = true →
      ∃ t : State, exec (.trickleJudge l mv guard) s = .next t ∧ (t.prv l).trickle = none ∧
        (x.epoch ≠ (s.prv l).epoch → (t.prv l).lastTrk = (s.prv l).lastTrk ∧
          (t.prv l).counters.fenced = satAdd 32 (s.prv l).counters.fenced 1) ∧
        (x.epoch = (s.prv l).epoch → s.litDuring l x.start s.mono = true → (t.prv l).lastTrk = (s.prv l).lastTrk ∧
          (t.prv l).counters.trkAborted = satAdd 32 (s.prv l).counters.trkAborted 1) ∧
        (x.epoch = (s.prv l).epoch → s.litDuring l x.start s.mono = false →
          (x.disturbed = true → (t.prv l).lastTrk = (s.prv l).lastTrk ∧
            (t.prv l).counters.trkDisturbed = satAdd 32 (s.prv l).counters.trkDisturbed 1) ∧
          (x.disturbed = false → guard = true → (t.prv l).lastTrk = (s.prv l).lastTrk ∧
            (t.prv l).counters.trkGuarded = satAdd 32 (s.prv l).counters.trkGuarded 1) ∧
          (x.disturbed = false → guard = false → (t.prv l).cover = s.mono ∧
            (confTmin s.conf l ≤ mv → mv + 50 < confVf s.conf l →
              (t.prv l).lastTrk = some .pass ∧ (t.prv l).retired = (s.prv l).retired) ∧
            (confVf s.conf l ≤ mv + 50 → (t.prv l).lastTrk = some .opened ∧
              ((s.prv l).retired = none → (t.prv l).retired = some .openTrickle)) ∧
            (mv + 50 < confVf s.conf l → mv < confTmin s.conf l → (t.prv l).lastTrk = some .short ∧
              ((s.prv l).retired = none → (t.prv l).retired = some .shortTrickle))))) ∧
    ((s.prv l).trickle.isSome = true →
      ∃ t : State, exec (.trickleAbort l) s = .next t ∧ (t.prv l).trickle = none ∧ (t.prv l).lastTrk = (s.prv l).lastTrk ∧
        (t.prv l).counters.trkAborted = satAdd 32 (s.prv l).counters.trkAborted 1)

/-- What a local decision chooses (R184 to R187), whatever the arm and its candidates: the same submodules, exactly as many of them
members as the reference leaves after the pins, or all of them where that is more; shortfall exactly there, or where a fraction finds
every candidate a member; the PWM submodule is no member, and no non-member has a smaller key; with a change cap no more changes than the
cap or the mandatory ones, whichever is more. -/
def Obligations.DecisionMeetsReference : Prop :=
  ∀ (nIns pins cap band frac : Nat) (cands : List Cand), (cands.map Cand.sm).Nodup →
    let p := localPlan nIns pins cap band frac cands
    (p.cands.map Cand.sm).Perm (cands.map Cand.sm) ∧
    insCount p.cands = min (nIns - pins) cands.length ∧
    (p.short = true ↔ nIns - pins > cands.length ∨ (frac ≠ 0 ∧ nIns - pins ≥ cands.length)) ∧
    (frac = 0 → p.pwm = none) ∧
    (∀ m, p.pwm = some m → ∃ c ∈ p.cands, c.sm = m ∧ c.ins = false ∧ ∀ d ∈ p.cands, d.ins = false → c.key ≤ d.key) ∧
    (cap ≠ 0 → (cands.filter (fun c => decide (c ∉ p.cands))).length ≤ max cap p.mandatory)

/-- What a commit does to one arm (R179): an arm bit that is refused or early is counted and recorded and commands nothing, at most source
34; a held arm takes its snapshot and nothing is emitted; a taken arm that this device decides alone shows
the count of insertions that its snapshot and reference give; a taken arm of a HEAD with live members starts a round. -/
def Obligations.ArmCommitsComplete : Prop :=
  ∀ (s : State) (a : Fin 8), s.served = true →
    let nIns := s.fld (Reg.weirAref0 a) 0 11
    let u := (s.recordCommit [(a.val, s.verdict a nIns false)]).snapshotArm a
    (∀ v, s.verdict a nIns false = v → v = .refused ∨ v = .early →
      ∃ t : State, exec (.weirAcommit (word (2 ^ a.val))) s = .next t ∧ t = { s with regs := t.regs, weir := t.weir, host := t.host } ∧
        t.weir.smt = s.weir.smt ∧ t.hostMem = s.hostMem ∧
        t.reg Reg.weirCstat = (if v = .early then pack [(8, 2 ^ a.val)] else pack [(16, 2 ^ a.val)]) ∧
        (v = .early → (t.arm a).counters.early = satAdd 32 (s.arm a).counters.early 1) ∧
        (v = .refused → (t.arm a).counters.refused = satAdd 32 (s.arm a).counters.refused 1)) ∧
    (s.verdict a nIns false = .held →
      ∃ t : State, exec (.weirAcommit (word (2 ^ a.val))) s = .next t ∧ t.lamps = s.lamps ∧
        (t.arm a).counters.held = satAdd 32 (s.arm a).counters.held 1 ∧
        (t.arm a).counters.emitted = (s.arm a).counters.emitted) ∧
    (s.verdict a nIns false = .taken → s.byRound a = false →
      ∃ t : State, exec (.weirAcommit (word (2 ^ a.val))) s = .next t ∧
        t.fld (Reg.weirAstat a) 0 11 = (insCount (localPlan nIns (u.pinnedIns a) (u.fld (Reg.weirAcfg a) 16 10)
          (u.fld (Reg.weirAband a) 0 16) (s.fld (Reg.weirAref1 a) 0 16) (u.cands a (s.bit (Reg.weirAref0 a) 15))).cands +
          u.pinnedIns a) % 2048) ∧
    (s.verdict a nIns false = .taken → s.byRound a = true →
      ∃ t : State, exec (.weirAcommit (word (2 ^ a.val))) s = .next t ∧ s.roundRuns a = false ∧ t.roundRuns a = true)

/-- The table commands and arm registers of the Weir (R168, R173 to R175, R189, R200): WEIR_ACFG takes its fields; WEIR_SNAPSEL copies an
entry to WEIR_SNAP; an entry write over WEIR_WRSEL or WEIR_SMT_WRITE writes the image, or is refused with the status and detail of the
first check it fails and changes no entry; WEIR_SMT_LOAD writes the entries up to the first refusal, and is BUSY while another runs;
WEIR_SMT_READ stores the images at PTR and clears the counts on request; WEIR_PIN pins each of its entries, or none where one is refused;
WEIR_ARM_STATS answers an arm's counts and clears them on request; a pending rank move ends in the rank list, and of another entry it
changes at most DEC.GEN. -/
def Obligations.TableCommandsComplete : Prop :=
  ∀ (s : State),
    (∀ (a : Fin 8) (v : Word), s.served = true → field v 0 2 ≠ 3 → field v 8 8 ≠ 0 →
      ∃ t : State, exec (.weirAcfgWrite a v) s = .next t ∧ t.auth a = field v 0 2 ∧ t.fld (Reg.weirAcfg a) 8 8 = field v 8 8 ∧
        t = { s with regs := t.regs } ∧ ∀ off, off ≠ Reg.weirAcfg a → t.reg off = s.reg off) ∧
    (∀ v, s.served = true →
      ∃ t : State, exec (.weirSnapselWrite v) s = .next t ∧ t = { s with regs := t.regs } ∧
        ∀ k, k < 16 → t.reg (Reg.weirSnap k) = (s.smtWords (field v 0 12)).getD k 0) ∧
    (∀ v, s.served = true → wbit v 31 = true →
      let ws := (List.range 4).map (fun k => s.reg (Reg.weirWrbuf k))
      (s.entryRefused (field v 0 12) ws = none →
        ∃ t : State, exec (.weirWrselGo v) s = .next t ∧ t.reg Reg.weirWrstat = pack [(16, field v 0 12)] ∧
          t.weir = ((s.writeReg Reg.weirWrsel v).writeEntry (field v 0 12) ws).weir) ∧
      (∀ st d, s.entryRefused (field v 0 12) ws = some (st, d) →
        ∃ t : State, exec (.weirWrselGo v) s = .next t ∧ t.reg Reg.weirWrstat = pack [(0, st), (8, d), (16, field v 0 12)] ∧
          t = { s with regs := t.regs })) ∧
    (∀ p, s.accepts Op.weirSmtWrite p →
      (s.entryRefused (field (p.word 0) 0 12) [p.word 1, p.word 2, p.word 3, p.word 4] = none →
        exec (.weirSmtWrite p) s = .next ((s.writeEntry (field (p.word 0) 0 12) [p.word 1, p.word 2, p.word 3, p.word 4]).answer
          Op.weirSmtWrite p Status.ok 0 [0])) ∧
      (∀ st d, s.entryRefused (field (p.word 0) 0 12) [p.word 1, p.word 2, p.word 3, p.word 4] = some (st, d) →
        exec (.weirSmtWrite p) s = .next (s.answer Op.weirSmtWrite p st d [word d]))) ∧
    (∀ p, s.accepts Op.weirSmtLoad p → smRangeOk (p.word 0) = true → s.opRuns Op.weirSmtLoad (fun _ => true) = true →
      exec (.weirSmtLoad p) s = .next (s.answer Op.weirSmtLoad p Status.busy 0 [])) ∧
    (∀ p, s.accepts Op.weirSmtLoad p → smRangeOk (p.word 0) = true → s.opRuns Op.weirSmtLoad (fun _ => true) = false →
      let r := State.loadEntries p.ptr.toNat (field (p.word 0) 16 13) (field (p.word 0) 0 12) 0 s
      (r.2.1 = none → r.1 = field (p.word 0) 16 13 ∧ ∃ x, exec (.weirSmtLoad p) s =
        .next ({ r.2.2 with free := r.2.2.free + 1 }.answer Op.weirSmtLoad p Status.ok 0 [word r.1, 0, x])) ∧
      (∀ st d sm, r.2.1 = some (st, d, sm) → sm = field (p.word 0) 0 12 + r.1 ∧
        exec (.weirSmtLoad p) s = .next (r.2.2.answer Op.weirSmtLoad p st d [word r.1, word d, word sm]))) ∧
    (∀ p, s.accepts Op.weirSmtRead p → smRangeOk (p.word 0) = true →
      ∃ t : State, exec (.weirSmtRead p) s = .next (t.answer Op.weirSmtRead p Status.ok 0 []) ∧
        t.dmaRead p.ptr.toNat (64 * field (p.word 0) 16 13) =
          ((List.range (field (p.word 0) 16 13)).map (fun k => field (p.word 0) 0 12 + k)).flatMap (fun sm => bytesOf (s.smtWords sm)) ∧
        (wbit (p.word 0) 31 = false → t.weir = s.weir) ∧
        t = { s with hostMem := t.hostMem, weir := t.weir }) ∧
    (∀ p n, s.accepts Op.weirPin p → (p.word 0).toNat = n → 1 ≤ n → n ≤ 11 → (∀ i, n < i → i < 12 → p.word i = 0) →
      ((∀ i, i < n → s.pinRefused (p.word (i + 1)) = none) →
        exec (.weirPin p) s = .next ((((List.range n).map (fun i => p.word (i + 1))).foldl (fun t w =>
          (t.writeEntry (field w 0 12) (t.pinImage (field w 0 12) (field w 12 2))).oneGen s (field w 0 12)) s).answer
            Op.weirPin p Status.ok 0 [0xFF])) ∧
      (∀ i f, i < n → (∀ j, j < i → s.pinRefused (p.word (j + 1)) = none) → s.pinRefused (p.word (i + 1)) = some f →
        exec (.weirPin p) s = .next (s.answer Op.weirPin p f.1 f.2 [word i]))) ∧
    (∀ p, s.accepts Op.weirArmStats p →
      let a := field (p.word 0) 0 3
      let c := (s.arm a).counters
      ∃ t : State, exec (.weirArmStats p) s = .next (t.answer Op.weirArmStats p Status.ok 0
          ([c.taken, c.early, c.refused, c.held, c.emitted, c.discarded, c.capx, c.shortfalls].map word)) ∧
        (wbit (p.word 0) 16 = false → t = s) ∧
        (wbit (p.word 0) 16 = true → t = s.onArm a (fun x => { x with counters := .reset }))) ∧
    (∀ sm : Fin 4096, (s.smt sm).valid = true → (s.smt sm).moving.isSome = true → (s.smt sm).avail = false →
      ∃ t : State, exec (.smtRankMove sm) s = .next t ∧ (t.smt sm).moving = none ∧ (t.smt sm).ranked = some (s.smt sm).vcap ∧
        t = { s with weir := t.weir } ∧ ∀ j, j ≠ sm.val → t.smt j = { s.smt j with gen := (t.smt j).gen })

/-- The image of an entry write stands in the entry (R169, R173): after a write every field of CFG0 to CFG2 reads as the image gives it,
SMID not among them, and every other entry keeps its own. -/
def Obligations.EntryTakesImage : Prop :=
  ∀ (s : State) (sm : Nat) (ws : List Word),
    let e := (s.writeEntry sm ws).smt sm
    let n := (s.smt sm).withCfg ws
    e.arm = n.arm ∧ e.valid = n.valid ∧ e.owner = n.owner ∧ e.pin = n.pin ∧ e.lamp = n.lamp ∧ e.spare = n.spare ∧ e.spv = n.spv ∧
    e.rxl = n.rxl ∧ e.tag = n.tag ∧
    ∀ j, j ≠ sm → ((s.writeEntry sm ws).smt j).arm = (s.smt j).arm ∧ ((s.writeEntry sm ws).smt j).valid = (s.smt j).valid ∧
      ((s.writeEntry sm ws).smt j).owner = (s.smt j).owner ∧ ((s.writeEntry sm ws).smt j).pin = (s.smt j).pin ∧
      ((s.writeEntry sm ws).smt j).lamp = (s.smt j).lamp ∧ ((s.writeEntry sm ws).smt j).rxl = (s.smt j).rxl

/-- Arm units (R194 to R196): the fault of a unit in service gives its arm to the spare, under an epoch one higher, and the spare builds the
rank list; a rebuilt substitute is ready; a write under another epoch than the arm's is discarded and counted. -/
def Obligations.ArmUnitsComplete : Prop :=
  ∀ (s : State) (u : Fin 9),
    (∀ n, s.serving = true → s.unitStandsIn u = none → (s.unit u).role = .inService → s.bist.slice = none → s.spareUnit = some n →
      n ≠ u.val → (s.unit u).arm < 8 →
      ∃ t : State, exec (.auFault u) s = .next t ∧ (t.unit n).role = .inService ∧ (t.unit n).arm = (s.unit u).arm ∧
        (t.unit n).rebuild = some s.mono ∧ (t.unit u).role = .riffle ∧ (t.arm (s.unit u).arm).unit = n ∧
        (t.arm (s.unit u).arm).epoch = ((s.arm (s.unit u).arm).epoch + 1) % 65536 ∧
        ∃ r ∈ t.flt.asserted, r.code = Code.auFault ∧ r.inst = (s.unit u).arm) ∧
    ((s.unit u).role = .inService → (s.unit u).rebuild.isSome = true →
      ∃ t : State, exec (.auRebuildDone u) s = .next t ∧ (t.unit u).rebuild = none ∧ t.bit Reg.hostIpend1 2 = true ∧
        t = { s with weir := t.weir, regs := t.regs, host := t.host }) ∧
    ((s.unit u).epoch ≠ (s.arm (s.unit u).arm).epoch →
      ∃ t : State, exec (.auRevenant u) s = .next t ∧ (t.unit u).revenant = satAdd 8 (s.unit u).revenant 1 ∧
        t = { s with weir := t.weir, flt := t.flt })

/-- Entries at reset and new entries (R171): at reset an entry reads 0 except SMID, RANK = 0x3FF and AGE = 255; and an entry that a command
writing the table makes valid has VCAP 0, AGE 255, FRESH 0 and U_STALE set, whatever it held. -/
def Obligations.NewEntriesStart : Prop :=
  (∀ sm, sm < 4096 → State.reset.smtWords sm = [word sm, 0, 0, 0, 0, 0xFF00, 0, 0, 0x3FF0, 0, 0, 0, 0, 0, 0, 0]) ∧
  ∀ (c : Instr) (s t : State), (∃ p, c = .weirSmtWrite p ∨ c = .weirSmtLoad p ∨ c = .weirPin p) ∨ (∃ v, c = .weirWrselGo v) →
    exec c s = .next t → ∀ sm, (s.smt sm).valid = false → (t.smt sm).valid = true →
      (t.smt sm).vcap = 0 ∧ (t.smt sm).age = 255 ∧ (t.smt sm).fresh = 0 ∧ (t.smt sm).uStale = true


/-- The parts of a spanned arm add up to its reference (R220 to R226): with every device's candidates in the HEAD's merge, the members
that the devices choose for themselves, each from the one THR and the counts of the positions below it, are in sum as many as the
reference leaves after the pins, or every candidate where there are fewer. -/
def Obligations.SpannedPartsMeetReference : Prop :=
  ∀ (nIns pins base shift free : Nat) (devs : List (List Cand)) (hN hS eN eS : List Nat) (cap band : Nat → Nat),
    (∀ l ∈ devs, (l.map Cand.sm).Nodup) →
    let nm := devs.foldr (fun l x => addBuckets (bucketCounts base shift false l) x) (List.replicate 64 0)
    let sc := devs.foldr (fun l x => addBuckets (bucketCounts base shift true l) x) (List.replicate 64 0)
    let t := mergeOf nIns pins 0 0 base shift nm sc hN hS eN eS free
    let below := fun i => ((devs.take i).map (fun l => (bucketCounts base shift (t.mode == 2) l).getD t.jb 0)).sum
    ((List.range devs.length).map (fun i => insCount (spannedPlan t base shift (below i) (cap i) (band i) (devs.getD i [])).cands)).sum =
      min (nIns - pins) (devs.map List.length).sum

/-- What a frame carries comes out as it went in (R209, R211): the header fields, HCRC and CRC-32 of a sealed frame, a stomped frame's
inverted CRC-32, one REF block, the 26 blocks of a HIST and the three of a THR, with every field at every value its bits admit. -/
def Obligations.FrameContentsRoundTrip : Prop :=
  (∀ (type src kind epoch topseq len : Nat) (leg br : Bool) (data : List (BitVec 64)),
    type < 256 → src < 8 → kind < 8 → epoch < 65536 → topseq < 256 → len < 256 →
    let f := sealFrame (hdrOf type src kind leg br epoch topseq len) data false
    let g := sealFrame (hdrOf type src kind leg br epoch topseq len) data true
    fType f = type ∧ fSrc f = src ∧ fKind f = kind ∧ fLeg f = leg ∧ fBr f = br ∧ fEpoch f = epoch ∧ fTopseq f = topseq ∧ fLen f = len ∧
    f.data = data ∧ hcrcOk f = true ∧ f.crc = crcOf f ∧ hcrcOk g = true ∧ g.crc = ~~~(crcOf g)) ∧
  (∀ r : ArmRef, r.arm < 8 → r.nIns < 2 ^ 11 → r.cycle < 2 ^ 8 → r.frac < 2 ^ 16 → r.base < 2 ^ 16 → r.shift < 2 ^ 4 → r.pwmPos < 2 ^ 3 →
    refOf (refBlock r).toNat = r) ∧
  (∀ (hdr : List Byte) (crc : BitVec 32) (i j a : Nat) (h : HistData), a < 8 → h.contrib < 2 ^ 8 → h.husked < 2 ^ 8 →
    h.tot.length = 8 → h.nm.length = 64 → h.s.length = 64 → (∀ x ∈ h.tot, x.1 < 2 ^ 11 ∧ x.2 < 2 ^ 11) →
    (∀ x ∈ h.nm, x < 2 ^ 11) → (∀ x ∈ h.s, x < 2 ^ 11) →
    histOf ⟨hdr, histBlocks a h, crc, i, j⟩ = h ∧ fBlock ⟨hdr, histBlocks a h, crc, i, j⟩ 0 % 8 = a) ∧
  (∀ (hdr : List Byte) (crc : BitVec 32) (i j a : Nat) (t : Thr), a < 8 → t.mode < 4 → t.stale < 2 ^ 8 → t.jb < 2 ^ 6 →
    t.jt < 2 ^ 6 → t.rr < 2 ^ 11 → t.n < 2 ^ 11 → t.thLo < 2 ^ 16 → t.thHi < 2 ^ 16 → t.offE < 2 ^ 11 → t.offW < 2 ^ 11 → t.tot < 2 ^ 11 →
    thrOf ⟨hdr, thrBlocks a t, crc, i, j⟩ = t ∧ fBlock ⟨hdr, thrBlocks a t, crc, i, j⟩ 0 % 8 = a)

/-- The chain commands (R204, R208, R216, R230, R236): the role and position set, at once or after the HEAD's rounds (R477); members whose
join requests are held admitted, at once or within the 1 ms that TRIB_FORM and TRIB_ADMIT wait; a member expelled; the ring closed; the
counters of a port read and cleared. -/
def Obligations.ChainCommandsComplete : Prop :=
  ∀ (s : State),
    (∀ p, s.accepts Op.tribSetRole p → s.chain.roleWait = none → s.chain.role = .head → s.chain.rounds ≠ [] → field (p.word 0) 0 2 = 0 →
      exec (.tribSetRole p) s = .next ((s.onChain (fun c => { c with roleWait := some p })).begin p)) ∧
    (∀ p, s.accepts Op.tribSetRole p → s.chain.roleWait = none → (s.chain.role = .head → s.chain.rounds = []) →
      let pos := if wbit (p.word 0) 11 then s.fld Reg.pwrReset 0 3 else field (p.word 0) 8 3
      (field (p.word 0) 0 2 = 0 →
        ∃ t : State, exec (.tribSetRole p) s = .next ((t.answer Op.tribSetRole p Status.ok 0 [word t.chain.epoch]).begin p) ∧
          t.chain.role = .solo ∧ t.chain.pos = pos ∧ t.chain.epoch = s.chain.epoch) ∧
      (field (p.word 0) 0 2 = 1 → pos = 0 → 2 ≤ field (p.word 0) 16 4 → field (p.word 0) 16 4 ≤ 8 →
        ∃ t : State, exec (.tribSetRole p) s = .next ((t.answer Op.tribSetRole p Status.ok 0 [word t.chain.epoch]).begin p) ∧
          t.chain.role = .head ∧ t.chain.pos = 0 ∧ t.chain.ndev = field (p.word 0) 16 4 ∧ t.chain.live = 1 ∧
          t.chain.epoch = (s.chain.epoch + 1) % 65536 ∧ t.chain.noticeDue = true) ∧
      (field (p.word 0) 0 2 = 2 → pos ≠ 0 →
        ∃ t : State, exec (.tribSetRole p) s = .next ((t.answer Op.tribSetRole p Status.ok 0 [word t.chain.epoch]).begin p) ∧
          t.chain.role = .member ∧ t.chain.pos = pos ∧ t.chain.mstate = .alone ∧ t.chain.epoch = s.chain.epoch)) ∧
    (∀ p, s.accepts Op.tribForm p → s.chain.role = .head → s.chain.form = none →
      (∀ q, q < 8 → (field (p.word 0) 0 8).testBit q = true → q < s.chain.ndev) →
      ∃ t : State, exec (.tribForm p) s = .next (t.begin p) ∧
        (∃ a, t.chain.form = some a ∧ a.packet = p ∧ a.start = s.mono ∧ a.want = field (p.word 0) 0 8) ∧
        ∀ q, q < 8 → t.chain.live.testBit q =
          (s.chain.live.testBit q || ((field (p.word 0) 0 8).testBit q && (s.member q).req))) ∧
    (∀ a, s.chain.form = some a → s.past a.start (msTicks 1) = true →
      exec .tribFormDone s =
        .next ((s.onChain (fun c => { c with form := none })).answer Op.tribForm a.packet Status.ok 0 [word a.got])) ∧
    (∀ p, s.accepts Op.tribAdmit p → s.chain.role = .head → 0 < field (p.word 0) 0 3 → field (p.word 0) 0 3 < s.chain.ndev →
      s.chain.live.testBit (field (p.word 0) 0 3) = false →
      ((s.member (field (p.word 0) 0 3)).req = true →
        ∃ t : State, exec (.tribAdmit p) s = .next (t.answer Op.tribAdmit p Status.ok 0 [word t.chain.epoch]) ∧
          t.chain.epoch = (s.chain.epoch + 1) % 65536 ∧ t.chain.live.testBit (field (p.word 0) 0 3) = true ∧
          (t.member (field (p.word 0) 0 3)).dead = false ∧ (t.member (field (p.word 0) 0 3)).req = false) ∧
      ((s.member (field (p.word 0) 0 3)).req = false → s.chain.admitting = none →
        exec (.tribAdmit p) s =
          .next ((s.onChain (fun c => { c with admitting := some ⟨p, s.mono, 2 ^ field (p.word 0) 0 3, 0⟩ })).begin p))) ∧
    (∀ a, s.chain.admitting = some a → s.past a.start (msTicks 1) = true →
      exec .tribAdmitTimeout s =
        .next ((s.onChain (fun c => { c with admitting := none })).answer Op.tribAdmit a.packet Status.state 0 [])) ∧
    (∀ p, s.accepts Op.tribExpel p → s.chain.role = .head → 0 < field (p.word 0) 0 3 → field (p.word 0) 0 3 < s.chain.ndev →
      s.chain.live.testBit (field (p.word 0) 0 3) = true →
      ∃ t : State, exec (.tribExpel p) s = .next (t.answer Op.tribExpel p Status.ok 0 [word t.chain.epoch]) ∧
        t.chain.epoch = (s.chain.epoch + 1) % 65536 ∧ t.chain.live.testBit (field (p.word 0) 0 3) = false ∧
        (t.member (field (p.word 0) 0 3)).dead = true) ∧
    (∀ p, s.accepts Op.tribRing p → s.chain.role = .head → s.chain.linear = true → s.breakPortUp s.chain.brk 0 = true →
      s.breakPortUp ((s.chain.brk + 1) % s.chain.ndev) 1 = true →
      ∃ t : State, exec (.tribRing p) s = .next (t.answer Op.tribRing p Status.ok 0 [word t.chain.topseq]) ∧
        t.chain.linear = false ∧ t.chain.topseq = (s.chain.topseq + 1) % 256 ∧ t.chain.noticeDue = true ∧
        t.flt.causes.any (fun c => c.1 == Code.chainLinear) = false) ∧
    (∀ p, s.accepts Op.tribStats p →
      let x := s.port (field (p.word 0) 0 1)
      ∃ t : State, exec (.tribStats p) s = .next (t.answer Op.tribStats p Status.ok 0
          ([x.forwarded, x.originated, x.hcrc, x.crcErr, x.stomp, x.oldEpoch, x.badType, x.lockLoss].map word)) ∧
        (wbit (p.word 0) 16 = false → t = s) ∧ t = { s with chain := t.chain } ∧
        (wbit (p.word 0) 16 = true → t.port (field (p.word 0) 0 1) = { x with
          forwarded := 0, originated := 0, hcrc := 0, crcErr := 0, stomp := 0, oldEpoch := 0, badType := 0, lockLoss := 0 }))

/-- The ports and the timers of the chain (R205 to R207, R210, R217 to R219, R223, R228 to R231): a port lost and regained; the frames
that the HEAD and the members send, and when; loss of contact; the end of a control cycle; and the end of a round's wait, which merges the
round, or keeps it for a lower arm of its commit that is awaited still. -/
def Obligations.ChainTimersComplete : Prop :=
  ∀ (s : State),
    (∀ (p : Fin 2) los, (s.port p).up = true →
      ∃ t : State, exec (.tribPortDown p los) s = .next t ∧ (t.port p).up = false ∧ (t.port p).los = los ∧
        (t.port p).lockLoss = satAdd 32 (s.port p).lockLoss 1 ∧ ∃ r ∈ t.flt.asserted, r.code = Code.tribLink ∧ r.inst = p.val) ∧
    (∀ (p : Fin 2) los, (s.port p).up = false →
      exec (.tribPortDown p los) s = .next (s.onPort p (fun x => { x with los := los }))) ∧
    (∀ p : Fin 2, (s.port p).up = false →
      ∃ t : State, exec (.tribPortUp p) s = .next t ∧ (t.port p).up = true ∧ (t.port p).upSince = s.mono ∧
        t.bit Reg.genClkstat 2 = true ∧ (Code.tribLink, p.val) ∉ t.flt.causes) ∧
    (s.clk.running = true → s.clk.lost = false →
      ∃ t : State, exec .tribPllLoss s = .next t ∧ t.bit Reg.genClkstat 2 = false ∧ (t.port 0).up = false ∧ (t.port 1).up = false ∧
        t.clk = s.clk) ∧
    (s.clk.lost = true → exec .tribPllLoss s = .next (s.onClk (fun c => { c with tribOut := true }))) ∧
    (∀ sub : Fin 16, s.headSends = true → s.past s.chain.syncAt (usTicks (s.fld Reg.tribCfg 8 6)) = true → s.chain.linear = false →
      s.portUsed 0 = true →
      ∃ t : State, exec (.timeSyncSend sub) s = .next t ∧ t.chain.syncAt = s.mono ∧ t = { s with chain := t.chain } ∧
        t.chain.frames = (0, sealFrame (hdrOf 4 s.chain.pos 0 false false s.chain.epoch s.chain.topseq 2)
          [BitVec.ofNat 64 (16 * s.now + sub), 0] false) :: s.chain.frames) ∧
    (s.headSends = true → (s.chain.noticeDue = true ∨ s.past s.chain.noticeAt (msTicks 1) = true) →
      ∃ t : State, exec .epnNoticeSend s = .next t ∧ t.chain.noticeDue = false ∧ t.chain.noticeAt = s.mono ∧
        t.chain.frames.length = s.chain.frames.length + (s.headPorts.filter s.portUsed).length ∧ t = { s with chain := t.chain }) ∧
    (∀ (p : Fin 2) (sub : Fin 16), s.chain.role = .member → s.portsActive = true → (s.port p).up = true →
      s.past (s.port p).reqAt (msTicks 1) = true →
      ∃ t : State, exec (.pdreqSend p sub) s = .next t ∧ (t.port p).reqAt = s.mono ∧ t = { s with chain := t.chain } ∧
        t.chain.frames = (p.val, sealFrame (hdrOf 4 s.chain.pos 1 false false s.chain.epoch s.chain.topseq 1)
          [BitVec.ofNat 64 (16 * s.now + sub)] false) :: s.chain.frames) ∧
    (∀ event, s.chain.role = .member → s.chain.mstate = .joined →
      (event = true → s.fsumWatch ≠ s.chain.fsumKey) → (event = false → s.past s.chain.fsumAt (usTicks s.chain.cyc) = true) →
      ∃ t : State, exec (.fsumSend event) s = .next t ∧ t.chain.fsumKey = s.fsumWatch ∧ t = { s with chain := t.chain } ∧
        (event = false → t.chain.fsumAt = s.mono) ∧
        (s.portUsed s.homePort = true → ∃ f, t.chain.frames = (s.homePort, f) :: s.chain.frames ∧ f.data = s.fsumBlocks ∧
          fType f = 5 ∧ fKind f = flag event)) ∧
    (s.chain.role = .member → s.saved = false →
      (s.chain.mstate = .listen ∨ s.chain.mstate = .lost ∨ s.chain.mstate = .excluded) →
      s.past s.chain.joinAt (usTicks 100) = true →
      ∃ t : State, exec .joinReqSend s = .next t ∧ t.chain.joinAt = s.mono ∧ t = { s with chain := t.chain } ∧
        (s.portUsed s.homePort = true → ∃ f, t.chain.frames = (s.homePort, f) :: s.chain.frames ∧
          f.data = [BitVec.ofNat 64 (s.chain.epoch + 2 ^ 16 * s.chain.mstate.code)])) ∧
    (s.chain.mstate = .joined → s.past s.chain.syncAt (usTicks 100) = true →
      ∃ t : State, exec .timeSyncTimeout s = .next t ∧ t.chain.mstate = .lost ∧ t.bit Reg.genTsync 2 = true ∧ t.bit Reg.genTsync 0 = false ∧
        t.clk.slew = 0 ∧ t.chain.parts = []) ∧
    (s.chain.mstate = .joined → s.past s.chain.contactAt (usTicks (3 * s.chain.cyc)) = true →
      ∃ t : State, exec .memberContactTimeout s = .next t ∧ t.chain.mstate = .lost ∧ t.clk.slew = 0 ∧ t.regs = s.regs ∧
        ∃ r ∈ t.flt.asserted, r.code = Code.chainLost) ∧
    (s.chain.role = .head → s.past s.chain.cycleAt (usTicks (s.fld Reg.tribCfg 16 12)) = true →
      ∃ t : State, exec .controlCycleEnd s = .next t ∧ t.chain.cycleAt = s.mono ∧ ∀ q, q < 8 → (t.member q).heard = false) ∧
    (∀ (a : Fin 8) hr, Tab.get (fun _ => none) s.chain.rounds a = some hr →
      100 * hr.sent + (30 * hr.hops + 100) * 64 ≤ 100 * s.mono →
      (s.behind a hr = false → ∃ t : State, exec (.histMergeDeadline a) s = .next t ∧ t.roundRuns a = false) ∧
      ((∃ b x, b < a.val ∧ Tab.get (fun _ => none) s.chain.rounds b = some x ∧ x.sent = hr.sent ∧ x.waiting ≠ []) →
        ∃ t : State, exec (.histMergeDeadline a) s = .next t ∧
          Tab.get (fun _ => none) t.chain.rounds a = some { hr with waiting := [], lost := hr.waiting }))

/-- The frames that members take (R180, R207, R208, R212, R217 to R219, R222, R225, R229) and those that the HEAD takes (R207, R215,
R223, R230), each good by the checks of R212: what each changes; a frame that needs nothing of the device, and a HIST, go onward. -/
def Obligations.ChainFramesTaken : Prop :=
  (∀ (s : State) (p : Fin 2) (f : TribFrame), (s.judgeFrame p f).1 = .good →
     let u := ((s.countStray p f).noteRef f).contact f
     (s.chain.role = .member → s.turnsBack f = false → s.portUsed (1 - p.val) = true → ¬ (fType f = 4 ∧ fKind f ≠ 0) →
       ∃ t : State, exec (.tribFrameForward p f) s = .next t ∧ t = { s with chain := t.chain } ∧
         t.chain.frames = (1 - p.val, sealFrame (hdrOf (fType f) (fSrc f) (fKind f) (fLeg f) (fBr f) (fEpoch f) (fTopseq f) (fLen f))
           f.data false) :: s.chain.frames) ∧
     (∀ r, s.chain.mstate = .joined → fType f = 1 → fLeg f = false → fLen f = 1 → refOf (fBlock f 0) = r → s.spans r.arm = true →
       u.verdict r.arm r.nIns true = .taken →
       ∃ t x, exec (.refFrame p f) s = .next t ∧ Tab.get (fun _ => none) t.chain.parts r.arm = some x ∧ x.ref = r ∧
         x.husked = false ∧ x.contributed = false ∧ x.serial = u.chain.refs) ∧
     (∀ r, s.chain.mstate = .joined → fType f = 2 → r.contributed = false → (fLeg f = false → r.serial = s.chain.refs) →
       (if s.chain.linear && decide (s.chain.pos > s.chain.brk) then fLeg f || s.turnsBack f else !fLeg f) = true →
       Tab.get (fun _ => none) s.chain.parts (fBlock f 0 % 8) = some r →
       ∃ t x, exec (.histFrame p f) s = .next t ∧ Tab.get (fun _ => none) t.chain.parts (fBlock f 0 % 8) = some x ∧
         x = { r with contributed := true, preNm := (histOf f).nm, preS := (histOf f).s } ∧ t = { s with chain := t.chain } ∧
         (s.chain.role = .member → s.turnsBack f = false → s.portUsed (1 - p.val) = true →
           ∃ g, t.chain.frames = (1 - p.val, g) :: s.chain.frames ∧ g.data = histBlocks (fBlock f 0 % 8) ((histOf f).add s.chain.pos r))) ∧
     (∀ r, s.chain.mstate = .joined → fType f = 3 → r.ref.arm = fBlock f 0 % 8 → r.contributed = true → r.husked = false →
       (thrOf f).stale.testBit s.chain.pos = false → Tab.get (fun _ => none) s.chain.parts (fBlock f 0 % 8) = some r →
       ∃ t : State, exec (.thrFrame p f) s = .next t ∧ Tab.get (fun _ => none) t.chain.parts (fBlock f 0 % 8) = none ∧
         t.fld (Reg.weirAstat r.ref.arm) 0 11 = (insCount (spannedPlan (thrOf f) r.ref.base r.ref.shift
           ((if s.chain.linear && decide (s.chain.pos > s.chain.brk) then (thrOf f).offW else (thrOf f).offE) +
             (if (thrOf f).mode = 2 then r.preS else r.preNm).getD (thrOf f).jb 0)
           r.cap r.band r.cands).cands + r.pins) % 2048) ∧
     (∀ (sub : Fin 16) res, s.chain.role = .member → fType f = 4 → fKind f = 0 → fLeg f = false →
       let o := signed 64 (unsigned 64 ((16 * s.now + sub : Nat) - ((fBlock f 0 : Int) + (bitsAt (fBlock f 1) 0 32 : Nat) + (s.port p).delay)))
       (s.chain.joining = true →
         ∃ t : State, exec (.timeSyncFrame p f sub res) s = .next t ∧ t.chain.mstate = .joined ∧ t.chain.joining = false ∧
           t.clk.time = (s.now - offsetTicks o).toNat % 2 ^ 64 ∧ t.bit Reg.genTsync 1 = true) ∧
       (s.chain.joining = false → s.chain.mstate = .joined → o.natAbs ≤ 32 →
         ∃ t : State, exec (.timeSyncFrame p f sub res) s = .next t ∧ t.chain.mstate = .joined ∧ t.clk.slew = -offsetTicks o ∧
           t.clk.time = s.clk.time ∧ t.bit Reg.genTsync 0 = true) ∧
       (s.chain.joining = false → s.chain.mstate = .joined → 1024 < o.natAbs →
         ∃ t : State, exec (.timeSyncFrame p f sub res) s = .next t ∧ t.chain.mstate = .lost ∧ t.clk.slew = 0 ∧
           t.bit Reg.genTsync 0 = false ∧ t.bit Reg.genTsync 2 = true)) ∧
     (∀ (sub : Fin 16) res, fType f = 4 → fKind f = 1 → ¬ (s.chain.role = .head ∧ s.saved = true) →
       ∃ t : State, exec (.pdreqFrame p f sub res) s = .next t ∧ (t.port p).nbr = some (fSrc f) ∧
         (t.port p).wiring = !u.nbrOk p (fSrc f) ∧
         t.chain.frames = (p.val, sealFrame (hdrOf 4 s.chain.pos 2 false false s.chain.epoch s.chain.topseq 3)
           [f.data.getD 0 0, BitVec.ofNat 64 (16 * s.now + sub), BitVec.ofNat 64 (16 * s.now + sub + res)] false) :: s.chain.frames) ∧
     (∀ sub : Fin 16, fType f = 4 → fKind f = 2 →
       ∃ t : State, exec (.pdrespFrame p f sub) s = .next t ∧ (t.port p).nbr = some (fSrc f) ∧
         (t.port p).delays = (truncDiv ((((16 * s.now + sub : Nat) : Int) - fBlock f 0) - ((fBlock f 2 : Int) - fBlock f 1)) 2 ::
           (s.port p).delays).take 8) ∧
     (s.chain.role = .member → fType f = 6 → fKind f = 0 → fSrc f = 0 →
       ((fEpoch f + 65536 - s.chain.epoch) % 65536 > 32767 →
         exec (.epnNoticeFrame p f) s = .next (u.onChain (fun c => { c with oldNotices := satAdd 32 c.oldNotices 1 }))) ∧
       ((fEpoch f + 65536 - s.chain.epoch) % 65536 ≤ 32767 →
         ∃ t : State, exec (.epnNoticeFrame p f) s = .next t ∧ t.chain.epoch = fEpoch f ∧ t.chain.live = bitsAt (fBlock f 0) 0 8 ∧
           t.chain.ndev = bitsAt (fBlock f 0) 8 4 ∧ t.chain.topseq = fTopseq f ∧
           (s.chain.mstate = .listen ∨ s.chain.mstate = .lost ∨ s.chain.mstate = .excluded →
             s.chain.live.testBit s.chain.pos = false → (bitsAt (fBlock f 0) 0 8).testBit s.chain.pos = true →
             fEpoch f ≠ s.chain.epoch → t.chain.joining = true) ∧
           (s.chain.mstate = .alone → t.chain.mstate = .listen) ∧
           (s.chain.mstate = .joined → t.chain.mstate =
             if (bitsAt (fBlock f 0) 0 8).testBit s.chain.pos then .joined else .excluded)))) ∧
  (∀ (s : State) (p : Fin 2) (f : TribFrame), (s.judgeFrame p f).1 = .good → s.chain.role = .head →
     (fType f = 5 → ∃ t : State, exec (.fsumFrame p f) s = .next t ∧ (t.member (fSrc f)).miss = 0 ∧ (t.member (fSrc f)).heard = true ∧
       (t.member (fSrc f)).sev = bitsAt (fBlock f 0) 0 3 ∧ (t.member (fSrc f)).devHusk = (fBlock f 0).testBit 3 ∧
       t.chain.frames = s.chain.frames ∧ t = { s with chain := t.chain }) ∧
     (fType f = 5 → fKind f = 2 → (fBlock f 0).testBit 5 = true →
       ∃ t : State, exec (.fsumBreak p f) s = .next t ∧ t.chain.linear = true ∧ t.chain.brk = fSrc f ∧ (t.member (fSrc f)).miss = 0 ∧
         ((s.chain.linear && s.chain.brk == fSrc f) = false → t.chain.topseq = (s.chain.topseq + 1) % 256 ∧ t.chain.noticeDue = true)) ∧
     (fType f = 6 → fKind f = 1 → 0 < fSrc f → fSrc f < s.chain.ndev →
       (s.chain.live.testBit (fSrc f) = true →
         ∃ t : State, exec (.joinReqFrame p f) s = .next t ∧ t.chain.live.testBit (fSrc f) = false ∧ (t.member (fSrc f)).dead = true ∧
           t.chain.epoch = (s.chain.epoch + 1) % 65536) ∧
       (s.chain.live.testBit (fSrc f) = false → s.chain.admitting = none → s.chain.form = none →
         ∃ t : State, exec (.joinReqFrame p f) s = .next t ∧ (t.member (fSrc f)).req = true ∧ t.chain.live = s.chain.live ∧
           t.chain.epoch = s.chain.epoch) ∧
       (∀ a, s.chain.live.testBit (fSrc f) = false → s.chain.admitting = some a → a.want = 2 ^ fSrc f →
         ∃ t : State, exec (.joinReqFrame p f) s = .next (t.answer Op.tribAdmit a.packet Status.ok 0 [word t.chain.epoch]) ∧
           t.chain.admitting = none ∧ t.chain.live.testBit (fSrc f) = true ∧ t.chain.epoch = (s.chain.epoch + 1) % 65536)) ∧
     (∀ hr b, fType f = 2 → Tab.get (fun _ => none) s.chain.rounds (fBlock f 0 % 8) = some hr →
       b = (if s.chain.linear && fBr f then 1 else 0) → b ∈ hr.waiting → Tab.wf (fun _ => none) s.chain.rounds = true →
       ((∀ x ∈ hr.waiting, x = b) → s.behind (fBlock f 0 % 8) hr = false →
         ∃ t : State, exec (.histReturn p f) s = .next t ∧ t.roundRuns (fBlock f 0 % 8) = false) ∧
       ((∃ x ∈ hr.waiting, x ≠ b) →
         ∃ t hr', exec (.histReturn p f) s = .next t ∧ Tab.get (fun _ => none) t.chain.rounds (fBlock f 0 % 8) = some hr' ∧
           hr'.waiting = hr.waiting.filter (fun x => x != b))))

/-- Tasks (R241, R243 to R246, R249 to R253): a deposit into slot 0 with no waiting task of its template and key, of a template that needs
that slot, makes one task READY at the tail of its list; a deposit that meets a waiting task fills a slot of it, and makes it READY when
all the slots it needs are filled; a dispatch gives the head of the lowest non-empty list to the lowest idle engine; a completed task
frees its entry and engine, and an engine under an old epoch completes nothing; the first overrun of an engine in service kills it and a
spare takes its role under the next epoch, an overrun of a retried task restarts it. Which slots a template needs is the model's reading
(log entry 96). -/
def Obligations.TasksComplete : Prop :=
  ∀ (s : State),
    (∀ k template key data t prio budget retry, s.deposit k template key 0 data none = some t → templateNeed template = 1 →
      s.fab.store.find? (fun e => e.2.state == .waiting && e.2.template == template && e.2.key == key) = none →
      templateTable.find? (fun x => x.1 == template) = some (template, prio, budget, retry) →
      ∃ i, s.freeEntry = some i ∧ (t.entry i).state = .ready ∧ (t.entry i).template = template ∧ (t.entry i).key = key % 2 ^ 24 ∧
        (t.entry i).s0.map Slot.data = some data ∧ (t.rlist prio).entries = (s.rlist prio).entries ++ [i] ∧
        (t.producer k.code).deposits = satAdd 32 (s.producer k.code).deposits 1) ∧
    (∀ k template key slot data t i e, slot < 4 → s.deposit k template key slot data none = some t →
      s.fab.store.find? (fun e => e.2.state == .waiting && e.2.template == template && e.2.key == key) = some (i, e) → e.packet = none →
      (t.entry i).slot slot = some ⟨data, k.code, (e.slot slot).isSome, s.now⟩ ∧ (t.entry i).filled = e.filled ||| 2 ^ slot ∧
        (e.filled ||| 2 ^ slot = e.need → (t.entry i).state = .ready ∧ (t.rlist e.prio).entries = (s.rlist e.prio).entries ++ [i]) ∧
        (e.filled ||| 2 ^ slot ≠ e.need → (t.entry i).state = .waiting ∧ t.fab.lists = s.fab.lists)) ∧
    (∀ e l i rest, s.serving = true → firstIdx 18 s.engineIdle = some e → l < 8 → (∀ k, k < l → (s.rlist k).entries = []) →
      (s.rlist l).entries = i :: rest →
      ∃ t : State, exec .taskDispatch s = .next t ∧ (t.engine e).task = some i ∧ (t.engine e).since = s.mono ∧
        (t.entry i).state = .running ∧ (t.entry i).engine = e ∧ (t.rlist l).entries = rest ∧ t.hostMem = s.hostMem) ∧
    (∀ (e : Fin 18) w i, s.serving = true → s.epochStands e = true → (s.engine e).task = some i → (s.entry i).packet = none →
      (s.entry i).template ≠ 0x01 →
      ∃ t : State, exec (.taskComplete ⟨e, w⟩) s = .next t ∧ (t.engine e).task = none ∧ (t.entry i).state = .free ∧ t.host = s.host) ∧
    (∀ (e : Fin 18) w i, s.serving = true → s.epochStands e = false → (s.engine e).task = some i →
      ∃ t : State, exec (.taskComplete ⟨e, w⟩) s = .next t ∧ (t.engine e).task = some i ∧ t.fab.store = s.fab.store ∧ t.host = s.host ∧
        (t.engine e).revenant = satAdd 8 (s.engine e).revenant 1) ∧
    (∀ (e : Fin 18) w i p r, s.serving = true → s.epochStands e = true → (s.engine e).task = some i → (s.entry i).packet = some p →
      (s.entry i).orphan = false → r.2.queue ≠ 255 →
      s.host.results.find? (fun x => x.1 == (s.entry i).order) = some r →
      ∃ t : State, exec (.taskComplete ⟨e, w⟩) s = .next t ∧ (t.engine e).task = none ∧ (t.entry i).state = .free ∧
        (t.queue r.2.queue).due = (s.queue r.2.queue).due ++
          [{ r.2 with exec := min ((s.mono - (s.engine e).since) / 640) 0xFFFF }]) ∧
    (∀ (e : Fin 18) i n, (s.engine e).task = some i → s.past (s.engine e).since (128 * (s.entry i).budget) = true →
      s.clk.lost = false → (s.entry i).retried = false → (s.engine e).state = .inService → s.bist.slice = none →
      s.freeSpare (s.engine e).role = some n →
      ∃ t : State, exec (.taskOverrun e) s = .next t ∧ (t.engine e).state = .dead ∧ (t.engine e).task = none ∧
        (t.engine n).state = .inService ∧ (t.engine n).role = (s.engine e).role ∧
        t.roleEpoch (s.engine e).role = (s.roleEpoch (s.engine e).role + 1) % 65536 ∧
        (t.engine n).epoch = t.roleEpoch (s.engine e).role ∧ ∃ r ∈ t.flt.asserted, r.code = Code.engineDead ∧ r.inst = e.val) ∧
    (∀ (e : Fin 18) i, (s.engine e).task = some i → s.past (s.engine e).since (128 * (s.entry i).budget) = true →
      s.clk.lost = false → (s.entry i).retried = true →
      ∃ t : State, exec (.taskOverrun e) s = .next t ∧ (t.engine e).state = .restarting ∧ (t.engine e).task = none ∧
        ((s.engine e).state ≠ .underTest → t.roleEpoch (s.engine e).role = (s.roleEpoch (s.engine e).role + 1) % 65536) ∧
        (t.entry i).state = .free ∧ ∃ r ∈ t.flt.asserted, r.code = Code.taskAbandon ∧ r.inst = (s.entry i).template) ∧
    (∀ e : Fin 18, (s.engine e).state = .restarting →
      exec (.engineRestartDone e) s = .next (s.onEngine e (fun g => { g with state := g.was }))) ∧
    (∀ (e : Fin 18) access, (s.engine e).state = .dead → (s.engine e).halted = false →
      (access = true ∨ s.past (s.engine e).since (msTicks 1) = true) →
      ∃ t : State, exec (.deadEngineHalt e access) s = .next t ∧ (t.engine e).halted = true ∧ (t.engine e).state = .dead ∧
        t.bist.waiting = s.bist.waiting ++ [e.val] ∧
        (access = true → (t.engine e).revenant = satAdd 8 (s.engine e).revenant 1)) ∧
    (∀ e : Fin 18, (s.engine e).state = .restarting →
      ∃ t : State, exec (.deadEngineHalt e true) s = .next t ∧ (t.engine e).state = .restarting ∧
        (t.engine e).revenant = satAdd 8 (s.engine e).revenant 1)

/-- Timers, lag, errors of the SRAM and the fabric's registers and counters (R241, R244, R245, R247, R255, R256, R272). -/
def Obligations.FabricWatchesComplete : Prop :=
  ∀ (s : State),
    (∀ (n : Fin 64) (template : Fin 256) key (slot : Fin 4) data, s.serving = true →
      (∀ u, s.deposit .timer template (wrap 24 key) slot (wrap 64 data) none = some u →
        ∃ t : State, exec (.timerExpiry n template key ⟨slot, data⟩) s = .next t ∧ t.fab.store = u.fab.store ∧ t.fab.lists = u.fab.lists ∧
          Tab.get (fun _ => FwTimer.reset) t.fab.timers n = ⟨template, wrap 24 key, slot, wrap 64 data, false⟩) ∧
      (s.deposit .timer template (wrap 24 key) slot (wrap 64 data) none = none →
        ∃ t : State, exec (.timerExpiry n template key ⟨slot, data⟩) s = .next t ∧ t.fab.store = s.fab.store ∧
          Tab.get (fun _ => FwTimer.reset) t.fab.timers n = ⟨template, wrap 24 key, slot, wrap 64 data, true⟩ ∧
          (t.producer 2).refusals = satAdd 32 (s.producer 2).refusals 1 ∧ (t.producer 2).slips = satAdd 32 (s.producer 2).slips 1)) ∧
    (∀ (n : Fin 64) x u, s.serving = true → Tab.get (fun _ => FwTimer.reset) s.fab.timers n = x → x.retrying = true →
      s.deposit .timer x.template x.key x.slot x.data none = some u →
      ∃ t : State, exec (.timerRetry n) s = .next t ∧ t.fab.store = u.fab.store ∧
        (Tab.get (fun _ => FwTimer.reset) t.fab.timers n).retrying = false) ∧
    (∀ (l : Fin 8) i rest, (s.rlist l).entries = i :: rest → s.fld Reg.fabCtl 16 16 ≠ 0 → (s.rlist l).lagging = false →
      usTicks (s.fld Reg.fabCtl 16 16) < (s.now + 2 ^ 32 - (s.entry i).rtime % 2 ^ 32) % 2 ^ 32 →
      ∃ t : State, exec (.fabLag l) s = .next t ∧ (t.rlist l).lagging = true ∧ (t.rlist l).entries = i :: rest ∧
        t.bit (Reg.fabList l) 31 = true ∧ ∃ r ∈ t.flt.asserted, r.code = Code.fabLag ∧ r.inst = l.val) ∧
    (∀ off reader struck, s.serving = true → (reader = .scrubber → s.bit Reg.fabCtl 0 = true) →
      let bank := off % 0x400000 / 0x20000
      (∃ t : State, exec (.sramEccError off true ⟨reader, struck⟩) s = .next t ∧ t.fld Reg.fabSram 0 5 = bank % 32 ∧
        t.fld Reg.fabSram 8 16 = satAdd 16 (s.fld Reg.fabSram 8 16) 1 ∧ t = { s with regs := t.regs, flt := t.flt }) ∧
      (bank ≤ 2 ∨ bank = 12 → s.bist.slice = none →
        ∃ t : State, exec (.sramEccError off false ⟨reader, struck⟩) s = .next t ∧ t.fld Reg.fabSram 24 8 = satAdd 8 (s.fld Reg.fabSram 24 8) 1 ∧
          ∃ r ∈ t.flt.asserted, r.code = Code.sramUeTables ∧ r.inst = bank)) ∧
    (∀ v, s.served = true →
      ∃ t : State, exec (.fabMsselWrite v) s = .next t ∧ t = { s with regs := t.regs } ∧
        ∀ k, k < 16 → t.reg (Reg.fabMssnap k) = ((s.entry (field v 0 11)).words (field v 0 11)).getD k 0) ∧
    (∀ p, s.accepts Op.fabEngineStats p → field (p.word 0) 0 5 < 18 →
      let x := s.engine (field (p.word 0) 0 5)
      ∃ t : State, exec (.fabEngineStats p) s =
          .next (t.answer Op.fabEngineStats p Status.ok 0 ([x.tasks, x.overruns, x.revAcc, x.busy].map word)) ∧
        (wbit (p.word 0) 16 = false → t = s) ∧
        (wbit (p.word 0) 16 = true → t.engine (field (p.word 0) 0 5) = { x with tasks := 0, overruns := 0, revAcc := 0, busy := 0 } ∧
          t = { s with fab := t.fab })) ∧
    (∀ p, s.accepts (Op.fabProducerStats (field (p.word 0) 0 3 == 0)) p → field (p.word 0) 0 3 ≤ 5 →
      let k := field (p.word 0) 0 3
      ∃ t : State, exec (.fabProducerStats p) s = .next (t.answer (Op.fabProducerStats (k == 0)) p Status.ok 0
          ([(s.producer k).deposits, (s.producer k).overwrites, (s.producer k).refusals, (s.producer k).slips].map word ++
            (if k = 0 then s.worstLanes else []))) ∧
        (wbit (p.word 0) 16 = false → t = s) ∧
        (wbit (p.word 0) 16 = true → t.producer k = .reset ∧ t.reg Reg.fabCancel = 0 ∧ t = { s with regs := t.regs, fab := t.fab }))

/-- The recorder (R261, R262, R264 to R268, R272): arming and disarming, triggers by command and by register, REC_CTL.EN, reading, listing
and releasing captures, pages that fill, captures that end, and the report of a GAP record that drops have left. -/
def Obligations.RecorderComplete : Prop :=
  ∀ (s : State),
    (∀ p, s.accepts Op.recArm p → s.noRecorder = false →
      let i := field (p.word 0) 0 4
      (field (p.word 0) 8 2 = 0 → s.armRefused i = false →
        ∃ t : State, exec (.recArm p) s = .next (t.answer Op.recArm p Status.ok 0 [word (t.strm i).state.code]) ∧
          (t.strm i).source = s.fld (Reg.recScfg i) 8 4 ∧ (t.strm i).quota = s.fld (Reg.recSquota i) 0 17 ∧
          (t.strm i).caps = (s.disarm i |>.strm i).caps ∧
          (s.fld (Reg.recScfg i) 0 2 = 1 → (t.strm i).state = .run) ∧
          (s.fld (Reg.recScfg i) 0 2 = 0 → (t.strm i).state = .armed ∨ (t.strm i).state = .held)) ∧
      (field (p.word 0) 8 2 = 1 →
        ∃ t : State, exec (.recArm p) s = .next (t.answer Op.recArm p Status.ok 0 [word (t.strm i).state.code]) ∧
          (t.strm i).state = .off) ∧
      (field (p.word 0) 8 2 = 2 →
        ∃ t : State, exec (.recArm p) s = .next (t.answer Op.recArm p Status.ok 0 [word (t.strm i).state.code]) ∧
          (t.strm i).state = (s.strm i).state ∧ (t.strm i).caps = (s.strm i).caps)) ∧
    (∀ p, s.accepts Op.recTrigger p → s.noRecorder = false →
      ∃ t ids, exec (.recTrigger p) s = .next (State.answer t Op.recTrigger p Status.ok 0 ids) ∧
        ∀ i, i < 16 → (field (p.word 0) 0 16).testBit i = true → wbit (s.strm i).trg 14 = true → (s.strm i).state = .armed →
          (t.strm i).state = .post ∧ (t.strm i).curCap.isSome = true) ∧
    (∀ v, s.served = true → s.saved = false →
      ∃ t : State, exec (.recTrigWrite v) s = .next t ∧
        ∀ i, i < 16 → (field v 0 16).testBit i = true → wbit (s.strm i).trg 14 = true → (s.strm i).state = .armed →
          (t.strm i).state = .post ∧ (t.strm i).curCap.isSome = true) ∧
    (∀ v, s.served = true →
      ∃ t : State, exec (.recCtlWrite v) s = .next t ∧ t.bit Reg.recCtl 0 = wbit v 0 ∧
        (wbit v 0 = false → ∀ i, i < 16 → (t.strm i).state = .off) ∧ (wbit v 0 = true → t.fab = s.fab)) ∧
    (∀ p c pg rest, s.accepts Op.recRead p → field (p.word 0) 8 8 ≠ 0 →
      (s.strm (field (p.word 0) 0 4)).caps.find? (fun c => c.id == field (p.word 0) 8 8) = some c →
      linkPages c.pages none = pg :: rest → (p.word 2).toNat = 1 →
      ∃ t : State, exec (.recRead p) s = .next (t.answer Op.recRead p Status.ok 0 [1, word (wrap 32 (pg.seq + 1))]) ∧
        t = { s with hostMem := t.hostMem, fab := t.fab } ∧
        t.dmaRead p.ptr.toNat (pg.image (field (p.word 0) 0 4)).length = pg.image (field (p.word 0) 0 4)) ∧
    (∀ p c, s.accepts Op.recRelease p →
      (s.strm (field (p.word 0) 0 4)).caps.find? (fun c => c.id == field (p.word 0) 8 8) = some c →
      s.opRuns Op.recRead (fun q => field (q.word 0) 0 4 == field (p.word 0) 0 4 && field (q.word 0) 8 8 == field (p.word 0) 8 8) = false →
      ∃ t : State, exec (.recRelease p) s = .next (t.answer Op.recRelease p Status.ok 0 [word c.pages.length]) ∧
        (t.strm (field (p.word 0) 0 4)).caps =
          (s.strm (field (p.word 0) 0 4)).caps.filter (fun d => d.id != field (p.word 0) 8 8) ∧
        ((s.strm (field (p.word 0) 0 4)).state ≠ .held → t.fab.dram.back = c.pages.map Page.num ++ s.fab.dram.back)) ∧
    (∀ p, s.accepts Op.recList p →
      let ws := (s.strm (field (p.word 0) 0 4)).caps.flatMap Capture.words
      ∃ t : State, exec (.recList p) s = .next (t.answer Op.recList p Status.ok 0 [word (4 * ws.length)]) ∧
        t = { s with hostMem := t.hostMem } ∧ t.dmaRead p.ptr.toNat (4 * ws.length) = bytesOf ws) ∧
    (∀ (i : Fin 16) pg, (s.strm i).writing = true → (s.strm i).pageFull = true → s.pwr.phase ≠ .saved →
      (s.strm i).opened = some pg →
      (∀ c, (s.strm i).curCap = some c →
        ∃ t : State, exec (.recPageFull i) s = .next t ∧
          (t.strm i).curCap = some { c with pages := c.pages ++ [{ pg with closed := true, drops := wrap 32 (s.strm i).pageDrops }] } ∧
          ((s.strm i).state = .post → (t.strm i).postLeft = (s.strm i).postLeft - 1)) ∧
      ((s.strm i).curCap = none → (s.strm i).ring.length + 1 < (s.strm i).ringMax → (s.strm i).state ≠ .post →
        ∃ t : State, exec (.recPageFull i) s = .next t ∧
          (t.strm i).ring = (s.strm i).ring ++ [{ pg with closed := true, drops := wrap 32 (s.strm i).pageDrops }])) ∧
    (∀ (i : Fin 16) c, (s.strm i).state = .post → (s.strm i).postLeft = 0 → (s.strm i).curCap = some c →
      ∃ t : State, exec (.captureEnd i) s = .next t ∧ (t.strm i).curCap = none ∧
        ((t.strm i).state = .armed ∨ (t.strm i).state = .held) ∧
        ∃ d, (t.strm i).caps = (s.strm i).caps ++ [d] ∧ d.id = c.id ∧ d.cause = c.cause ∧ d.time = c.time) ∧
    (∀ i : Fin 16, 0 < (s.strm i).gapDue → s.pwr.phase ≠ .saved →
      ∃ t : State, exec (.recDrop i) s = .next t ∧ (t.strm i).gapDue = (s.strm i).gapDue - 1 ∧ (t.strm i).drops = (s.strm i).drops ∧
        ∃ r ∈ t.flt.asserted, r.code = Code.recDrop ∧ r.inst = i.val)

/-- What an accumulator set holds (R354): after a clear and n valid samples, n below 2^32, the count is n, the sum and the sum of squares
are those of the samples, MIN and MAX are the least and greatest sample each with the time of its first occurrence, and MIXED is set
exactly where two of them differ in channel or gain. -/
def Obligations.AccumulatorHoldsSamples : Prop :=
  ∀ (a : AccSet) (xs : List (Int × Nat × Nat × Nat)), xs.length < 2 ^ 32 →
    let b := xs.foldl (fun b x => b.add x.1 x.2.1 x.2.2.1 x.2.2.2) a.clear
    b.count = xs.length ∧ b.sum = (xs.map Prod.fst).sum ∧ b.sumsq = (xs.map (fun x => (x.1 * x.1).toNat)).sum ∧ b.full = false ∧
    (b.mixed = true ↔ ∃ x ∈ xs, ∃ y ∈ xs, (x.2.2.1, x.2.2.2) ≠ (y.2.2.1, y.2.2.2)) ∧
    (xs ≠ [] → b.settled = true ∧ (∀ x ∈ xs, b.mn ≤ x.1 ∧ x.1 ≤ b.mx) ∧
      (∃ (n : Nat) (x : Int × Nat × Nat × Nat), xs[n]? = some x ∧ b.mn = x.1 ∧ b.tmin = x.2.1 ∧
        ∀ (m : Nat) (y : Int × Nat × Nat × Nat), m < n → xs[m]? = some y → b.mn < y.1) ∧
      (∃ (n : Nat) (x : Int × Nat × Nat × Nat), xs[n]? = some x ∧ b.mx = x.1 ∧ b.tmax = x.2.1 ∧
        ∀ (m : Nat) (y : Int × Nat × Nat × Nat), m < n → xs[m]? = some y → y.1 < b.mx))

/-- SETTLED (R351): bit 0 of word 3 of a set, 1 after a valid sample was offered to it, 0 after an invalid one was, and 0 after it was
cleared, over MSR_ACLR or for all sets of a converter. -/
def Obligations.SettledFollowsSamples : Prop :=
  (∀ a : AccSet, wbit (a.words.getD 3 0) 0 = a.settled) ∧
  (∀ (s : State) (ad set : Nat) (valid : Bool) (r : Int) (t chan gain : Nat),
    ((s.offer ad set valid r t chan gain).acc (128 * ad + set)).settled = valid) ∧
  AccSet.reset.settled = false ∧
  (∀ (s : State) (v : Word), s.served = true → ∃ t : State, exec (.msrAclrWrite v) s = .next t ∧
    ∀ k, k < 128 → wbit v 31 = true ∨ k = field v 0 7 → (t.acc (128 * field v 7 2 + k)).settled = false)

/-- The measurement commands and registers (R345, R347, R348, R352 to R354, R357, R358, R363): a commit that passes makes the staged
sequence the converter's sequence; RUN and START begin a pass of an idle converter; urgent requests and calibrations join the queue;
clears. -/
def Obligations.MeasurementCommandsComplete : Prop :=
  ∀ (s : State),
    (∀ p (ad : Fin 4), s.accepts Op.msrCommit p → field (p.word 0) 0 4 = 2 ^ ad.val → (s.judgeSequence ad).1 = Status.ok →
      ∃ t data, exec (.msrCommit p) s = .next (State.answer t Op.msrCommit p Status.ok 0 data) ∧
        t.liveReg (Reg.msrCvctl ad) = s.reg (Reg.msrCvctl ad) ∧ ∀ e, e < 64 →
          t.liveReg (Reg.msrSeqa (64 * ad + e)) = s.reg (Reg.msrSeqa (64 * ad + e)) ∧
          t.liveReg (Reg.msrSeqb (64 * ad + e)) = s.reg (Reg.msrSeqb (64 * ad + e))) ∧
    (∀ (ad : Fin 4) v, s.served = true → wbit v 31 = true → wbit v 30 = false →
      let w := s.writeReg (Reg.msrCvctl ad) v
      w.bit (Reg.msrCvctl ad) 8 = s.bit (Reg.msrCvctl ad) 8 →
      ((w.judgeSequence ad).1 = Status.ok →
        ∃ t : State, exec (.msrCvctlCommit ad v) s = .next t ∧ t.liveReg (Reg.msrCvctl ad) = w.reg (Reg.msrCvctl ad) ∧
          ∀ e, e < 64 → t.liveReg (Reg.msrSeqa (64 * ad + e)) = s.reg (Reg.msrSeqa (64 * ad + e)) ∧
            t.liveReg (Reg.msrSeqb (64 * ad + e)) = s.reg (Reg.msrSeqb (64 * ad + e))) ∧
      ((w.judgeSequence ad).1 ≠ Status.ok →
        ∃ t : State, exec (.msrCvctlCommit ad v) s = .next t ∧ t.live = s.live ∧ t.msr = s.msr ∧
          t.fld (Reg.msrCvstat ad) 8 8 = (w.judgeSequence ad).1 % 256 ∧ t.bit (Reg.msrCvstat ad) 3 = true)) ∧
    (∀ (ad : Fin 4) v e x rest, s.served = true → wbit v 31 = false → s.convsRun = true →
      (s.conv ad).run = none → (s.conv ad).house = false → (s.conv ad).houseDue = false → (s.conv ad).urgent = [] →
      (s.conv ad).startOver = false → entriesOf s.conf ad = (e, x) :: rest →
      (wbit v 30 = true → wbit (s.liveReg (Reg.msrCvctl ad)) 7 = true → (s.conv ad).pass = false →
        (s.writeReg (Reg.msrCvctl ad) v).bit (Reg.msrCvctl ad) 8 = s.bit (Reg.msrCvctl ad) 8 →
        ∃ t r, exec (.msrCvctlStart ad v) s = .next t ∧ (t.conv ad).pass = true ∧ (t.conv ad).run = some r ∧ r.entry = some e ∧ r.spec = x) ∧
      (wbit v 8 = true → wbit v 30 = false → wbit (s.liveReg (Reg.msrCvctl ad)) 7 = false → s.bit (Reg.msrCvctl ad) 8 = false →
        ∃ t r, exec (.msrCvctlRun ad v) s = .next t ∧ (t.conv ad).pass = true ∧ (t.conv ad).run = some r ∧ r.entry = some e ∧ r.spec = x)) ∧
    (∀ p, s.accepts Op.msrUrgent p →
      let ad := field (p.word 0) 0 2
      s.judgeUrgent ad (specOf (p.word 1) (p.word 2)) = (Status.ok, 0) →
      ∃ t : State, exec (.msrUrgent p) s = .next (t.answer Op.msrUrgent p Status.ok 0 [word (s.conv ad).urgent.length]) ∧
        (t.conv ad).urgent = (s.conv ad).urgent ++ [⟨specOf (p.word 1) (p.word 2), .host (wbit (p.word 1) 18)⟩]) ∧
    (∀ (ad : Fin 4) v, s.served = true →
      let x := specOf v (s.reg (Reg.msrUrgb ad))
      (s.judgeUrgent ad x = (Status.ok, 0) →
        ∃ t : State, exec (.msrUrgaGo ad v) s = .next t ∧ (t.conv ad).urgent = (s.conv ad).urgent ++ [⟨x, .host (wbit v 18)⟩]) ∧
      ((s.judgeUrgent ad x).1 ≠ Status.ok →
        ∃ t : State, exec (.msrUrgaGo ad v) s = .next t ∧ t.bit (Reg.msrCvrun ad) 11 = true ∧
          (t.conv ad).urgRefused = satAdd 32 (s.conv ad).urgRefused 1)) ∧
    (∀ v, s.served = true →
      ∃ t : State, exec (.msrAclrWrite v) s = .next t ∧ t = { s with msr := t.msr } ∧ ∀ ad k, ad < 4 → k < 128 →
        t.acc (128 * ad + k) = if ad = field v 7 2 ∧ (wbit v 31 = true ∨ k = field v 0 7) then (s.acc (128 * ad + k)).clear
          else s.acc (128 * ad + k)) ∧
    (∀ p ad gain chan, calPair p = (ad, gain, chan) → calChannel ad gain chan = none → (s.conv ad).urgent.length < 8 →
      (s.accepts Op.msrCalZero p →
        ∃ t : State, exec (.msrCalZero p) s = .next (t.begin p) ∧ (t.conv ad).urgent = (s.conv ad).urgent ++ [⟨calSpec gain chan, .zero p⟩]) ∧
      (∀ off, s.accepts Op.msrCalSpan p → (s.conv ad).pendingZero = some (chan, gain, off) →
        ∃ t : State, exec (.msrCalSpan p) s = .next (t.begin p) ∧
          (t.conv ad).urgent = (s.conv ad).urgent ++ [⟨calSpec gain chan, .span p (signed 32 (p.word 2).toNat) off⟩]) ∧
      (s.accepts Op.msrCalClear p → wbit (p.word 0) 31 = false →
        ∃ t n, exec (.msrCalClear p) s = .next (State.answer t Op.msrCalClear p Status.ok 0 [n]) ∧ t.calOf ad chan gain = (0, 32768) ∧
          t = { s with msr := t.msr })) ∧
    (∀ p, s.accepts Op.msrStats p →
      let c := s.conv (field (p.word 0) 0 2)
      ∃ t : State, exec (.msrStats p) s = .next (t.answer Op.msrStats p Status.ok 0
          ([c.conversions, c.invalid, c.clipped, c.aborted, c.houseRounds, c.vfMisses, c.urgRefused].map word)) ∧
        (wbit (p.word 0) 16 = false → t = s) ∧ t = { s with msr := t.msr } ∧
        (wbit (p.word 0) 16 = true → t.conv (field (p.word 0) 0 2) = { c with
          conversions := 0, invalid := 0, clipped := 0, aborted := 0, houseRounds := 0, vfMisses := 0, urgRefused := 0 }))

/-- Conversions, house rounds and summaries (R343 to R346, R349, R350, R355, R356, R362). A conversion that has lasted its ACQ + 10 HCLK
is counted: a leading one is invalid; one of a sequence entry without decimation joins its set, corrected. A Vf capture that does not come
in time counts as missed and invalid. A house round falls due 250 µs after the one before, starts when its converter runs nothing, is
reported as late after 2 ms, and when it ends is counted and leaves every accumulator set alone. A summary keeps its nominal instants and
clears the sets that ask for it. -/
def Obligations.ConversionsComplete : Prop :=
  ∀ (s : State),
    (∀ (ad : Fin 4) u r, s.convsRun = true → (s.conv ad).run = some r → r.wait = none → r.lead = 0 → r.entry.isSome = true →
      r.spec.ratio ≤ 1 → s.past r.since (16 * (r.spec.acq + 10)) = true →
      ∃ t : State, exec (.conversionDone ad u false) s = .next t ∧
        (t.conv ad).conversions = satAdd 32 (s.conv ad).conversions 1 ∧
        t.acc (128 * ad + r.spec.set) = (s.acc (128 * ad + r.spec.set)).add (s.correct ad r.spec.chan r.spec.gain u.toInt)
          (s.sampleAt r) r.spec.chan r.spec.gain) ∧
    (∀ (ad : Fin 4) u clip r, s.convsRun = true → (s.conv ad).run = some r → r.wait = none → 0 < r.lead →
      s.past r.since (16 * (r.spec.acq + 10)) = true →
      ∃ t x, exec (.conversionDone ad u clip) s = .next t ∧ (t.conv ad).run = some x ∧ x.lead = r.lead - 1 ∧
        (t.conv ad).conversions = satAdd 32 (s.conv ad).conversions 1 ∧ (t.conv ad).invalid = satAdd 32 (s.conv ad).invalid 1) ∧
    (∀ (ad : Fin 4) r t0, s.convsRun = true → (s.conv ad).run = some r → r.wait = some t0 → s.past t0 (usTicks s.vfto) = true →
      ∃ t : State, exec (.vfCaptureTimeout ad) s = .next t ∧ (t.conv ad).vfMisses = satAdd 32 (s.conv ad).vfMisses 1 ∧
        (t.conv ad).invalid = satAdd 32 (s.conv ad).invalid 1) ∧
    (∀ die : Fin 2, s.convsRun = true →
      let ad := houseAd die
      ((s.conv ad).houseDue = false → s.past (s.conv ad).houseAt (usTicks 250) = true →
        exec (.houseRoundDue die) s = .next (s.onConv ad (fun c => { c with houseDue := true }))) ∧
      ((s.conv ad).houseDue = true → (s.conv ad).run = none → (s.conv ad).house = false →
        ∃ t : State, exec (.houseRoundStart die) s = .next t ∧ (t.conv ad).house = true ∧ (t.conv ad).houseDue = false ∧
          (t.conv ad).houseAt = s.mono ∧ (Code.msrHouseLate, ad) ∉ t.flt.causes) ∧
      (s.past (s.conv ad).houseAt (msTicks 2) = true → s.flt.causes.contains (Code.msrHouseLate, ad) = false →
        ∃ t : State, exec (.msrHouseLate die) s = .next t ∧ (Code.msrHouseLate, ad) ∈ t.flt.causes ∧
          t = { s with flt := t.flt, bist := t.bist })) ∧
    (∀ (die : Fin 2) codes, (s.conv (houseAd die)).house = true → codes.length = (houseChans die).length →
      s.past (s.conv (houseAd die)).houseAt (16 * 26 * codes.length) = true →
      ∃ t : State, exec (.houseRoundDone die codes) s = .next t ∧ (t.conv (houseAd die)).house = false ∧
        (t.conv (houseAd die)).houseRounds = satAdd 32 (s.conv (houseAd die)).houseRounds 1 ∧ t.msr.sets = s.msr.sets) ∧
    (s.served = true → s.fld Reg.msrCtl 24 8 ≠ 0 → s.past s.msr.summaryAt (msTicks (s.fld Reg.msrCtl 24 8)) = true →
      ∃ t : State, exec .msrSum s = .next t ∧
        t.msr.summaryAt = s.mono - (s.mono - s.msr.summaryAt) % msTicks (s.fld Reg.msrCtl 24 8) ∧ ∀ i, i < 512 →
        t.acc i = if s.bit (Reg.msrAcfg i) 1 then (s.acc i).clear else s.acc i)

/-- Outputs and the fault pair follow the state (R326, R331, R338): after a refresh an output's value in force is the one its highest rank
gives, an output whose value is off is off, one whose value is on is on unless its clamp still carries current, and the fault pair is driven
exactly while nothing releases it. -/
def Obligations.OutputsFollowTheirRank : Prop :=
  ∀ (s : State), let t := s.fieldRefresh
    t.fio.drive = !t.fltRelease ∧
    ∀ k, k < 16 → (t.fout k).value = s.outputValue k ∧ t.outputValue k = s.outputValue k ∧
      (s.outputValue k = false → (t.fout k).on = false) ∧
      (s.outputValue k = true → (t.fout k).on = ((s.fout k).on || !(s.fout k).clamping))

/-- The field commands and registers (R317 to R319, R325, R330, R331, R334, R338, R340): the diagnostic words and their clear, latched
outputs restored, counters read and cleared, a kick right or wrong, the kick interval switched on and off, a filter configuration taken or
refused, and the output commands and fault pair settings stored. -/
def Obligations.FieldCommandsComplete : Prop :=
  ∀ (s : State),
    (∀ p, s.accepts Op.fioDiag p →
      ∃ t : State, exec (.fioDiag p) s = .next (t.answer Op.fioDiag p Status.ok 0 s.diagWords) ∧
        (wbit (p.word 0) 16 = false → t = s) ∧ t = { s with fio := t.fio } ∧
        (wbit (p.word 0) 16 = true → t.fio.latLow = false ∧ t.fio.latUv = false ∧ t.fio.latSilent = false ∧
          ∀ i, i < 32 → (t.fin i).stuckLat = false ∧ (t.fin i).chatterLat = false ∧ (i < 16 → (t.fout i).lat = 0))) ∧
    (∀ p overloads, s.accepts Op.fioOutRestore p → field (p.word 0) 0 16 ≠ 0 → s.fio.fldUv = false →
      (∀ k, k < 16 → (field (p.word 0) 0 16).testBit k = true → (s.fout k).latchedOff = true ∧ overloads.getLsbD k = false) →
      ∃ t : State, exec (.fioOutRestore p overloads) s =
          .next (t.answer Op.fioOutRestore p Status.ok 0 [word (field (p.word 0) 0 16)]) ∧
        ∀ k, k < 16 → (field (p.word 0) 0 16).testBit k = true → (t.fout k).latchedOff = false ∧ (t.fout k).overload = false) ∧
    (∀ p, s.accepts Op.fioStats p → field (p.word 0) 0 6 < 32 → wbit (p.word 0) 16 = false →
      let x := s.fin (field (p.word 0) 0 6)
      exec (.fioStats p) s = .next (s.answer Op.fioStats p Status.ok 0
        [word x.transitions, word x.crossTotal, word x.stuckStarts, word x.chatterStarts, 0])) ∧
    (∀ p, s.accepts Op.fioStats p → 32 ≤ field (p.word 0) 0 6 → field (p.word 0) 0 6 < 48 → wbit (p.word 0) 16 = true →
      let k := field (p.word 0) 0 6 - 32
      let o := s.fout k
      ∃ t : State, exec (.fioStats p) s =
          .next (t.answer Op.fioStats p Status.ok 0 ([o.switchings, o.trips, o.retries, o.pendings, o.longs].map word)) ∧
        t.fout k = { o with switchings := 0, trips := 0, retries := 0, pendings := 0, longs := 0 } ∧ t = { s with fio := t.fio }) ∧
    (∀ v, s.served = true → s.bit Reg.fioKcfg 31 = true →
      (field v 0 8 = (if s.fio.nextA5 then 0xA5 else 0x5A) →
        ∃ t : State, exec (.fioKickWrite v) s = .next t ∧ t.fio.nextA5 = !s.fio.nextA5 ∧ t.fio.kickAt = s.mono ∧ t.fio.silent = false) ∧
      (field v 0 8 ≠ (if s.fio.nextA5 then 0xA5 else 0x5A) →
        ∃ t : State, exec (.fioKickWrite v) s = .next t ∧ t.fio.nextA5 = s.fio.nextA5 ∧ t.fio.kickAt = s.fio.kickAt ∧
          t.bit Reg.fioStat 4 = true ∧ t.fio.keyErrors = satAdd 32 s.fio.keyErrors 1)) ∧
    (∀ v, s.served = true →
      (s.bit Reg.fioKcfg 31 = false → (s.writeReg Reg.fioKcfg v).bit Reg.fioKcfg 31 = true →
        ∃ t : State, exec (.fioKcfgWrite v) s = .next t ∧ t.bit Reg.fioKcfg 31 = true ∧ t.fio.nextA5 = false ∧ t.fio.kickAt = s.mono) ∧
      (s.bit Reg.fioKcfg 31 = true → (s.writeReg Reg.fioKcfg v).bit Reg.fioKcfg 31 = false →
        ∃ t : State, exec (.fioKcfgWrite v) s = .next t ∧ t.bit Reg.fioKcfg 31 = false ∧ t.fio.silent = false) ∧
      ((s.writeReg Reg.fioKcfg v).bit Reg.fioKcfg 31 = s.bit Reg.fioKcfg 31 →
        ∃ t : State, exec (.fioKcfgWrite v) s = .next t ∧ t.reg Reg.fioKcfg = (s.writeReg Reg.fioKcfg v).reg Reg.fioKcfg ∧
          t.fio.kickAt = s.fio.kickAt ∧ t.fio.silent = s.fio.silent)) ∧
    (∀ (i : Fin 32) v, s.served = true →
      (filterTaken v = false → exec (.fioFcfgWrite i v) s = .next s) ∧
      (filterTaken v = true →
        ∃ t : State, exec (.fioFcfgWrite i v) s = .next t ∧ fcTop (t.reg (Reg.fioFcfg i)) = field v 24 8 ∧
          fcOn (t.reg (Reg.fioFcfg i)) = field v 16 8 ∧ fcOff (t.reg (Reg.fioFcfg i)) = field v 8 8 ∧
          fcEn (t.reg (Reg.fioFcfg i)) = wbit v 0 ∧ (wbit v 0 = false → (t.fin i).running = false ∧ (t.fin i).state = false))) ∧
    (∀ v, s.served = true →
      ∃ t : State, exec (.fioOcmdWrite v) s = .next t ∧ t.fio.relatch = false ∧ t.fld Reg.fioOcmd 0 16 = field v 0 16) ∧
    (∀ v, s.served = true →
      ((wbit v 8 = false ∨ s.inMaint = true) →
        ∃ t : State, exec (.fioFltcfgWrite v) s = .next t ∧ t.bit Reg.fioFltcfg 8 = wbit v 8 ∧ t.fld Reg.fioFltcfg 0 8 = field v 0 8) ∧
      (wbit v 8 = true → s.inMaint = false →
        ∃ t : State, exec (.fioFltcfgWrite v) s = .next t ∧ t.reg Reg.fioFltcfg = s.reg Reg.fioFltcfg))

/-- The field events (R317, R320 to R322, R325 to R330, R339): filter ticks, the input monitors, the output conditions and their ends, the
field supply, the kick interval and the fault pin readback. -/
def Obligations.FieldEventsComplete : Prop :=
  ∀ (s : State),
    (∀ (i : Fin 32) clkB raw, let x := s.fin i
      let w := s.reg (Reg.fioFcfg i)
      let r : Bool := raw.getLsbD i != fcInv w
      fcEn w = true → x.running = true → x.act = w → fcClkB w = clkB →
      ∃ t : State, exec (.filterTick clkB raw) s = .next t ∧
        (t.fin i).count = (if r then min (min x.count (fcTop w) + 1) (fcTop w) else min x.count (fcTop w) - 1) ∧
        (x.state = false → (t.fin i).state = decide (fcOn w ≤ (t.fin i).count)) ∧
        (x.state = true → (t.fin i).state = decide (fcOff w < (t.fin i).count))) ∧
    (∀ (i : Fin 32) clkB raw, let w := s.reg (Reg.fioFcfg i)
      let r : Bool := raw.getLsbD i != fcInv w
      fcEn w = true → (s.fin i).running = false → fcClkB w = clkB →
      ∃ t : State, exec (.filterTick clkB raw) s = .next t ∧ (t.fin i).running = true ∧ (t.fin i).act = w ∧ (t.fin i).state = r ∧
        (t.fin i).count = if r then fcTop w else 0) ∧
    (∀ i : Fin 32, let x := s.fin i
      x.running = true → x.state = true → x.stuck = false → s.fld (Reg.fioMcfg i) 0 16 ≠ 0 →
      x.since + msTicks (10 * s.fld (Reg.fioMcfg i) 0 16) < s.mono →
      ∃ t : State, exec (.stuck i) s = .next t ∧ (t.fin i).stuck = true ∧ (t.fin i).stuckLat = true ∧ t.fio.fault = true) ∧
    (∀ i : Fin 32, let x := s.fin i
      x.running = true → s.past x.winStart (msTicks (s.fld (Reg.fioMcfg i) 24 8)) = true →
      ∃ t : State, exec (.chatterWindowEnd i) s = .next t ∧ (t.fin i).winStart = s.mono ∧ (t.fin i).crossings = 0 ∧
        (t.fin i).chatter = (x.held || (s.fld (Reg.fioMcfg i) 16 8 != 0 && decide (x.crossings > s.fld (Reg.fioMcfg i) 16 8)))) ∧
    (∀ k : Fin 16, (s.fout k).on = true →
      ∃ t : State, exec (.overload k) s = .next t ∧ (t.fout k).overload = true ∧ (t.fout k).on = false ∧
        (t.fout k).trips = satAdd 32 (s.fout k).trips 1 ∧
        (t.fout k).latchedOff = ((s.fout k).latchedOff || s.bit (Reg.fioOcfg k) 3)) ∧
    (∀ (k : Fin 16) again, (s.fout k).overload = true → (s.fout k).latchedOff = false → (s.fout k).clamping = false →
      s.fio.fldUv = false → s.lowRanks k = true →
      s.past (s.fout k).offAt (msTicks 10) = true →
      ∃ t : State, exec (.overloadRetry k again) s = .next t ∧ (t.fout k).overload = again ∧
        (t.fout k).retries = satAdd 32 (s.fout k).retries 1) ∧
    (∀ k : Fin 16, (s.fout k).on = false →
      (∃ t : State, exec (.demagEnd k false) s = .next t ∧ (t.fout k).clamping = false) ∧
      (∀ t0, (s.fout k).due = some t0 → s.past t0 (msTicks 20) = true →
        ∃ t : State, exec (.demagEnd k true) s = .next t ∧ (t.fout k).clamping = false ∧
          (t.fout k).longs = satAdd 32 (s.fout k).longs 1)) ∧
    (∀ (k : Fin 16) wired, s.bit (Reg.fioOcfg k) 4 = true → (s.fout k).on = false → (s.fout k).shortSup = false →
      (s.fout k).extVolt = false → s.pwr.boot = .ready →
      let near := ∃ j, j < 16 ∧ j ≠ k.val ∧ ∃ t0 ∈ (s.fout j).onTimes, t0 + msTicks 10 ≤ s.mono ∧ s.mono ≤ t0 + msTicks 11
      let tied := ∃ j : Fin 16, wired = some j ∧ j ≠ k ∧ (s.fout j).on = true
      ∃ t : State, exec (.offstateVoltage ⟨k, wired⟩) s = .next t ∧ t.fio.fault = true ∧
        ((near ∨ tied) → (t.fout k).extVolt = true ∧ (t.fout k).shortSup = false) ∧
        (¬ (near ∨ tied) → (t.fout k).shortSup = true ∧ (t.fout k).extVolt = false)) ∧
    (∀ k : Fin 16, (s.fout k).shortSup = true ∨ (s.fout k).extVolt = true →
      ∃ t : State, exec (.offstateVoltageEnd k) s = .next t ∧ (t.fout k).shortSup = false ∧ (t.fout k).extVolt = false) ∧
    (∀ k : Fin 16, s.bit (Reg.fioOcfg k) 5 = true → (s.fout k).on = true → (s.fout k).openLoad = false →
      ∃ t : State, exec (.openLoad k) s = .next t ∧ (t.fout k).openLoad = true ∧ (t.fout k).on = true) ∧
    (∀ k : Fin 16, (s.fout k).openLoad = true → ∃ t : State, exec (.openLoadEnd k) s = .next t ∧ (t.fout k).openLoad = false) ∧
    (s.fio.fldLow = false → ∃ t : State, exec .fldLow s = .next t ∧ t.fio.fldLow = true ∧ t.fio.latLow = true ∧ t.fio.outs = s.fio.outs) ∧
    (s.fio.fldLow = true → ∃ t : State, exec .fldLowEnd s = .next t ∧ t.fio.fldLow = false ∧ t.fio.outs = s.fio.outs) ∧
    (s.fio.fldUv = false → ∃ t : State, exec .fldUv s = .next t ∧ t.fio.fldUv = true ∧ ∀ k, k < 16 → (t.fout k).on = false) ∧
    (s.fio.fldUv = true → ∃ t : State, exec .fldUvEnd s = .next t ∧ t.fio.fldUv = false ∧ ∀ k, k < 16 →
      (t.fout k).latchedOff = ((s.fout k).latchedOff || ((s.fout k).uvOn && s.bit (Reg.fioOcfg k) 2))) ∧
    (s.bit Reg.fioKcfg 31 = true → s.fio.silent = false → s.past s.fio.kickAt (msTicks (s.fld Reg.fioKcfg 0 14)) = true →
      ∃ t : State, exec .hostSilent s = .next t ∧ t.fio.silent = true ∧ t.fio.latSilent = true) ∧
    (∀ a b, s.pwr.boot = .ready → s.fio.drive = true → (a || b) = true →
      ∃ t : State, exec (.fltPin a b) s = .next t ∧ t.fio.drive = false ∧ t.fio.pinBad = true ∧
        ∃ r ∈ t.flt.asserted, r.code = Code.fltPin)

/-- The collector (R364 to R366, R371 to R373, R384, R385, R390): what one sampled report writes to the log, what a shadow makes of it,
that a detector pair at a wrong code is a WIRE at its second sample in a row and nothing at its first, how a cause ends, what a quiet
period's end does, and when a window and a shadow close. -/
def Obligations.CollectorComplete : Prop :=
  ∀ (s : State),
    (∀ r, s.collects = true → s.flt.asserted = [r] → s.flt.inj = none → (s.reactionOf r).2 ≠ 0 →
      (deviceClass r.code = true ∨ s.flt.shadows = []) →
      ∃ t e, exec (.faultReport []) s = .next t ∧ t.flt.log = e :: s.flt.log.take 255 ∧ e.code = r.code ∧ e.time = r.time ∧
        e.sev = (s.reactionOf r).1 ∧ e.seq = (s.flt.seq + 1) % 65536 ∧ e.inst = loggedInst r ∧ e.d0 = r.d0 ∧ e.d1 = r.d1 ∧
        e.conseq = false ∧ e.coinc = false ∧ e.wire = r.wire ∧ t.bit Reg.fltSum 3 = true) ∧
    (∀ r, s.collects = true → s.flt.asserted = [r] → s.flt.inj = none → deviceClass r.code = false →
      s.flt.shadows.any (fun k => s.shadowCovers k (s.sampledArm r)) = true →
      ∃ t e, exec (.faultReport []) s = .next t ∧ t.flt.log = e :: s.flt.log.take 255 ∧ e.code = r.code ∧ e.sev = 0 ∧ e.conseq = true ∧
        e.react = 0 ∧ e.seq = (s.flt.seq + 1) % 65536) ∧
    (∀ pairs, s.collects = true → s.flt.asserted = [] → s.flt.inj = none →
      (s.cclk ≠ s.flt.suspectAt + 1 ∨ ∀ w ∈ pairs, w ∉ s.flt.suspects) →
      ∃ t : State, exec (.faultReport pairs) s = .next t ∧ t.flt.log = s.flt.log ∧ t.flt.suspects = pairs ∧ t.flt.suspectAt = s.cclk) ∧
    (∀ code n, s.collects = true → s.flt.asserted = [] → s.flt.inj = none → s.flt.shadows = [] → (codeRow code).isSome = true →
      s.cclk = s.flt.suspectAt + 1 → (code, n) ∈ s.flt.suspects → (code, wireInst n) ∉ s.flt.causes →
      (s.reactionOf ⟨code, 0xFFFF, none, none, word n, 0, s.now, true, false⟩).2 ≠ 0 →
      ∃ t e, exec (.faultReport [(code, n)]) s = .next t ∧ t.flt.log = e :: s.flt.log.take 255 ∧ e.code = code ∧ e.wire = true ∧
        e.inst = 0xFFFF ∧ e.time = s.now ∧ e.d0 = word n) ∧
    (∀ code inst, s.collects = true → (code, inst) ∈ s.flt.causes → (endsAlone code = true ∨ 0x10000 ≤ inst) →
      ∃ t : State, exec (.faultCauseEnd code inst) s = .next t ∧ (code, inst) ∉ t.flt.causes) ∧
    (∀ code, s.collects = true → (codeRow code).isSome = true → (s.code code).state = .quiet →
      s.past (s.code code).quietAt (msTicks (s.fld (Reg.fltCcfg1 (idxOfCode code)) 0 16)) = true →
      (∀ r ∈ s.flt.asserted, r.code ≠ code) →
      ((s.fld (Reg.fltCcfg1 (idxOfCode code)) 16 8 = 0 ∨ s.windowRuns code = false ∨
          (s.code code).escCount < s.fld (Reg.fltCcfg1 (idxOfCode code)) 16 8) →
        ∃ t : State, exec (.quietExpiry code) s = .next t ∧ (t.code code).state = .idle ∧
          (t.code code).rcnt = satAdd 16 (s.code code).rcnt 1 ∧ t.flt.log = s.flt.log) ∧
      (s.fld (Reg.fltCcfg1 (idxOfCode code)) 16 8 ≠ 0 → s.windowRuns code = true →
        s.fld (Reg.fltCcfg1 (idxOfCode code)) 16 8 ≤ (s.code code).escCount →
        ∃ t e, exec (.quietExpiry code) s = .next t ∧ (t.code code).state = .latched ∧ t.flt.log = e :: s.flt.log.take 255 ∧
          e.code = code ∧ e.esc = true)) ∧
    (∀ code, (codeRow code).isSome = true → (s.code code).escStart.isSome = true → s.windowRuns code = false →
      exec (.escalationWindowEnd code) s = .next (s.onCode code (fun c => { c with escStart := none, escCount := 0 }))) ∧
    (∀ k x, s.flt.shadows[k]? = some x → s.collects = true → s.shadowOver x = true →
      exec (.shadowClose k) s = .next (s.onFlt (fun f => { f with
        shadows := f.shadows.eraseIdx k, reinit := f.reinit.filter (fun y => y.1 != x) })))

/-- The fault commands and registers (R339, R375, R380, R386, R389, R391, R393): a code cleared, or refused while its cause is present;
FLT_PIN cleared by its drive test; every code cleared at once; the log read, with or without entries; an injection armed; a code's
counters read; the first-fault register cleared; FLT_HOLD stored. -/
def Obligations.FaultCommandsComplete : Prop :=
  ∀ (s : State),
    (∀ p healthy, s.accepts Op.fltClear p → wbit (p.word 0) 16 = false →
      let code := field (p.word 0) 0 16
      (codeRow code).isSome = true → code ≠ Code.fltPin → s.held code = true →
      (s.causeNow code = false →
        ∃ t : State, exec (.fltClear p healthy) s = .next (t.answer Op.fltClear p Status.ok 0 [1, 0]) ∧ t.held code = false ∧
          t.flt.log = s.flt.log) ∧
      (s.causeNow code = true →
        ∃ t : State, exec (.fltClear p healthy) s = .next (t.answer Op.fltClear p Status.causeActive 0 [0, word code]) ∧
          t.held code = true ∧ (t.code code).refusals = satAdd 32 (s.code code).refusals 1)) ∧
    (∀ p, s.accepts Op.fltClear p → wbit (p.word 0) 16 = false → field (p.word 0) 0 16 = Code.fltPin → s.fio.pinBad = true →
      s.held Code.fltPin = true → (∀ c ∈ s.flt.causes, c.1 = Code.fltPin → c.2 = 0xFFFF) → (∀ r ∈ s.flt.asserted, r.code ≠ Code.fltPin) →
      ∃ t : State, exec (.fltClear p true) s = .next (t.answer Op.fltClear p Status.ok 0 [1, 0]) ∧ t.held Code.fltPin = false ∧
        t.fio.pinBad = false) ∧
    (∀ p healthy, s.accepts Op.fltClear p → wbit (p.word 0) 16 = true → s.fio.pinBad = false → (∀ code, s.causeNow code = false) →
      ∃ t n, exec (.fltClear p healthy) s = .next (State.answer t Op.fltClear p Status.ok 0 [n, 0]) ∧
        ∀ r ∈ codeTable, t.held r.code = false) ∧
    (∀ p a b, s.accepts Op.fltLogRead p → 1 ≤ (p.word 2).toNat → (p.word 2).toNat ≤ 256 →
      let es := (logFrom ((if wbit (p.word 0) 0 then s.flt.mirror else s.flt.log).reverse) (field (p.word 1) 0 16)).take (p.word 2).toNat
      es.head? = some a → es.getLast? = some b →
      ∃ t : State, exec (.fltLogRead p) s =
          .next (t.answer Op.fltLogRead p Status.ok 0 [word es.length, word a.seq, word ((b.seq + 1) % 65536)]) ∧
        t = { s with hostMem := t.hostMem } ∧ t.dmaRead p.ptr.toNat (32 * es.length) = bytesOf (es.flatMap LogEntry.words)) ∧
    (∀ p, s.accepts Op.fltLogRead p → 1 ≤ (p.word 2).toNat → (p.word 2).toNat ≤ 256 →
      logFrom ((if wbit (p.word 0) 0 then s.flt.mirror else s.flt.log).reverse) (field (p.word 1) 0 16) = [] →
      ∃ w, exec (.fltLogRead p) s = .next (State.answer { s with free := s.free + 1 } Op.fltLogRead p Status.ok 0
        [0, w, word (field (p.word 1) 0 16)])) ∧
    (∀ p, s.accepts Op.fltInject p → s.inMaint = true → s.lcs = 3 → s.flt.inj = none →
      injectable (field (p.word 0) 0 8) (field (p.word 0) 8 2) (field (p.word 1) 0 16) = true → field (p.word 0) 16 8 ≠ 0 →
      ∃ t j, exec (.fltInject p) s = .next (State.answer t Op.fltInject p Status.ok 0 []) ∧ t.flt.inj = some j ∧
        j.checker = field (p.word 0) 0 8 ∧ j.kind = field (p.word 0) 8 2 ∧ j.code = field (p.word 1) 0 16 ∧
        j.remain = field (p.word 0) 16 8 ∧ ∃ r ∈ t.flt.asserted, r.code = Code.fltInject ∧ r.inst = j.checker) ∧
    (∀ p, s.accepts Op.fltCodeStats p → (codeRow (field (p.word 0) 0 16)).isSome = true →
      let c := s.code (field (p.word 0) 0 16)
      ∃ t : State, exec (.fltCodeStats p) s = .next (t.answer Op.fltCodeStats p Status.ok 0
          [word c.reports, word c.conseq, word c.recoveries, word c.escalations, word c.refusals, lo32 c.lastTime, hi32 c.lastTime]) ∧
        (wbit (p.word 0) 16 = false → t = s) ∧ (t.code (field (p.word 0) 0 16)).state = c.state ∧ t = { s with flt := t.flt }) ∧
    (s.served = true → exec .fltFfclr s = .next { s with flt := { s.flt with first := none } }) ∧
    (∀ v, s.served = true → s.saved = false →
      ∃ t : State, exec (.fltHoldWrite v) s = .next t ∧ t.fld Reg.fltHold 0 9 = field v 0 9 ∧ (wbit v 8 = true → t.devHusk = true))

/-- Riffle (R396 to R402): BIST_SLICE_NOW waits for the next slot, which starts its slice; the requests move to the stand-in after PREPARE
and back after REINIT; what the TEST captured; the verdict given when house rounds of both converters have followed. -/
def Obligations.RiffleSlicesComplete : Prop :=
  ∀ (s : State),
    (∀ p, s.accepts Op.bistSliceNow p → (blkOf (field (p.word 0) 0 9)).any Blk.sliced = true → s.bist.now = none →
      (s.lcs = 2 ∨ s.lcs = 3) → s.canSlice (field (p.word 0) 0 9) = true → s.bist.full = .off →
      exec (.bistSliceNow p) s = .next ((s.onBist (fun b => { b with now := some (field (p.word 0) 0 9, p) })).begin p)) ∧
    (∀ id p, s.riffleRuns = true → s.past s.bist.slotAt s.slotTicks = true → s.bist.slice = none → s.bist.now = some (id, p) →
      s.canSlice id = true →
      ∃ t x, exec .riffleSlot s = .next t ∧ t.bist.slice = some x ∧ x.block = id ∧ x.packet = some p ∧ t.bist.now = none ∧
        (x.direct = true → x.phase = .test ∧ x.standIn = none) ∧ (x.direct = false → x.phase = .prepare)) ∧
    (∀ x e n, s.served = true → s.bist.slice = some x → x.direct = false → x.phase = .prepare → blkOf x.block = some (.engine e) →
      x.standIn = some n → n ≠ e →
      ∃ t y, exec .riffleHandover s = .next t ∧ t.bist.slice = some y ∧ y.phase = .handover ∧ (t.engine e).state = .underTest ∧
        (t.engine n).state = .standin ∧ (t.engine n).role = (s.engine e).role ∧
        t.roleEpoch (s.engine e).role = (s.roleEpoch (s.engine e).role + 1) % 65536 ∧ ShadowKind.riffle x.block ∈ t.flt.shadows) ∧
    (∀ x, s.served = true → s.bist.slice = some x → x.direct = false → x.phase = .prepare → s.mayMove x (x.standIn.getD 0) = true →
      ∃ t y, exec .riffleHandover s = .next t ∧ t.bist.slice = some y ∧ y.block = x.block ∧ y.phase ≠ .prepare ∧
        ShadowKind.riffle x.block ∈ t.flt.shadows) ∧
    (∀ x misr count, s.served = true → s.bist.slice = some x → s.tested x = true →
      ∃ t y, exec (.riffleTestEnd misr count) s = .next t ∧ t.bist.slice = some y ∧ y.phase = .reinit ∧ y.block = x.block ∧
        y.misr = misr.toNat ∧ y.count = count.toNat ∧ t.reg Reg.bistLcnt = count) ∧
    (∀ x e n, s.served = true → s.bist.slice = some x → x.phase = .reinit → x.aborted = false → blkOf x.block = some (.engine e) →
      x.standIn = some n → n ≠ e → (s.engine n).task = none → (s.engine n).state = .standin →
      ∃ t : State, exec .riffleReturn s = .next t ∧ t.bist.slice = none ∧
        t.bist.judging = s.bist.judging ++ [{ x with round1 := false, round3 := false }] ∧ (t.engine e).state = .inService ∧
        (t.engine n).state = .spare) ∧
    (∀ x xs, s.served = true → s.bist.judging = x :: xs → x.round1 = true → x.round3 = true → x.block < 512 →
      (∃ t : State, exec .riffleVerdict s = .next t ∧ t.bist.judging = xs) ∧
      (x.verdict = .pass → ∃ t : State, exec .riffleVerdict s = .next t ∧
        t.fld (Reg.bistBstat x.block) 8 3 = RifVerdict.pass.code ∧ t.fld (Reg.bistBstat x.block) 4 2 = 0 ∧
        t.flt.asserted = s.flt.asserted) ∧
      (x.verdict = .void → x.unusable = false → ∃ t : State, exec .riffleVerdict s = .next t ∧
        t.fld (Reg.bistBstat x.block) 8 3 = RifVerdict.void.code ∧
        ∃ r ∈ t.flt.asserted, r.code = Code.riffleVoid ∧ r.inst = x.block))

/-- Full BIST and the life cycle (R407 to R409, R411, R412, R414): full BIST accepted, started once its reply is written, and ended with
or without verdicts; its results; a challenge, a token half, a state taken, a token that does not verify; the reset of RETIRED, and the
ends of nonce and lockout. -/
def Obligations.LifeCycleComplete : Prop :=
  ∀ (s : State),
    (∀ p, s.accepts Op.bistFull p → (s.lcs = 0 ∨ s.lcs = 3) → s.chain.role = .solo →
      (∀ i, i < 128 → (s.str i).state = .disabled) → field (p.word 0) 0 16 = 0xB157 →
      ∃ t : State, exec (.bistFull p) s = .next (t.answer Op.bistFull p Status.ok 0 []) ∧ t.bist.full = .accepted ∧ t.bist.slice = none) ∧
    (s.bist.full = .accepted → s.replyDue Op.bistFull = false →
      ∃ t : State, exec .fullBistStart s = .next t ∧ t.bist.full = .running ∧ t.dark ∧ t.linkUp = false ∧ t.service = none ∧
        t.bist.lcs = s.bist.lcs ∧ t.otp = s.otp) ∧
    (∀ fails, s.bist.full = .running →
      ∃ t : State, exec (.fullBistEnd fails false) s = .next t ∧ t.bit Reg.bistFres 0 = true ∧
        (t.fld Reg.bistFres 2 2 = 1 ↔ ∀ id ∈ fullBlocks, ∀ f ∈ fails, f.val ≠ id) ∧
        t.fld Reg.pwrReset 8 3 = ResetCause.bist.code ∧ t.bist.full = .off ∧ t.dark) ∧
    (∀ fails, s.bist.full = .running →
      ∃ t : State, exec (.fullBistEnd fails true) s = .next t ∧ t.fld Reg.bistFres 2 2 = 3 ∧ t.bist.full = .off ∧ t.dark) ∧
    (∀ p, s.accepts Op.bistResults p →
      ∃ t : State, exec (.bistResults p) s = .next (t.answer Op.bistResults p Status.ok 0
          ([s.readReg Reg.bistStat, s.readReg Reg.bistRstat, s.readReg Reg.bistFres] ++
            (List.range 512).map (fun b => s.readReg (Reg.bistBstat b)))) ∧
        (wbit (p.word 0) 16 = false → t = s) ∧ (wbit (p.word 0) 16 = true → t = s.setReg Reg.bistRstat 0)) ∧
    (∀ p, s.accepts Op.bistLcsChallenge p → s.bist.lockAt = none →
      ∃ t n, exec (.bistLcsChallenge p) s = .next (State.answer t Op.bistLcsChallenge p Status.ok 0
          [lo32 n, hi32 n, lo32 s.otp.serial, hi32 s.otp.serial]) ∧ t.bist.nonce = some n ∧ n < 2 ^ 64 ∧ t.bist.nonceAt = s.mono ∧
        t.bist.halfR = none ∧ t.bist.halfS = none) ∧
    (∀ p, s.accepts Op.bistLcsToken p → s.bist.nonce.isSome = true →
      let half := bytesOf ((List.range 8).map (fun i => p.word (i + 1)))
      exec (.bistLcsToken p) s = .next ((s.onBist (fun b => if wbit (p.word 0) 0 then { b with halfS := some half } else
        { b with halfR := some half })).answer Op.bistLcsToken p Status.ok 0 [])) ∧
    (∀ p needs, s.accepts (Op.bistLcsSet (s.lcs == 3 && field (p.word 0) 0 3 == 2)) p → field (p.word 0) 0 3 ≤ 4 →
      lcsPair s.lcs (field (p.word 0) 0 3) = some needs → (needs = false → ¬ (s.lcs = 0 ∧ s.unprogrammed = true)) →
      (needs = true → s.tokenOk (field (p.word 0) 0 3) = true) →
      ∃ t : State, exec (.bistLcsSet p) s = .next (t.answer (Op.bistLcsSet (s.lcs == 3 && field (p.word 0) 0 3 == 2)) p Status.ok 0
          [word s.lcs, word (field (p.word 0) 0 3)]) ∧ t.bist.lcs = field (p.word 0) 0 3 ∧
        (field (p.word 0) 0 3 = 3 → t.otp = s.otp) ∧ (field (p.word 0) 0 3 ≠ 3 → t.otp = { s.otp with lcs := field (p.word 0) 0 3 }) ∧
        (field (p.word 0) 0 3 = 4 → t.bist.retireDue = true)) ∧
    (∀ p, s.accepts (Op.bistLcsSet (s.lcs == 3 && field (p.word 0) 0 3 == 2)) p → field (p.word 0) 0 3 ≤ 4 →
      lcsPair s.lcs (field (p.word 0) 0 3) = some true → s.tokenOk (field (p.word 0) 0 3) = false →
      ∃ t : State, exec (.bistLcsSet p) s = .next (t.answer (Op.bistLcsSet (s.lcs == 3 && field (p.word 0) 0 3 == 2)) p
          Status.authFail 0 []) ∧ t.bist.lcs = s.bist.lcs ∧ t.otp = s.otp ∧ t.bist.nonce = none ∧ t.bist.authRun = s.bist.authRun + 1 ∧
        t.fld Reg.genLcs 24 8 = satAdd 8 (s.fld Reg.genLcs 24 8) 1 ∧ (2 ≤ s.bist.authRun → t.bist.lockAt = some s.mono)) ∧
    (s.bist.retireDue = true → exec .lcsRetiredReset s = .next (s.resetTo .retire)) ∧
    (s.bist.nonce.isSome = true → s.past s.bist.nonceAt (msTicks 600000) = true →
      exec .nonceExpiry s = .next (s.onBist (fun b => { b with nonce := none, halfR := none, halfS := none }))) ∧
    (∀ t0, s.bist.lockAt = some t0 → s.past t0 (msTicks 60000) = true →
      exec .challengeLockoutEnd s = .next (s.onBist (fun b => { b with lockAt := none, authRun := 0 })))

/-- Bytes that the update side reads come out as they were written (R441, R454): a delta that is well formed makes exactly the bytes its
target length says, a delta of one INSERT makes those bytes, and a settings body gives back its records, each tag with its words. -/
def Obligations.DeltasAndSettingsRoundTrip : Prop :=
  (∀ (delta base out : List Byte) (tlen : Nat), applyDelta false delta base tlen = some out → out.length = tlen) ∧
  (∀ (base bs : List Byte), 0 < bs.length → bs.length < 65536 →
    applyDelta false (leBytes 4 0x444D4C52 ++ leBytes 4 bs.length ++ leBytes 4 base.length ++ leBytes 4 0 ++
      ([0x02] ++ leBytes 2 bs.length ++ bs ++ [0x00])) base bs.length = some bs) ∧
  (∀ (recs : List (Nat × List Word)), (∀ r ∈ recs, r.1 < 65536 ∧ 4 * r.2.length < 65536) →
    let body := (recs.map (fun r => recordBytes r.1 r.2)).flatten
    bodyRecords body.length body = recs)

/-- The update commands (R443 to R447, R450, R453 to R455, R458, R460, R461): on a device that runs an image each step of the path from
UPD_BEGIN to UPD_CONFIRM, with chunks over PCIe or in pieces, the boot record it leaves, with SEQ one higher in both copies, and the ways
off it; in SEED the slot that UPD_BEGIN names, marked and erased. -/
def Obligations.UpdateCommandsComplete : Prop :=
  (∀ (s : State) p, s.inSeed = true → s.accepts Op.updBegin p → (s.upd.stage = .idle ∨ s.upd.stage = .confirmed) → 64 ≤ (p.word 0).toNat →
    (p.word 0).toNat ≤ 268435456 →
    ∃ t : State, exec (.updBegin p) s = .next (t.answer Op.updBegin p Status.ok 0 [word (chunkCount (p.word 0).toNat)]) ∧
      t.upd.stage = .download ∧ t.upd.plen = (p.word 0).toNat ∧ t.upd.target = field (p.word 1) 0 1 ∧
      (t.dev (field (p.word 1) 0 1)).image = none ∧ (t.bootRec.slot (field (p.word 1) 0 1)).state = .dirty) ∧
  ∀ (s : State), s.inSeed = false →
    let n := s.inactive
    (∀ p u, s.accepts Op.updBegin p → (s.upd.stage = .idle ∨ s.upd.stage = .confirmed) → s.fab.dram.total ≠ 0 → 64 ≤ (p.word 0).toNat →
      (p.word 0).toNat ≤ 268435456 → ceilDiv (p.word 0).toNat 65536 ≤ s.fld (Reg.fabAquota 1) 0 17 →
      s.takeStaging (ceilDiv (p.word 0).toNat 65536) = some u →
      ∃ t : State, exec (.updBegin p) s = .next (t.answer Op.updBegin p Status.ok 0 [word (chunkCount (p.word 0).toNat)]) ∧
        t.upd.stage = .download ∧ t.upd.plen = (p.word 0).toNat ∧ t.upd.chunks = [] ∧ t.fab = u.fab) ∧
    (∀ p, s.accepts Op.updChunk p → s.upd.stage = .download → p.hasPtr = true →
      let k := field (p.word 0) 0 16
      let bs := s.dmaRead p.ptr.toNat (field (p.word 1) 0 13)
      k < chunkCount s.upd.plen → field (p.word 1) 0 13 = chunkLen s.upd.plen k → crc32 bs = (p.word 2).toNat →
      ∃ t : State, exec (.updChunk p) s = .next (t.answer Op.updChunk p Status.ok 0 [word t.upd.chunks.length]) ∧
        t.upd.chunks = Tab.put (fun _ => []) s.upd.chunks k bs ∧ Tab.get (fun _ => []) t.upd.chunks k = bs ∧
        t.upd.stage = if t.upd.chunks.length = chunkCount s.upd.plen then .downloaded else .download) ∧
    (∀ p, s.accepts Op.updChunk p → s.upd.stage = .download → p.hasPtr = false →
      let k := field (p.word 0) 0 16
      let off := field (p.word 3) 0 12
      let x := s.upd.piecesWith k (field (p.word 1) 0 13) (p.word 2).toNat off ((p.params.drop 16).take (p.len.toNat - 16))
      k < chunkCount s.upd.plen → field (p.word 1) 0 13 = chunkLen s.upd.plen k → off % 32 = 0 → 16 < p.len.toNat →
      off + (p.len.toNat - 16) ≤ field (p.word 1) 0 13 →
      (x.whole = false →
        ∃ t : State, exec (.updChunk p) s = .next (t.answer Op.updChunk p Status.ok 0 [word s.upd.chunks.length]) ∧ x ∈ t.upd.pieces ∧
          t.upd.chunks = s.upd.chunks) ∧
      (x.whole = true → crc32 x.bytes = (p.word 2).toNat →
        ∃ t : State, exec (.updChunk p) s = .next (t.answer Op.updChunk p Status.ok 0 [word t.upd.chunks.length]) ∧
          Tab.get (fun _ => []) t.upd.chunks k = x.bytes)) ∧
    (∀ p, s.accepts Op.updApply p → s.upd.stage = .downloaded →
      (∀ st d, s.applyFault s.upd.package s.upd.plen n s.activeImage false = some (st, d) →
        ∃ t : State, exec (.updApply p) s = .next (t.answer Op.updApply p st d []) ∧ t.upd.stage = .downloaded ∧ t.upd.result = st ∧
          t.upd.detail = d ∧ t.bootRec = s.bootRec) ∧
      (s.applyFault s.upd.package s.upd.plen n s.activeImage false = none →
        ∃ t : State, exec (.updApply p) s = .next (t.begin p) ∧ t.upd.stage = .apply ∧ t.upd.op = some p ∧ (t.dev n).image = none ∧
          (t.bootRec.slot n).state = .dirty ∧ t.bootRec.seq = (s.bootRec.seq + 1) % 2 ^ 32 ∧ t.upd.mram = t.upd.ring.head?)) ∧
    (∀ p g, s.upd.stage = .apply → s.serving = true → s.upd.op = some p → buildImage s.upd.package s.activeImage = some g →
      (∃ t : State, exec (.updApplyDone false) s = .next (t.answer Op.updApply p Status.ok 0 [word g.parts.length]) ∧
        t.upd.stage = .applied ∧ (t.dev n).image = some g ∧ (t.bootRec.slot n).state = .applied ∧ t.upd.chunks = [] ∧ t.upd.op = none) ∧
      (∃ t : State, exec (.updApplyDone true) s = .next (t.answer Op.updApply p Status.busy 0x84 []) ∧ t.upd.stage = .downloaded ∧
        t.bootRec = s.bootRec ∧ t.upd.chunks = s.upd.chunks)) ∧
    (∀ p flashError, s.upd.stage = .apply → s.serving = true → s.upd.op = some p → buildImage s.upd.package s.activeImage = none →
      ∃ t : State, exec (.updApplyDone flashError) s = .next (t.answer Op.updApply p Status.badParam 0x83 []) ∧
        t.upd.stage = .downloaded ∧ t.upd.chunks = s.upd.chunks) ∧
    (∀ p, s.accepts Op.updVerify p → s.upd.stage = .applied →
      exec (.updVerify p) s = .next ((s.onUpd (fun u => { u with stage := .verify, op := some p })).begin p)) ∧
    (∀ p g, s.upd.stage = .verify → s.serving = true → s.upd.op = some p → (s.dev n).image = some g →
      (s.verifyFault g = none →
        ∃ t : State, exec .updVerifyDone s = .next (t.answer Op.updVerify p Status.ok 0 []) ∧ t.upd.stage = .verified ∧
          (t.bootRec.slot n).state = .verified ∧ t.upd.op = none) ∧
      (∀ st d, s.verifyFault g = some (st, d) →
        ∃ t : State, exec .updVerifyDone s = .next (t.answer Op.updVerify p st d []) ∧ t.upd.stage = .applied ∧ t.upd.result = st ∧
          t.upd.detail = d ∧ t.bootRec = s.bootRec)) ∧
    (∀ p, s.accepts Op.updActivate p → s.upd.stage = .verified →
      ∃ t : State, exec (.updActivate p false) s = .next (t.answer Op.updActivate p Status.ok 0 [word t.bootRec.seq]) ∧
        t.upd.stage = .activated ∧ t.bootRec.active = n ∧ t.bootRec.trial = true ∧ t.bootRec.tries = 0 ∧
        (t.bootRec.slot n).state = .trial ∧ t.bootRec.window = s.fld Reg.updCtl 0 8 ∧ t.bootRec.seq = (s.bootRec.seq + 1) % 2 ^ 32) ∧
    (∀ p, s.accepts Op.updActivate p → s.upd.stage = .verified →
      exec (.updActivate p true) s = .next (s.answer Op.updActivate p Status.busy 0x84 [])) ∧
    (∀ p, s.accepts Op.updConfirm p → s.upd.stage = .trial → s.windowEnded = false → s.upd.migr ≠ 4 → s.upd.run < 2 →
      ∃ t : State, exec (.updConfirm p) s = .next (t.answer Op.updConfirm p Status.ok 0 [word t.bootRec.svnMin]) ∧
        t.upd.stage = .confirmed ∧ t.upd.window = none ∧ t.bootRec.trial = false ∧ (t.bootRec.slot s.upd.run).state = .active ∧
        t.bootRec.svnMin = max s.bootRec.svnMin (s.bootRec.slot s.upd.run).svn ∧
        ((s.bootRec.slot (1 - s.upd.run)).state = .active → (t.bootRec.slot (1 - s.upd.run)).state = .previous)) ∧
    (∀ p, s.accepts Op.updAbort p →
      ((s.upd.stage = .download ∨ s.upd.stage = .downloaded) →
        ∃ t : State, exec (.updAbort p) s = .next (t.answer Op.updAbort p Status.ok 0 [word s.upd.stage.code]) ∧ t.upd.stage = .idle ∧
          t.upd.chunks = [] ∧ t.bootRec = s.bootRec) ∧
      ((s.upd.stage = .applied ∨ s.upd.stage = .verified) →
        ∃ t : State, exec (.updAbort p) s = .next (t.answer Op.updAbort p Status.ok 0 [word s.upd.stage.code]) ∧ t.upd.stage = .idle ∧
          (t.bootRec.slot n).state = .dirty) ∧
      (s.upd.stage = .activated →
        ∃ t : State, exec (.updAbort p) s = .next (t.answer Op.updAbort p Status.ok 0 [word s.upd.stage.code]) ∧
          t.upd.stage = .verified ∧ (t.bootRec.slot n).state = .verified ∧ t.bootRec.active = 1 - n ∧ t.bootRec.trial = false)) ∧
    (∀ p, s.accepts Op.updRevert p → (s.upd.stage = .idle ∨ s.upd.stage = .confirmed) → s.upd.run < 2 →
      (s.bootRec.slot (1 - s.upd.run)).state = .previous → s.imageOk (1 - s.upd.run) = true →
      ∃ t : State, exec (.updRevert p) s = .next (t.answer Op.updRevert p Status.ok 0 [word t.bootRec.seq]) ∧ t.upd.stage = .fallback ∧
        t.bootRec.active = 1 - s.upd.run ∧ (t.bootRec.slot (1 - s.upd.run)).state = .active ∧
        (t.bootRec.slot s.upd.run).state = .failed ∧ t.bootRec.fbcause = 5) ∧
    (∀ p, s.accepts Op.updSettingsSave p → s.updRuns = false → s.upd.run < 2 →
      ∃ t h, exec (.updSettingsSave p) s = .next (State.answer t Op.updSettingsSave p Status.ok 0 [word h.seq, word h.body.length]) ∧
        h.body = s.settingsBody ∧ h.auto = wbit (p.word 0) 0 ∧ ((t.dev s.upd.run).half0 = some h ∨ (t.dev s.upd.run).half1 = some h)) ∧
    (∀ p h, s.accepts Op.updSettingsRead p → (s.dev (if wbit (p.word 0) 0 then 1 - s.upd.run else s.upd.run)).settings = some h →
      ∃ t : State, exec (.updSettingsRead p) s = .next (t.answer Op.updSettingsRead p Status.ok 0 [word h.image.length, word h.sver]) ∧
        t = { s with hostMem := t.hostMem } ∧ t.dmaRead p.ptr.toNat h.image.length = h.image) ∧
    (∀ p, s.accepts Op.updSettingsRead p → (s.dev (if wbit (p.word 0) 0 then 1 - s.upd.run else s.upd.run)).settings = none →
      exec (.updSettingsRead p) s = .next (s.answer Op.updSettingsRead p Status.ok 0 [0, 0])) ∧
    (∀ t0, s.upd.window = some t0 → s.served = true → s.upd.stage = .trial →
      (s.upd.warned = false → s.past t0 (secTicks (60 * (s.bootRec.window - 1))) = true →
        ∃ t : State, exec .confirmWindowWarning s = .next t ∧ t.upd = { s.upd with warned := true } ∧ t.bit Reg.hostIpend1 7 = true) ∧
      (s.past t0 (secTicks (60 * s.bootRec.window)) = true → s.upd.nofb = false → s.upd.run < 2 →
        ∃ t : State, exec .confirmWindowEnd s = .next t ∧ t.upd.stage = .fallback ∧ t.upd.window = none ∧ t.bootRec.fbcause = 2 ∧
          t.bootRec.active = 1 - s.upd.run ∧ ∃ r ∈ t.flt.asserted, r.code = Code.updFallback))

/-- The sag and the save (R388, R420 to R424, R427, R429, R430, R436, R437, R502): from the crossing through qualification, t0, the cut, the
end of the packets and the record to SAVED, where the entries not yet mirrored are written and a failed mirror write is reported, and from
SAVED back to work or to reset. -/
def Obligations.SagSequenceComplete : Prop :=
  ∀ (s : State),
    (s.bist.full ≠ .running → s.pwr.boot = .ready → s.pwr.phase = .normal →
      exec .vinSagCrossing s = .next (s.onPwr (fun p => { p with
        vinok := false, boost := false, vinAt := s.wall, phase := .qualify, hgate := true }))) ∧
    (s.bist.full ≠ .running → (s.pwr.boot = .booting ∨ s.pwr.boot = .seed) →
      ∃ t : State, exec .vinSagCrossing s = .next t ∧ t.fld Reg.pwrReset 8 3 = ResetCause.holdEnd.code ∧ t.pwr.vinok = false ∧ t.dark) ∧
    (s.pwr.phase = .qualify →
      (s.pastWall s.pwr.vinAt (usTicks 10) = false → ∃ t : State, exec .sagQualifyAbandon s = .next t ∧ t.pwr.phase = .normal ∧
        t.pwr.hgate = false ∧
        t.pwr.glitches = satAdd 16 s.pwr.glitches 1 ∧ t = { s with pwr := t.pwr }) ∧
      ∀ vin hold, s.pastWall s.pwr.vinAt (usTicks 10) = true → ∃ t : State, exec (.vinSag vin hold) s = .next t ∧ t.pwr.phase = .save ∧
        t.pwr.keep.state = .started ∧
        t.pwr.sagTime = s.now ∧ t.pwr.sags = satAdd 16 s.pwr.sags 1 ∧ t.bist.slice = none ∧ (s.upd.todo = [] → t.lamps.commit = none ∧
          ∀ l, l < 512 → confMode s.conf l = 1 → (t.stream l).content.aspect = .block) ∧
        ∃ r ∈ t.flt.asserted, r.code = Code.vinSag) ∧
    (s.pwr.phase = .save → s.pastWall s.pwr.sagMono (usTicks 5) = true →
      ∃ t : State, exec .sagCut s = .next t ∧ t.pwr.railsHeld = true ∧ ∀ i, i < 128 → (t.str i).state = .sagCut ∧ (t.str i).cur = 0) ∧
    (s.pwr.phase = .save → s.pastWall s.pwr.sagMono (usTicks 100) = true → s.pwr.saveTest = none →
      ∃ t : State, exec .sagPacketDeadline s = .next t ∧ (∀ i, (t.entry i).state ≠ .free → (t.entry i).packet = none) ∧
        t.chain.form = none ∧ t.chain.admitting = none ∧ t.bist.now = none) ∧
    (∀ hold above back bad, s.pwr.phase = .save → s.pwr.railsHeld = true → s.pwr.swept = true →
      ∃ t : State, exec (.saveComplete hold above back bad) s = .next t ∧ t.pwr.phase = .saved ∧ t.pwr.keep.state = .valid ∧
        t.pwr.keep.seq = (s.pwr.keep.seq + 1) % 2 ^ 32 ∧ t.pwr.keep.t0 = s.pwr.sagTime ∧ t.pwr.keep.consumed = false ∧
        t.pwr.hgate = !back ∧ t.pwr.boost = back ∧ t.flt.unposted = [] ∧
        (s.flt.unposted ≠ [] → t.flt.mirror = (s.flt.unposted.reverse ++ s.flt.mirror).take 64 ∧
          (bad = true → ∃ r ∈ t.flt.asserted, r.code = Code.fltMirror))) ∧
    (s.saved = true → s.pwr.vinok = false → s.pwr.boost = false → exec .holdEnd s = .next (s.resetTo .holdEnd)) ∧
    (s.pwr.phase = .saved →
      ∃ t : State, exec .vinReturnSaved s = .next t ∧ t.pwr = { s.pwr with hgate := false, boost := true, vinAt := s.wall } ∧
        t.bit Reg.hostIpend1 9 = true) ∧
    (∀ p lost rails, s.accepts Op.pwrWarmRestart p → s.pwr.phase = .saved → s.pwr.vinok = true → s.pwr.good = 31 →
      ∃ t : State, exec (.pwrWarmRestart p true lost rails) s = .next (t.answer Op.pwrWarmRestart p Status.ok 0 [word s.pwr.keep.seq]) ∧
        t.pwr.phase = .normal ∧ t.pwr.railsHeld = false ∧ (∀ i, i < 128 → (t.str i).state ≠ .sagCut) ∧
        (∀ k, k < 4 → t.reg (Reg.lmpSen k) = 0) ∧ ∀ r ∈ t.flt.causes, r.1 ≠ Code.vinSag ∨ r.2 ≠ 0xFFFF) ∧
    (∀ p vin hold, s.accepts Op.pwrSaveTest p → field (p.word 0) 0 16 = 0x5A7E → (∀ i, i < 128 → (s.str i).state = .disabled) →
      ∃ t : State, exec (.pwrSaveTest p vin hold) s = .next (t.begin p) ∧ t.pwr.phase = .save ∧ t.pwr.saveTest = some ⟨p, hold.toNat⟩ ∧
        t.pwr.keep.state = .started) ∧
    (∀ p, s.accepts Op.pwrKeepRead p →
      ∃ t : State, exec (.pwrKeepRead p) s =
          .next (t.answer Op.pwrKeepRead p Status.ok 0 [0x4000, word s.pwr.keep.state.word]) ∧ t = { s with hostMem := t.hostMem } ∧
        t.dmaRead p.ptr.toNat s.pwr.keep.region.length = s.pwr.keep.region) ∧
    (∀ p, s.accepts Op.pwrStats p →
      let x := s.pwr
      ∃ t : State, exec (.pwrStats p) s = .next (t.answer Op.pwrStats p Status.ok 0
          ([x.statSags, x.statGlitches, x.statVinhi, x.statRetries, x.statSaves, x.statLost, x.statWarm].map word)) ∧
        (wbit (p.word 0) 16 = false → t = s) ∧ (wbit (p.word 0) 16 = true → t.pwr.statSags = 0 ∧ t.pwr.statLost = 0 ∧
          t.pwr.sags = s.pwr.sags ∧ t = { s with pwr := t.pwr })) ∧
    (s.pwr.phase ≠ .qualify → s.pastWall s.pwr.vinAt (msTicks 10) = true →
      exec .vinok s = .next { s with pwr := { s.pwr with vinok := true, boost := true } }) ∧
    (∀ ok : Bool, s.pwr.holdok ≠ ok →
      ∃ t : State, exec (.holdokChange ok) s = .next t ∧ t.pwr.holdok = ok ∧ (ok = true → t.pwr.holdArmed = true) ∧
        (s.pwr.boot ≠ .inReset → t.bit Reg.hostIpend1 9 = true)) ∧
    (s.pwr.boot ≠ .inReset → s.pwr.holdArmed = true → s.pwr.holdok = false → s.pwr.holdLow = false → s.saved = false →
      ∃ t : State, exec .holdLow s = .next t ∧ t.pwr.holdLow = true ∧ (Code.holdLow, 0xFFFF) ∈ t.flt.causes) ∧
    (s.pwr.holdLow = true →
      ∃ t : State, exec .holdLowEnd s = .next t ∧ t.pwr.holdLow = false ∧ (Code.holdLow, 0xFFFF) ∉ t.flt.causes) ∧
    (∃ t : State, exec .vinhi s = .next t ∧ t.bit Reg.pwrStat 15 = true ∧ t.pwr.statVinhi = satAdd 32 s.pwr.statVinhi 1)

/-- Resets, rails and boot (R409, R411, R417, R419, R428, R431, R432, R434, R451, R459, R474): what a reset leaves, whatever its cause,
which reset each event makes, the enable sequence, and what the end of a boot becomes. -/
def Obligations.ResetsAndBootComplete : Prop :=
  (∀ (s : State) (c : ResetCause), let t := s.resetTo c
    t.fld Reg.pwrReset 8 3 = c.code ∧ t.dark ∧ (∀ code, t.held code = false) ∧ t.devFlt = false ∧ t.service = none ∧ t.live = [] ∧
    t.bist.lcs = s.otp.lcs ∧ t.otp = s.otp ∧ t.pwr.keep = s.pwr.keep ∧ t.pwr.boots = s.pwr.boots ∧ t.flt.mirror = s.flt.mirror ∧
    t.msr.cals = s.msr.cals ∧ t.upd.devA = s.upd.devA ∧ t.upd.devB = s.upd.devB ∧ t.bootRec = s.bootRec ∧ t.chain.epoch = s.chain.epoch ∧
    t.pending = s.pending ∧ t.hostMem = s.hostMem ∧
    (∀ off, off ≠ Reg.bistFres → off ≠ Reg.pwrReset → (off < Reg.bistBstat 0 ∨ Reg.bistBstat 512 ≤ off) → t.reg off = regReset off)) ∧
  (∀ (s : State), exec .powerOnReset s = .next (s.resetTo .por) ∧ exec .rstN s = .next (s.resetTo .rstN) ∧
    exec .thermalShutdown s = .next (s.resetTo .thermal)) ∧
  (∀ (s : State),
    (∃ t : State, exec .thermalShutdownEnd s = .next t ∧ t.pwr = { s.pwr with hotDown := false } ∧ t = { s with pwr := t.pwr }) ∧
    (∀ k : Fin 5, s.pwr.seqNext = 5 →
      (k.val ≤ 1 → ∃ t : State, exec (.pgLoss k) s = .next t ∧ t.fld Reg.pwrReset 8 3 = ResetCause.pg.code ∧ t.pwr.lastRail = k.val ∧
        t.pwr.enabled = 0 ∧ t.dark) ∧
      (1 < k.val → s.pwr.boot ≠ .inReset → s.causePresent Code.pgFault = false →
        ∃ t : State, exec (.pgLoss k) s = .next t ∧ t.pwr.lastRail = k.val ∧ t.pwr.boot = s.pwr.boot ∧
          ∃ r ∈ t.flt.asserted, r.code = Code.pgFault)) ∧
    (s.pwr.boot = .inReset → s.pwr.seqNext ≤ 4 → s.pwr.hotDown = false → s.pastWall s.pwr.seqFrom 0 = true →
      (s.fld Reg.pwrReset 8 3 = ResetCause.holdEnd.code → s.pwr.vinok = true) →
      ∃ t : State, exec .seqEnableStep s = .next t ∧ t.pwr.seqNext = s.pwr.seqNext + 1 ∧ t.pwr.enabled = 2 ^ (s.pwr.seqNext + 1) - 1 ∧
        t = { s with pwr := t.pwr }) ∧
    (s.pwr.boot = .inReset → 1 ≤ s.pwr.seqNext → s.pwr.seqNext ≤ 5 → s.pwr.good ≠ 31 → s.pastWall s.pwr.seqFrom (usTicks 9800) = true →
      ∃ t : State, exec .seqPgTimeout s = .next t ∧ t.pwr.enabled = 0 ∧ t.pwr.seqNext = 6 ∧ t.pwr.lastRail = s.pwr.seqNext - 1 ∧
        t.pwr.retries = satAdd 16 s.pwr.retries 1 ∧ t = { s with pwr := t.pwr }) ∧
    (s.pwr.seqNext = 6 → s.pastWall s.pwr.seqFrom 0 = true → exec .seqRetry s = .next { s with pwr := { s.pwr with seqNext := 0 } }) ∧
    (∀ chainId bootSel hostSel, s.pwr.boot = .inReset → s.pwr.seqNext = 5 → s.pwr.hotDown = false → s.bist.full ≠ .running →
      ∃ t : State, exec (.resetRelease chainId bootSel hostSel) s = .next t ∧ t.pwr.boot = .booting ∧ t.pwr.boots = s.pwr.boots + 1 ∧
        t.chain.pos = chainId.val ∧ t.fld Reg.pwrReset 0 3 = chainId.val ∧ t.fld Reg.pwrReset 4 2 = bootSel.val ∧
        t.bit Reg.pwrReset 6 = hostSel) ∧
    (∀ o, s.pwr.boot = .booting → s.clk.running = true → s.clk.lost = false →
      let u := (s.readStores o).trainDram o.dramPages
      (s.lcs = 4 → ∃ t : State, exec (.runReady o) s = .next t ∧ t.pwr.boot = .halt ∧ t = { s with pwr := t.pwr }) ∧
      (s.lcs ≠ 4 → u.seedOnly = true → ∃ t : State, exec (.runReady o) s = .next t ∧ t.pwr.boot = .seed ∧ t.upd.run = 2) ∧
      (∀ n, s.lcs ≠ 4 → u.seedOnly = false → (u.chooseImage (u.fld Reg.pwrReset 4 2 == 1)).2 = some n →
        ∃ t : State, exec (.runReady o) s = .next t ∧ t.pwr.boot = .ready ∧ t.upd.run = n)))

/-- Clocks and die links (R22, R25, R28 to R34, R289, R391, R501): lock, loss and re-lock, the husk line's release, the clock window, the
other PLLs and clocks, and what a die link error does. -/
def Obligations.ClocksComplete : Prop :=
  ∀ (s : State),
    exec .pllaLockRetry s = .next s ∧
    (s.pwr.boot = .booting → s.clk.running = false →
      ∃ t : State, exec .pllaLock s = .next t ∧ t.clk = { s.clk with running := true, time := 0 } ∧ t.fld Reg.genClkstat 0 5 = 0x1F ∧
        t = { s with clk := t.clk, regs := t.regs }) ∧
    (∀ ref, s.clk.running = true → s.clk.lost = false →
      ∃ t : State, exec (.clkLoss ref) s = .next t ∧ t.clk.lost = true ∧ t.clk.running = false ∧ t.clk.huskLine = true ∧
        t.bit Reg.genClkstat 0 = false ∧ t.fio.drive = false ∧ t.bist.slice = none ∧
        ∃ r ∈ t.flt.asserted, r.code = Code.clkLoss) ∧
    (s.clk.lost = true →
      ∃ t : State, exec .pllaRelock s = .next t ∧ t.clk.lost = false ∧ t.clk.running = true ∧ t.clk.time = 0 ∧ t.clk.slew = 0 ∧
        t.clk.relockAt = s.clk.ticks ∧ t.clk.huskLine = s.clk.huskLine) ∧
    (∀ rails, s.clk.huskLine = true → s.clk.lost = false → s.past s.clk.relockAt (usTicks 1) = true →
      ∃ t : State, exec (.huskLineRelease rails) s = .next t ∧ t.clk.huskLine = false ∧ t.clk.time = s.clk.time) ∧
    (∀ edges, s.clk.running = true → s.clk.lost = false →
      ∃ t : State, exec (.clkWindowEnd edges) s = .next t ∧ t.fld Reg.genClkstat 8 8 = unsigned 8 (cclkDev edges) ∧
        (cclkDev edges).natAbs ≤ 127 ∧
        (204 < (edges - 40960) + (40960 - edges) → t.bit Reg.genClkstat 6 = true ∧ ∃ r ∈ t.flt.asserted, r.code = Code.clkDrift) ∧
        ((edges - 40960) + (40960 - edges) ≤ 204 → t.flt = s.flt)) ∧
    (s.clk.running = true → s.clk.lost = false → s.bit Reg.genClkstat 1 = true →
      ∃ t : State, exec .dramClk s = .next t ∧ t.bit Reg.genClkstat 1 = false ∧ (Code.dramClk, 0xFFFF) ∈ t.flt.causes ∧
        t = { s with regs := t.regs, flt := t.flt }) ∧
    (s.clk.lost = true → s.bit Reg.genClkstat 1 = true →
      ∃ t : State, exec .dramClk s = .next t ∧ t.bit Reg.genClkstat 1 = false ∧ t.clk.dramOut = true ∧ t.flt = s.flt) ∧
    (s.clk.lost = true → exec .pcieRefclkLoss s = .next (s.onClk (fun c => { c with pcieOut := true }))) ∧
    (s.clk.running = true → s.clk.lost = false →
      ∃ t : State, exec .pcieRefclkLoss s = .next t ∧ t.bit Reg.genClkstat 3 = false ∧
        (s.linkUp = true → t.linkUp = false ∧ ∃ r ∈ t.flt.asserted, r.code = Code.hostLink)) ∧
    (∀ (die : Fin 2) e, s.clk.running = true → s.clk.lost = false →
      ∃ t : State, exec (.dieLinkError die e) s = .next t ∧ (∃ r ∈ t.flt.asserted, r.code = Code.dieLink ∧ r.inst = die.val) ∧
        (t.die die).ownHusk = ((s.die die).ownHusk || decide (e = .control false ∧ 2 ≤ (s.die die).parity)) ∧
        (t.die (1 - die.val)).ownHusk = (s.die (1 - die.val)).ownHusk) ∧
    (∀ (die : Fin 2) good rails, s.clk.running = true → s.clk.lost = false → (s.die die).ownHusk = true → 64 ≤ good →
      ∃ t : State, exec (.dieResyncWord die good rails) s = .next t ∧ (t.die die).ownHusk = false ∧ t.clk = s.clk ∧
        (Code.dieLink, die.val) ∉ t.flt.causes)
end

