-- ==== Sys2Proof/Laws/Tab.lean ====
section
/-! SUPPORT. The laws of sparse tables: an index reads what was last written there, a write leaves every other index alone, and every
operation keeps the canonical form. -/

namespace Sys2Proof.Tab

variable {α : Type} (d : Nat → α) (t : Tab α)

theorem get_erase (k i : Nat) : get d (t.erase k) i = if i = k then d k else get d t i := by
  induction t with
  | nil => by_cases h : i = k <;> simp [erase, get, h]
  | cons e t ih =>
    obtain ⟨j, w⟩ := e
    by_cases hj : j = k
    · subst hj
      have : Tab.erase ((j, w) :: t) j = Tab.erase t j := by simp [erase]
      rw [this, ih]
      by_cases h : i = j
      · simp [h]
      · simp [h, get, Ne.symm h]
    · have : Tab.erase ((j, w) :: t) k = (j, w) :: Tab.erase t k := by simp [erase, hj]
      rw [this]
      simp only [get, ih]
      by_cases h : j = i
      · simp [h, h ▸ hj]
      · simp [h]

theorem get_enter (k i : Nat) (v : α) (h : ∀ e ∈ t, e.1 ≠ k) : get d (enter t k v) i = if i = k then v else get d t i := by
  induction t with
  | nil => by_cases hk : k = i <;> simp [enter, get, hk, eq_comm]
  | cons e t ih =>
    obtain ⟨j, w⟩ := e
    have hj : j ≠ k := h (j, w) (by simp)
    have ht : ∀ e ∈ t, e.1 ≠ k := fun e he => h e (by simp [he])
    unfold enter
    split
    · simp only [get, ih ht]
      by_cases hi : j = i
      · simp [hi, hi ▸ hj]
      · simp [hi]
    · simp only [get]
      by_cases hi : k = i
      · simp [hi]
      · simp [hi, Ne.symm hi]

theorem erase_ne (k : Nat) : ∀ e ∈ t.erase k, e.1 ≠ k := by
  intro e he
  simpa [erase] using (List.mem_filter.1 he).2

theorem erase_enter (k : Nat) (v : α) (h : ∀ e ∈ t, e.1 ≠ k) : (enter t k v).erase k = t := by
  induction t with
  | nil => simp [enter, erase]
  | cons e t ih =>
    obtain ⟨j, w⟩ := e
    have hj : j ≠ k := h (j, w) (by simp)
    have ht : ∀ e ∈ t, e.1 ≠ k := fun e he => h e (by simp [he])
    have hf : t.filter (fun e => e.1 != k) = t := List.filter_eq_self.2 (fun e he => by simpa using ht e he)
    unfold enter
    split
    · have := ih ht
      simp only [erase] at this
      simp [erase, hj, this]
    · simp [erase, hj, hf]

theorem erase_erase (k : Nat) : (t.erase k).erase k = t.erase k := by simp [erase]

variable [DecidableEq α]

/-- An index reads what was written there, and every other index what it read before. -/
theorem get_put (k i : Nat) (v : α) : get d (put d t k v) i = if i = k then v else get d t i := by
  unfold put
  split
  · next h => rw [get_erase, h]
  · rw [get_enter _ _ _ _ _ (erase_ne t k), get_erase]
    by_cases hi : i = k <;> simp [hi]

@[simp] theorem get_put_same (k : Nat) (v : α) : get d (put d t k v) k = v := by simp [get_put]

@[simp] theorem get_put_ne (k i : Nat) (v : α) (h : i ≠ k) : get d (put d t k v) i = get d t i := by simp [get_put, h]

/-- Of two writes to one index the last one stands. -/
@[simp] theorem put_put (k : Nat) (v w : α) : put d (put d t k v) k w = put d t k w := by
  have h : (put d t k v).erase k = t.erase k := by
    unfold put
    split
    · exact erase_erase t k
    · exact erase_enter _ k v (erase_ne t k)
  unfold put at h ⊢
  rw [h]

theorem wfFrom_le {lo lo' : Nat} (hl : lo' ≤ lo) (h : wfFrom d lo t = true) : wfFrom d lo' t = true := by
  cases t with
  | nil => rfl
  | cons e t =>
    obtain ⟨k, v⟩ := e
    simp only [wfFrom, Bool.and_eq_true, decide_eq_true_eq] at h ⊢
    exact ⟨⟨by omega, h.1.2⟩, h.2⟩

theorem wfFrom_erase (lo k : Nat) (h : wfFrom d lo t = true) : wfFrom d lo (t.erase k) = true := by
  induction t generalizing lo with
  | nil => rfl
  | cons e t ih =>
    obtain ⟨j, w⟩ := e
    simp only [wfFrom, Bool.and_eq_true, decide_eq_true_eq] at h
    by_cases hj : j = k
    · have : Tab.erase ((j, w) :: t) k = Tab.erase t k := by simp [erase, hj]
      rw [this]
      exact wfFrom_le d _ (by omega) (ih _ h.2)
    · have : Tab.erase ((j, w) :: t) k = (j, w) :: Tab.erase t k := by simp [erase, hj]
      rw [this]
      simp only [wfFrom, Bool.and_eq_true, decide_eq_true_eq]
      exact ⟨h.1, ih _ h.2⟩

theorem wfFrom_enter (lo k : Nat) (v : α) (hk : ∀ e ∈ t, e.1 ≠ k) (hv : v ≠ d k) (hl : lo ≤ k) (h : wfFrom d lo t = true) :
    wfFrom d lo (enter t k v) = true := by
  induction t generalizing lo with
  | nil => simp [enter, wfFrom, hv, hl]
  | cons e t ih =>
    obtain ⟨j, w⟩ := e
    have hj : j ≠ k := hk (j, w) (by simp)
    simp only [wfFrom, Bool.and_eq_true, decide_eq_true_eq] at h
    unfold enter
    split
    · simp only [wfFrom, Bool.and_eq_true, decide_eq_true_eq]
      exact ⟨h.1, ih _ (fun e he => hk e (by simp [he])) (by omega) h.2⟩
    · simp only [wfFrom, Bool.and_eq_true, decide_eq_true_eq]
      exact ⟨⟨hl, hv⟩, ⟨by omega, h.1.2⟩, h.2⟩

/-- A write keeps the canonical form. -/
theorem wf_put (k : Nat) (v : α) (h : wf d t = true) : wf d (put d t k v) = true := by
  unfold put
  split
  · exact wfFrom_erase d t 0 k h
  · next hv => exact wfFrom_enter d _ 0 k v (erase_ne t k) hv (Nat.zero_le _) (wfFrom_erase d t 0 k h)

end Sys2Proof.Tab
end

