-- ==== Sys2Proof/Laws/State.lean ====
section
/-! SUPPORT. One law for each part of the state and each update: what it changes, and that it changes nothing else. -/

namespace Sys2Proof.Machine

@[simp ↓] theorem State.onLamps_regs (s : State) (f : Lamps → Lamps) : (s.onLamps f).regs = s.regs := id rfl
@[simp ↓] theorem State.onLamps_live (s : State) (f : Lamps → Lamps) : (s.onLamps f).live = s.live := id rfl
@[simp ↓] theorem State.onLamps_lamps (s : State) (f : Lamps → Lamps) : (s.onLamps f).lamps = f s.lamps := id rfl
@[simp ↓] theorem State.onLamps_weir (s : State) (f : Lamps → Lamps) : (s.onLamps f).weir = s.weir := id rfl
@[simp ↓] theorem State.onLamps_chain (s : State) (f : Lamps → Lamps) : (s.onLamps f).chain = s.chain := id rfl
@[simp ↓] theorem State.onLamps_fab (s : State) (f : Lamps → Lamps) : (s.onLamps f).fab = s.fab := id rfl
@[simp ↓] theorem State.onLamps_host (s : State) (f : Lamps → Lamps) : (s.onLamps f).host = s.host := id rfl
@[simp ↓] theorem State.onLamps_fio (s : State) (f : Lamps → Lamps) : (s.onLamps f).fio = s.fio := id rfl
@[simp ↓] theorem State.onLamps_msr (s : State) (f : Lamps → Lamps) : (s.onLamps f).msr = s.msr := id rfl
@[simp ↓] theorem State.onLamps_flt (s : State) (f : Lamps → Lamps) : (s.onLamps f).flt = s.flt := id rfl
@[simp ↓] theorem State.onLamps_clk (s : State) (f : Lamps → Lamps) : (s.onLamps f).clk = s.clk := id rfl
@[simp ↓] theorem State.onLamps_pwr (s : State) (f : Lamps → Lamps) : (s.onLamps f).pwr = s.pwr := id rfl
@[simp ↓] theorem State.onLamps_bist (s : State) (f : Lamps → Lamps) : (s.onLamps f).bist = s.bist := id rfl
@[simp ↓] theorem State.onLamps_upd (s : State) (f : Lamps → Lamps) : (s.onLamps f).upd = s.upd := id rfl
@[simp ↓] theorem State.onLamps_otp (s : State) (f : Lamps → Lamps) : (s.onLamps f).otp = s.otp := id rfl
@[simp ↓] theorem State.onLamps_hostMem (s : State) (f : Lamps → Lamps) : (s.onLamps f).hostMem = s.hostMem := id rfl
@[simp ↓] theorem State.onLamps_free (s : State) (f : Lamps → Lamps) : (s.onLamps f).free = s.free := id rfl
@[simp ↓] theorem State.onLamps_pending (s : State) (f : Lamps → Lamps) : (s.onLamps f).pending = s.pending := id rfl
@[simp ↓] theorem State.onWeir_regs (s : State) (f : Weir → Weir) : (s.onWeir f).regs = s.regs := id rfl
@[simp ↓] theorem State.onWeir_live (s : State) (f : Weir → Weir) : (s.onWeir f).live = s.live := id rfl
@[simp ↓] theorem State.onWeir_lamps (s : State) (f : Weir → Weir) : (s.onWeir f).lamps = s.lamps := id rfl
@[simp ↓] theorem State.onWeir_weir (s : State) (f : Weir → Weir) : (s.onWeir f).weir = f s.weir := id rfl
@[simp ↓] theorem State.onWeir_chain (s : State) (f : Weir → Weir) : (s.onWeir f).chain = s.chain := id rfl
@[simp ↓] theorem State.onWeir_fab (s : State) (f : Weir → Weir) : (s.onWeir f).fab = s.fab := id rfl
@[simp ↓] theorem State.onWeir_host (s : State) (f : Weir → Weir) : (s.onWeir f).host = s.host := id rfl
@[simp ↓] theorem State.onWeir_fio (s : State) (f : Weir → Weir) : (s.onWeir f).fio = s.fio := id rfl
@[simp ↓] theorem State.onWeir_msr (s : State) (f : Weir → Weir) : (s.onWeir f).msr = s.msr := id rfl
@[simp ↓] theorem State.onWeir_flt (s : State) (f : Weir → Weir) : (s.onWeir f).flt = s.flt := id rfl
@[simp ↓] theorem State.onWeir_clk (s : State) (f : Weir → Weir) : (s.onWeir f).clk = s.clk := id rfl
@[simp ↓] theorem State.onWeir_pwr (s : State) (f : Weir → Weir) : (s.onWeir f).pwr = s.pwr := id rfl
@[simp ↓] theorem State.onWeir_bist (s : State) (f : Weir → Weir) : (s.onWeir f).bist = s.bist := id rfl
@[simp ↓] theorem State.onWeir_upd (s : State) (f : Weir → Weir) : (s.onWeir f).upd = s.upd := id rfl
@[simp ↓] theorem State.onWeir_otp (s : State) (f : Weir → Weir) : (s.onWeir f).otp = s.otp := id rfl
@[simp ↓] theorem State.onWeir_hostMem (s : State) (f : Weir → Weir) : (s.onWeir f).hostMem = s.hostMem := id rfl
@[simp ↓] theorem State.onWeir_free (s : State) (f : Weir → Weir) : (s.onWeir f).free = s.free := id rfl
@[simp ↓] theorem State.onWeir_pending (s : State) (f : Weir → Weir) : (s.onWeir f).pending = s.pending := id rfl
@[simp ↓] theorem State.onChain_regs (s : State) (f : Chain → Chain) : (s.onChain f).regs = s.regs := id rfl
@[simp ↓] theorem State.onChain_live (s : State) (f : Chain → Chain) : (s.onChain f).live = s.live := id rfl
@[simp ↓] theorem State.onChain_lamps (s : State) (f : Chain → Chain) : (s.onChain f).lamps = s.lamps := id rfl
@[simp ↓] theorem State.onChain_weir (s : State) (f : Chain → Chain) : (s.onChain f).weir = s.weir := id rfl
@[simp ↓] theorem State.onChain_chain (s : State) (f : Chain → Chain) : (s.onChain f).chain = f s.chain := id rfl
@[simp ↓] theorem State.onChain_fab (s : State) (f : Chain → Chain) : (s.onChain f).fab = s.fab := id rfl
@[simp ↓] theorem State.onChain_host (s : State) (f : Chain → Chain) : (s.onChain f).host = s.host := id rfl
@[simp ↓] theorem State.onChain_fio (s : State) (f : Chain → Chain) : (s.onChain f).fio = s.fio := id rfl
@[simp ↓] theorem State.onChain_msr (s : State) (f : Chain → Chain) : (s.onChain f).msr = s.msr := id rfl
@[simp ↓] theorem State.onChain_flt (s : State) (f : Chain → Chain) : (s.onChain f).flt = s.flt := id rfl
@[simp ↓] theorem State.onChain_clk (s : State) (f : Chain → Chain) : (s.onChain f).clk = s.clk := id rfl
@[simp ↓] theorem State.onChain_pwr (s : State) (f : Chain → Chain) : (s.onChain f).pwr = s.pwr := id rfl
@[simp ↓] theorem State.onChain_bist (s : State) (f : Chain → Chain) : (s.onChain f).bist = s.bist := id rfl
@[simp ↓] theorem State.onChain_upd (s : State) (f : Chain → Chain) : (s.onChain f).upd = s.upd := id rfl
@[simp ↓] theorem State.onChain_otp (s : State) (f : Chain → Chain) : (s.onChain f).otp = s.otp := id rfl
@[simp ↓] theorem State.onChain_hostMem (s : State) (f : Chain → Chain) : (s.onChain f).hostMem = s.hostMem := id rfl
@[simp ↓] theorem State.onChain_free (s : State) (f : Chain → Chain) : (s.onChain f).free = s.free := id rfl
@[simp ↓] theorem State.onChain_pending (s : State) (f : Chain → Chain) : (s.onChain f).pending = s.pending := id rfl
@[simp ↓] theorem State.onFab_regs (s : State) (f : Fabric → Fabric) : (s.onFab f).regs = s.regs := id rfl
@[simp ↓] theorem State.onFab_live (s : State) (f : Fabric → Fabric) : (s.onFab f).live = s.live := id rfl
@[simp ↓] theorem State.onFab_lamps (s : State) (f : Fabric → Fabric) : (s.onFab f).lamps = s.lamps := id rfl
@[simp ↓] theorem State.onFab_weir (s : State) (f : Fabric → Fabric) : (s.onFab f).weir = s.weir := id rfl
@[simp ↓] theorem State.onFab_chain (s : State) (f : Fabric → Fabric) : (s.onFab f).chain = s.chain := id rfl
@[simp ↓] theorem State.onFab_fab (s : State) (f : Fabric → Fabric) : (s.onFab f).fab = f s.fab := id rfl
@[simp ↓] theorem State.onFab_host (s : State) (f : Fabric → Fabric) : (s.onFab f).host = s.host := id rfl
@[simp ↓] theorem State.onFab_fio (s : State) (f : Fabric → Fabric) : (s.onFab f).fio = s.fio := id rfl
@[simp ↓] theorem State.onFab_msr (s : State) (f : Fabric → Fabric) : (s.onFab f).msr = s.msr := id rfl
@[simp ↓] theorem State.onFab_flt (s : State) (f : Fabric → Fabric) : (s.onFab f).flt = s.flt := id rfl
@[simp ↓] theorem State.onFab_clk (s : State) (f : Fabric → Fabric) : (s.onFab f).clk = s.clk := id rfl
@[simp ↓] theorem State.onFab_pwr (s : State) (f : Fabric → Fabric) : (s.onFab f).pwr = s.pwr := id rfl
@[simp ↓] theorem State.onFab_bist (s : State) (f : Fabric → Fabric) : (s.onFab f).bist = s.bist := id rfl
@[simp ↓] theorem State.onFab_upd (s : State) (f : Fabric → Fabric) : (s.onFab f).upd = s.upd := id rfl
@[simp ↓] theorem State.onFab_otp (s : State) (f : Fabric → Fabric) : (s.onFab f).otp = s.otp := id rfl
@[simp ↓] theorem State.onFab_hostMem (s : State) (f : Fabric → Fabric) : (s.onFab f).hostMem = s.hostMem := id rfl
@[simp ↓] theorem State.onFab_free (s : State) (f : Fabric → Fabric) : (s.onFab f).free = s.free := id rfl
@[simp ↓] theorem State.onFab_pending (s : State) (f : Fabric → Fabric) : (s.onFab f).pending = s.pending := id rfl
@[simp ↓] theorem State.onHost_regs (s : State) (f : HostIf → HostIf) : (s.onHost f).regs = s.regs := id rfl
@[simp ↓] theorem State.onHost_live (s : State) (f : HostIf → HostIf) : (s.onHost f).live = s.live := id rfl
@[simp ↓] theorem State.onHost_lamps (s : State) (f : HostIf → HostIf) : (s.onHost f).lamps = s.lamps := id rfl
@[simp ↓] theorem State.onHost_weir (s : State) (f : HostIf → HostIf) : (s.onHost f).weir = s.weir := id rfl
@[simp ↓] theorem State.onHost_chain (s : State) (f : HostIf → HostIf) : (s.onHost f).chain = s.chain := id rfl
@[simp ↓] theorem State.onHost_fab (s : State) (f : HostIf → HostIf) : (s.onHost f).fab = s.fab := id rfl
@[simp ↓] theorem State.onHost_host (s : State) (f : HostIf → HostIf) : (s.onHost f).host = f s.host := id rfl
@[simp ↓] theorem State.onHost_fio (s : State) (f : HostIf → HostIf) : (s.onHost f).fio = s.fio := id rfl
@[simp ↓] theorem State.onHost_msr (s : State) (f : HostIf → HostIf) : (s.onHost f).msr = s.msr := id rfl
@[simp ↓] theorem State.onHost_flt (s : State) (f : HostIf → HostIf) : (s.onHost f).flt = s.flt := id rfl
@[simp ↓] theorem State.onHost_clk (s : State) (f : HostIf → HostIf) : (s.onHost f).clk = s.clk := id rfl
@[simp ↓] theorem State.onHost_pwr (s : State) (f : HostIf → HostIf) : (s.onHost f).pwr = s.pwr := id rfl
@[simp ↓] theorem State.onHost_bist (s : State) (f : HostIf → HostIf) : (s.onHost f).bist = s.bist := id rfl
@[simp ↓] theorem State.onHost_upd (s : State) (f : HostIf → HostIf) : (s.onHost f).upd = s.upd := id rfl
@[simp ↓] theorem State.onHost_otp (s : State) (f : HostIf → HostIf) : (s.onHost f).otp = s.otp := id rfl
@[simp ↓] theorem State.onHost_hostMem (s : State) (f : HostIf → HostIf) : (s.onHost f).hostMem = s.hostMem := id rfl
@[simp ↓] theorem State.onHost_free (s : State) (f : HostIf → HostIf) : (s.onHost f).free = s.free := id rfl
@[simp ↓] theorem State.onHost_pending (s : State) (f : HostIf → HostIf) : (s.onHost f).pending = s.pending := id rfl
@[simp ↓] theorem State.onFlt_regs (s : State) (f : Collector → Collector) : (s.onFlt f).regs = s.regs := id rfl
@[simp ↓] theorem State.onFlt_live (s : State) (f : Collector → Collector) : (s.onFlt f).live = s.live := id rfl
@[simp ↓] theorem State.onFlt_lamps (s : State) (f : Collector → Collector) : (s.onFlt f).lamps = s.lamps := id rfl
@[simp ↓] theorem State.onFlt_weir (s : State) (f : Collector → Collector) : (s.onFlt f).weir = s.weir := id rfl
@[simp ↓] theorem State.onFlt_chain (s : State) (f : Collector → Collector) : (s.onFlt f).chain = s.chain := id rfl
@[simp ↓] theorem State.onFlt_fab (s : State) (f : Collector → Collector) : (s.onFlt f).fab = s.fab := id rfl
@[simp ↓] theorem State.onFlt_host (s : State) (f : Collector → Collector) : (s.onFlt f).host = s.host := id rfl
@[simp ↓] theorem State.onFlt_fio (s : State) (f : Collector → Collector) : (s.onFlt f).fio = s.fio := id rfl
@[simp ↓] theorem State.onFlt_msr (s : State) (f : Collector → Collector) : (s.onFlt f).msr = s.msr := id rfl
@[simp ↓] theorem State.onFlt_flt (s : State) (f : Collector → Collector) : (s.onFlt f).flt = f s.flt := id rfl
@[simp ↓] theorem State.onFlt_clk (s : State) (f : Collector → Collector) : (s.onFlt f).clk = s.clk := id rfl
@[simp ↓] theorem State.onFlt_pwr (s : State) (f : Collector → Collector) : (s.onFlt f).pwr = s.pwr := id rfl
@[simp ↓] theorem State.onFlt_bist (s : State) (f : Collector → Collector) : (s.onFlt f).bist = s.bist := id rfl
@[simp ↓] theorem State.onFlt_upd (s : State) (f : Collector → Collector) : (s.onFlt f).upd = s.upd := id rfl
@[simp ↓] theorem State.onFlt_otp (s : State) (f : Collector → Collector) : (s.onFlt f).otp = s.otp := id rfl
@[simp ↓] theorem State.onFlt_hostMem (s : State) (f : Collector → Collector) : (s.onFlt f).hostMem = s.hostMem := id rfl
@[simp ↓] theorem State.onFlt_free (s : State) (f : Collector → Collector) : (s.onFlt f).free = s.free := id rfl
@[simp ↓] theorem State.onFlt_pending (s : State) (f : Collector → Collector) : (s.onFlt f).pending = s.pending := id rfl
@[simp ↓] theorem State.onClk_regs (s : State) (f : Clocks → Clocks) : (s.onClk f).regs = s.regs := id rfl
@[simp ↓] theorem State.onClk_live (s : State) (f : Clocks → Clocks) : (s.onClk f).live = s.live := id rfl
@[simp ↓] theorem State.onClk_lamps (s : State) (f : Clocks → Clocks) : (s.onClk f).lamps = s.lamps := id rfl
@[simp ↓] theorem State.onClk_weir (s : State) (f : Clocks → Clocks) : (s.onClk f).weir = s.weir := id rfl
@[simp ↓] theorem State.onClk_chain (s : State) (f : Clocks → Clocks) : (s.onClk f).chain = s.chain := id rfl
@[simp ↓] theorem State.onClk_fab (s : State) (f : Clocks → Clocks) : (s.onClk f).fab = s.fab := id rfl
@[simp ↓] theorem State.onClk_host (s : State) (f : Clocks → Clocks) : (s.onClk f).host = s.host := id rfl
@[simp ↓] theorem State.onClk_fio (s : State) (f : Clocks → Clocks) : (s.onClk f).fio = s.fio := id rfl
@[simp ↓] theorem State.onClk_msr (s : State) (f : Clocks → Clocks) : (s.onClk f).msr = s.msr := id rfl
@[simp ↓] theorem State.onClk_flt (s : State) (f : Clocks → Clocks) : (s.onClk f).flt = s.flt := id rfl
@[simp ↓] theorem State.onClk_clk (s : State) (f : Clocks → Clocks) : (s.onClk f).clk = f s.clk := id rfl
@[simp ↓] theorem State.onClk_pwr (s : State) (f : Clocks → Clocks) : (s.onClk f).pwr = s.pwr := id rfl
@[simp ↓] theorem State.onClk_bist (s : State) (f : Clocks → Clocks) : (s.onClk f).bist = s.bist := id rfl
@[simp ↓] theorem State.onClk_upd (s : State) (f : Clocks → Clocks) : (s.onClk f).upd = s.upd := id rfl
@[simp ↓] theorem State.onClk_otp (s : State) (f : Clocks → Clocks) : (s.onClk f).otp = s.otp := id rfl
@[simp ↓] theorem State.onClk_hostMem (s : State) (f : Clocks → Clocks) : (s.onClk f).hostMem = s.hostMem := id rfl
@[simp ↓] theorem State.onClk_free (s : State) (f : Clocks → Clocks) : (s.onClk f).free = s.free := id rfl
@[simp ↓] theorem State.onClk_pending (s : State) (f : Clocks → Clocks) : (s.onClk f).pending = s.pending := id rfl
@[simp ↓] theorem State.onMsr_regs (s : State) (f : Measure → Measure) : (s.onMsr f).regs = s.regs := id rfl
@[simp ↓] theorem State.onMsr_live (s : State) (f : Measure → Measure) : (s.onMsr f).live = s.live := id rfl
@[simp ↓] theorem State.onMsr_lamps (s : State) (f : Measure → Measure) : (s.onMsr f).lamps = s.lamps := id rfl
@[simp ↓] theorem State.onMsr_weir (s : State) (f : Measure → Measure) : (s.onMsr f).weir = s.weir := id rfl
@[simp ↓] theorem State.onMsr_chain (s : State) (f : Measure → Measure) : (s.onMsr f).chain = s.chain := id rfl
@[simp ↓] theorem State.onMsr_fab (s : State) (f : Measure → Measure) : (s.onMsr f).fab = s.fab := id rfl
@[simp ↓] theorem State.onMsr_host (s : State) (f : Measure → Measure) : (s.onMsr f).host = s.host := id rfl
@[simp ↓] theorem State.onMsr_fio (s : State) (f : Measure → Measure) : (s.onMsr f).fio = s.fio := id rfl
@[simp ↓] theorem State.onMsr_msr (s : State) (f : Measure → Measure) : (s.onMsr f).msr = f s.msr := id rfl
@[simp ↓] theorem State.onMsr_flt (s : State) (f : Measure → Measure) : (s.onMsr f).flt = s.flt := id rfl
@[simp ↓] theorem State.onMsr_clk (s : State) (f : Measure → Measure) : (s.onMsr f).clk = s.clk := id rfl
@[simp ↓] theorem State.onMsr_pwr (s : State) (f : Measure → Measure) : (s.onMsr f).pwr = s.pwr := id rfl
@[simp ↓] theorem State.onMsr_bist (s : State) (f : Measure → Measure) : (s.onMsr f).bist = s.bist := id rfl
@[simp ↓] theorem State.onMsr_upd (s : State) (f : Measure → Measure) : (s.onMsr f).upd = s.upd := id rfl
@[simp ↓] theorem State.onMsr_otp (s : State) (f : Measure → Measure) : (s.onMsr f).otp = s.otp := id rfl
@[simp ↓] theorem State.onMsr_hostMem (s : State) (f : Measure → Measure) : (s.onMsr f).hostMem = s.hostMem := id rfl
@[simp ↓] theorem State.onMsr_free (s : State) (f : Measure → Measure) : (s.onMsr f).free = s.free := id rfl
@[simp ↓] theorem State.onMsr_pending (s : State) (f : Measure → Measure) : (s.onMsr f).pending = s.pending := id rfl
@[simp ↓] theorem State.onBist_regs (s : State) (f : Bist → Bist) : (s.onBist f).regs = s.regs := id rfl
@[simp ↓] theorem State.onBist_live (s : State) (f : Bist → Bist) : (s.onBist f).live = s.live := id rfl
@[simp ↓] theorem State.onBist_lamps (s : State) (f : Bist → Bist) : (s.onBist f).lamps = s.lamps := id rfl
@[simp ↓] theorem State.onBist_weir (s : State) (f : Bist → Bist) : (s.onBist f).weir = s.weir := id rfl
@[simp ↓] theorem State.onBist_chain (s : State) (f : Bist → Bist) : (s.onBist f).chain = s.chain := id rfl
@[simp ↓] theorem State.onBist_fab (s : State) (f : Bist → Bist) : (s.onBist f).fab = s.fab := id rfl
@[simp ↓] theorem State.onBist_host (s : State) (f : Bist → Bist) : (s.onBist f).host = s.host := id rfl
@[simp ↓] theorem State.onBist_fio (s : State) (f : Bist → Bist) : (s.onBist f).fio = s.fio := id rfl
@[simp ↓] theorem State.onBist_msr (s : State) (f : Bist → Bist) : (s.onBist f).msr = s.msr := id rfl
@[simp ↓] theorem State.onBist_flt (s : State) (f : Bist → Bist) : (s.onBist f).flt = s.flt := id rfl
@[simp ↓] theorem State.onBist_clk (s : State) (f : Bist → Bist) : (s.onBist f).clk = s.clk := id rfl
@[simp ↓] theorem State.onBist_pwr (s : State) (f : Bist → Bist) : (s.onBist f).pwr = s.pwr := id rfl
@[simp ↓] theorem State.onBist_bist (s : State) (f : Bist → Bist) : (s.onBist f).bist = f s.bist := id rfl
@[simp ↓] theorem State.onBist_upd (s : State) (f : Bist → Bist) : (s.onBist f).upd = s.upd := id rfl
@[simp ↓] theorem State.onBist_otp (s : State) (f : Bist → Bist) : (s.onBist f).otp = s.otp := id rfl
@[simp ↓] theorem State.onBist_hostMem (s : State) (f : Bist → Bist) : (s.onBist f).hostMem = s.hostMem := id rfl
@[simp ↓] theorem State.onBist_free (s : State) (f : Bist → Bist) : (s.onBist f).free = s.free := id rfl
@[simp ↓] theorem State.onBist_pending (s : State) (f : Bist → Bist) : (s.onBist f).pending = s.pending := id rfl
@[simp ↓] theorem State.onUpd_regs (s : State) (f : Update → Update) : (s.onUpd f).regs = s.regs := id rfl
@[simp ↓] theorem State.onUpd_live (s : State) (f : Update → Update) : (s.onUpd f).live = s.live := id rfl
@[simp ↓] theorem State.onUpd_lamps (s : State) (f : Update → Update) : (s.onUpd f).lamps = s.lamps := id rfl
@[simp ↓] theorem State.onUpd_weir (s : State) (f : Update → Update) : (s.onUpd f).weir = s.weir := id rfl
@[simp ↓] theorem State.onUpd_chain (s : State) (f : Update → Update) : (s.onUpd f).chain = s.chain := id rfl
@[simp ↓] theorem State.onUpd_fab (s : State) (f : Update → Update) : (s.onUpd f).fab = s.fab := id rfl
@[simp ↓] theorem State.onUpd_host (s : State) (f : Update → Update) : (s.onUpd f).host = s.host := id rfl
@[simp ↓] theorem State.onUpd_fio (s : State) (f : Update → Update) : (s.onUpd f).fio = s.fio := id rfl
@[simp ↓] theorem State.onUpd_msr (s : State) (f : Update → Update) : (s.onUpd f).msr = s.msr := id rfl
@[simp ↓] theorem State.onUpd_flt (s : State) (f : Update → Update) : (s.onUpd f).flt = s.flt := id rfl
@[simp ↓] theorem State.onUpd_clk (s : State) (f : Update → Update) : (s.onUpd f).clk = s.clk := id rfl
@[simp ↓] theorem State.onUpd_pwr (s : State) (f : Update → Update) : (s.onUpd f).pwr = s.pwr := id rfl
@[simp ↓] theorem State.onUpd_bist (s : State) (f : Update → Update) : (s.onUpd f).bist = s.bist := id rfl
@[simp ↓] theorem State.onUpd_upd (s : State) (f : Update → Update) : (s.onUpd f).upd = f s.upd := id rfl
@[simp ↓] theorem State.onUpd_otp (s : State) (f : Update → Update) : (s.onUpd f).otp = s.otp := id rfl
@[simp ↓] theorem State.onUpd_hostMem (s : State) (f : Update → Update) : (s.onUpd f).hostMem = s.hostMem := id rfl
@[simp ↓] theorem State.onUpd_free (s : State) (f : Update → Update) : (s.onUpd f).free = s.free := id rfl
@[simp ↓] theorem State.onUpd_pending (s : State) (f : Update → Update) : (s.onUpd f).pending = s.pending := id rfl
@[simp ↓] theorem State.onPwr_regs (s : State) (f : Power → Power) : (s.onPwr f).regs = s.regs := id rfl
@[simp ↓] theorem State.onPwr_live (s : State) (f : Power → Power) : (s.onPwr f).live = s.live := id rfl
@[simp ↓] theorem State.onPwr_lamps (s : State) (f : Power → Power) : (s.onPwr f).lamps = s.lamps := id rfl
@[simp ↓] theorem State.onPwr_weir (s : State) (f : Power → Power) : (s.onPwr f).weir = s.weir := id rfl
@[simp ↓] theorem State.onPwr_chain (s : State) (f : Power → Power) : (s.onPwr f).chain = s.chain := id rfl
@[simp ↓] theorem State.onPwr_fab (s : State) (f : Power → Power) : (s.onPwr f).fab = s.fab := id rfl
@[simp ↓] theorem State.onPwr_host (s : State) (f : Power → Power) : (s.onPwr f).host = s.host := id rfl
@[simp ↓] theorem State.onPwr_fio (s : State) (f : Power → Power) : (s.onPwr f).fio = s.fio := id rfl
@[simp ↓] theorem State.onPwr_msr (s : State) (f : Power → Power) : (s.onPwr f).msr = s.msr := id rfl
@[simp ↓] theorem State.onPwr_flt (s : State) (f : Power → Power) : (s.onPwr f).flt = s.flt := id rfl
@[simp ↓] theorem State.onPwr_clk (s : State) (f : Power → Power) : (s.onPwr f).clk = s.clk := id rfl
@[simp ↓] theorem State.onPwr_pwr (s : State) (f : Power → Power) : (s.onPwr f).pwr = f s.pwr := id rfl
@[simp ↓] theorem State.onPwr_bist (s : State) (f : Power → Power) : (s.onPwr f).bist = s.bist := id rfl
@[simp ↓] theorem State.onPwr_upd (s : State) (f : Power → Power) : (s.onPwr f).upd = s.upd := id rfl
@[simp ↓] theorem State.onPwr_otp (s : State) (f : Power → Power) : (s.onPwr f).otp = s.otp := id rfl
@[simp ↓] theorem State.onPwr_hostMem (s : State) (f : Power → Power) : (s.onPwr f).hostMem = s.hostMem := id rfl
@[simp ↓] theorem State.onPwr_free (s : State) (f : Power → Power) : (s.onPwr f).free = s.free := id rfl
@[simp ↓] theorem State.onPwr_pending (s : State) (f : Power → Power) : (s.onPwr f).pending = s.pending := id rfl
@[simp ↓] theorem State.onField_regs (s : State) (f : FieldIf → FieldIf) : (s.onField f).regs = s.regs := id rfl
@[simp ↓] theorem State.onField_live (s : State) (f : FieldIf → FieldIf) : (s.onField f).live = s.live := id rfl
@[simp ↓] theorem State.onField_lamps (s : State) (f : FieldIf → FieldIf) : (s.onField f).lamps = s.lamps := id rfl
@[simp ↓] theorem State.onField_weir (s : State) (f : FieldIf → FieldIf) : (s.onField f).weir = s.weir := id rfl
@[simp ↓] theorem State.onField_chain (s : State) (f : FieldIf → FieldIf) : (s.onField f).chain = s.chain := id rfl
@[simp ↓] theorem State.onField_fab (s : State) (f : FieldIf → FieldIf) : (s.onField f).fab = s.fab := id rfl
@[simp ↓] theorem State.onField_host (s : State) (f : FieldIf → FieldIf) : (s.onField f).host = s.host := id rfl
@[simp ↓] theorem State.onField_fio (s : State) (f : FieldIf → FieldIf) : (s.onField f).fio = f s.fio := id rfl
@[simp ↓] theorem State.onField_msr (s : State) (f : FieldIf → FieldIf) : (s.onField f).msr = s.msr := id rfl
@[simp ↓] theorem State.onField_flt (s : State) (f : FieldIf → FieldIf) : (s.onField f).flt = s.flt := id rfl
@[simp ↓] theorem State.onField_clk (s : State) (f : FieldIf → FieldIf) : (s.onField f).clk = s.clk := id rfl
@[simp ↓] theorem State.onField_pwr (s : State) (f : FieldIf → FieldIf) : (s.onField f).pwr = s.pwr := id rfl
@[simp ↓] theorem State.onField_bist (s : State) (f : FieldIf → FieldIf) : (s.onField f).bist = s.bist := id rfl
@[simp ↓] theorem State.onField_upd (s : State) (f : FieldIf → FieldIf) : (s.onField f).upd = s.upd := id rfl
@[simp ↓] theorem State.onField_otp (s : State) (f : FieldIf → FieldIf) : (s.onField f).otp = s.otp := id rfl
@[simp ↓] theorem State.onField_hostMem (s : State) (f : FieldIf → FieldIf) : (s.onField f).hostMem = s.hostMem := id rfl
@[simp ↓] theorem State.onField_free (s : State) (f : FieldIf → FieldIf) : (s.onField f).free = s.free := id rfl
@[simp ↓] theorem State.onField_pending (s : State) (f : FieldIf → FieldIf) : (s.onField f).pending = s.pending := id rfl
@[simp ↓] theorem State.setReg_live (s : State) (o : Nat) (v : Word) : (s.setReg o v).live = s.live := id rfl
@[simp ↓] theorem State.setReg_lamps (s : State) (o : Nat) (v : Word) : (s.setReg o v).lamps = s.lamps := id rfl
@[simp ↓] theorem State.setReg_weir (s : State) (o : Nat) (v : Word) : (s.setReg o v).weir = s.weir := id rfl
@[simp ↓] theorem State.setReg_chain (s : State) (o : Nat) (v : Word) : (s.setReg o v).chain = s.chain := id rfl
@[simp ↓] theorem State.setReg_fab (s : State) (o : Nat) (v : Word) : (s.setReg o v).fab = s.fab := id rfl
@[simp ↓] theorem State.setReg_host (s : State) (o : Nat) (v : Word) : (s.setReg o v).host = s.host := id rfl
@[simp ↓] theorem State.setReg_fio (s : State) (o : Nat) (v : Word) : (s.setReg o v).fio = s.fio := id rfl
@[simp ↓] theorem State.setReg_msr (s : State) (o : Nat) (v : Word) : (s.setReg o v).msr = s.msr := id rfl
@[simp ↓] theorem State.setReg_flt (s : State) (o : Nat) (v : Word) : (s.setReg o v).flt = s.flt := id rfl
@[simp ↓] theorem State.setReg_clk (s : State) (o : Nat) (v : Word) : (s.setReg o v).clk = s.clk := id rfl
@[simp ↓] theorem State.setReg_pwr (s : State) (o : Nat) (v : Word) : (s.setReg o v).pwr = s.pwr := id rfl
@[simp ↓] theorem State.setReg_bist (s : State) (o : Nat) (v : Word) : (s.setReg o v).bist = s.bist := id rfl
@[simp ↓] theorem State.setReg_upd (s : State) (o : Nat) (v : Word) : (s.setReg o v).upd = s.upd := id rfl
@[simp ↓] theorem State.setReg_otp (s : State) (o : Nat) (v : Word) : (s.setReg o v).otp = s.otp := id rfl
@[simp ↓] theorem State.setReg_hostMem (s : State) (o : Nat) (v : Word) : (s.setReg o v).hostMem = s.hostMem := id rfl
@[simp ↓] theorem State.setReg_free (s : State) (o : Nat) (v : Word) : (s.setReg o v).free = s.free := id rfl
@[simp ↓] theorem State.setReg_pending (s : State) (o : Nat) (v : Word) : (s.setReg o v).pending = s.pending := id rfl
@[simp ↓] theorem State.setFld_live (s : State) (o lo n v : Nat) : (s.setFld o lo n v).live = s.live := id rfl
@[simp ↓] theorem State.setFld_lamps (s : State) (o lo n v : Nat) : (s.setFld o lo n v).lamps = s.lamps := id rfl
@[simp ↓] theorem State.setFld_weir (s : State) (o lo n v : Nat) : (s.setFld o lo n v).weir = s.weir := id rfl
@[simp ↓] theorem State.setFld_chain (s : State) (o lo n v : Nat) : (s.setFld o lo n v).chain = s.chain := id rfl
@[simp ↓] theorem State.setFld_fab (s : State) (o lo n v : Nat) : (s.setFld o lo n v).fab = s.fab := id rfl
@[simp ↓] theorem State.setFld_host (s : State) (o lo n v : Nat) : (s.setFld o lo n v).host = s.host := id rfl
@[simp ↓] theorem State.setFld_fio (s : State) (o lo n v : Nat) : (s.setFld o lo n v).fio = s.fio := id rfl
@[simp ↓] theorem State.setFld_msr (s : State) (o lo n v : Nat) : (s.setFld o lo n v).msr = s.msr := id rfl
@[simp ↓] theorem State.setFld_flt (s : State) (o lo n v : Nat) : (s.setFld o lo n v).flt = s.flt := id rfl
@[simp ↓] theorem State.setFld_clk (s : State) (o lo n v : Nat) : (s.setFld o lo n v).clk = s.clk := id rfl
@[simp ↓] theorem State.setFld_pwr (s : State) (o lo n v : Nat) : (s.setFld o lo n v).pwr = s.pwr := id rfl
@[simp ↓] theorem State.setFld_bist (s : State) (o lo n v : Nat) : (s.setFld o lo n v).bist = s.bist := id rfl
@[simp ↓] theorem State.setFld_upd (s : State) (o lo n v : Nat) : (s.setFld o lo n v).upd = s.upd := id rfl
@[simp ↓] theorem State.setFld_otp (s : State) (o lo n v : Nat) : (s.setFld o lo n v).otp = s.otp := id rfl
@[simp ↓] theorem State.setFld_hostMem (s : State) (o lo n v : Nat) : (s.setFld o lo n v).hostMem = s.hostMem := id rfl
@[simp ↓] theorem State.setFld_free (s : State) (o lo n v : Nat) : (s.setFld o lo n v).free = s.free := id rfl
@[simp ↓] theorem State.setFld_pending (s : State) (o lo n v : Nat) : (s.setFld o lo n v).pending = s.pending := id rfl
@[simp ↓] theorem State.setBit_live (s : State) (o b : Nat) (v : Bool) : (s.setBit o b v).live = s.live := id rfl
@[simp ↓] theorem State.setBit_lamps (s : State) (o b : Nat) (v : Bool) : (s.setBit o b v).lamps = s.lamps := id rfl
@[simp ↓] theorem State.setBit_weir (s : State) (o b : Nat) (v : Bool) : (s.setBit o b v).weir = s.weir := id rfl
@[simp ↓] theorem State.setBit_chain (s : State) (o b : Nat) (v : Bool) : (s.setBit o b v).chain = s.chain := id rfl
@[simp ↓] theorem State.setBit_fab (s : State) (o b : Nat) (v : Bool) : (s.setBit o b v).fab = s.fab := id rfl
@[simp ↓] theorem State.setBit_host (s : State) (o b : Nat) (v : Bool) : (s.setBit o b v).host = s.host := id rfl
@[simp ↓] theorem State.setBit_fio (s : State) (o b : Nat) (v : Bool) : (s.setBit o b v).fio = s.fio := id rfl
@[simp ↓] theorem State.setBit_msr (s : State) (o b : Nat) (v : Bool) : (s.setBit o b v).msr = s.msr := id rfl
@[simp ↓] theorem State.setBit_flt (s : State) (o b : Nat) (v : Bool) : (s.setBit o b v).flt = s.flt := id rfl
@[simp ↓] theorem State.setBit_clk (s : State) (o b : Nat) (v : Bool) : (s.setBit o b v).clk = s.clk := id rfl
@[simp ↓] theorem State.setBit_pwr (s : State) (o b : Nat) (v : Bool) : (s.setBit o b v).pwr = s.pwr := id rfl
@[simp ↓] theorem State.setBit_bist (s : State) (o b : Nat) (v : Bool) : (s.setBit o b v).bist = s.bist := id rfl
@[simp ↓] theorem State.setBit_upd (s : State) (o b : Nat) (v : Bool) : (s.setBit o b v).upd = s.upd := id rfl
@[simp ↓] theorem State.setBit_otp (s : State) (o b : Nat) (v : Bool) : (s.setBit o b v).otp = s.otp := id rfl
@[simp ↓] theorem State.setBit_hostMem (s : State) (o b : Nat) (v : Bool) : (s.setBit o b v).hostMem = s.hostMem := id rfl
@[simp ↓] theorem State.setBit_free (s : State) (o b : Nat) (v : Bool) : (s.setBit o b v).free = s.free := id rfl
@[simp ↓] theorem State.setBit_pending (s : State) (o b : Nat) (v : Bool) : (s.setBit o b v).pending = s.pending := id rfl
@[simp ↓] theorem State.setLive_regs (s : State) (o : Nat) (v : Word) : (s.setLive o v).regs = s.regs := id rfl
@[simp ↓] theorem State.setLive_lamps (s : State) (o : Nat) (v : Word) : (s.setLive o v).lamps = s.lamps := id rfl
@[simp ↓] theorem State.setLive_weir (s : State) (o : Nat) (v : Word) : (s.setLive o v).weir = s.weir := id rfl
@[simp ↓] theorem State.setLive_chain (s : State) (o : Nat) (v : Word) : (s.setLive o v).chain = s.chain := id rfl
@[simp ↓] theorem State.setLive_fab (s : State) (o : Nat) (v : Word) : (s.setLive o v).fab = s.fab := id rfl
@[simp ↓] theorem State.setLive_host (s : State) (o : Nat) (v : Word) : (s.setLive o v).host = s.host := id rfl
@[simp ↓] theorem State.setLive_fio (s : State) (o : Nat) (v : Word) : (s.setLive o v).fio = s.fio := id rfl
@[simp ↓] theorem State.setLive_msr (s : State) (o : Nat) (v : Word) : (s.setLive o v).msr = s.msr := id rfl
@[simp ↓] theorem State.setLive_flt (s : State) (o : Nat) (v : Word) : (s.setLive o v).flt = s.flt := id rfl
@[simp ↓] theorem State.setLive_clk (s : State) (o : Nat) (v : Word) : (s.setLive o v).clk = s.clk := id rfl
@[simp ↓] theorem State.setLive_pwr (s : State) (o : Nat) (v : Word) : (s.setLive o v).pwr = s.pwr := id rfl
@[simp ↓] theorem State.setLive_bist (s : State) (o : Nat) (v : Word) : (s.setLive o v).bist = s.bist := id rfl
@[simp ↓] theorem State.setLive_upd (s : State) (o : Nat) (v : Word) : (s.setLive o v).upd = s.upd := id rfl
@[simp ↓] theorem State.setLive_otp (s : State) (o : Nat) (v : Word) : (s.setLive o v).otp = s.otp := id rfl
@[simp ↓] theorem State.setLive_hostMem (s : State) (o : Nat) (v : Word) : (s.setLive o v).hostMem = s.hostMem := id rfl
@[simp ↓] theorem State.setLive_free (s : State) (o : Nat) (v : Word) : (s.setLive o v).free = s.free := id rfl
@[simp ↓] theorem State.setLive_pending (s : State) (o : Nat) (v : Word) : (s.setLive o v).pending = s.pending := id rfl
@[simp ↓] theorem State.setHostByte_regs (s : State) (a : Nat) (b : Byte) : (s.setHostByte a b).regs = s.regs := id rfl
@[simp ↓] theorem State.setHostByte_live (s : State) (a : Nat) (b : Byte) : (s.setHostByte a b).live = s.live := id rfl
@[simp ↓] theorem State.setHostByte_lamps (s : State) (a : Nat) (b : Byte) : (s.setHostByte a b).lamps = s.lamps := id rfl
@[simp ↓] theorem State.setHostByte_weir (s : State) (a : Nat) (b : Byte) : (s.setHostByte a b).weir = s.weir := id rfl
@[simp ↓] theorem State.setHostByte_chain (s : State) (a : Nat) (b : Byte) : (s.setHostByte a b).chain = s.chain := id rfl
@[simp ↓] theorem State.setHostByte_fab (s : State) (a : Nat) (b : Byte) : (s.setHostByte a b).fab = s.fab := id rfl
@[simp ↓] theorem State.setHostByte_host (s : State) (a : Nat) (b : Byte) : (s.setHostByte a b).host = s.host := id rfl
@[simp ↓] theorem State.setHostByte_fio (s : State) (a : Nat) (b : Byte) : (s.setHostByte a b).fio = s.fio := id rfl
@[simp ↓] theorem State.setHostByte_msr (s : State) (a : Nat) (b : Byte) : (s.setHostByte a b).msr = s.msr := id rfl
@[simp ↓] theorem State.setHostByte_flt (s : State) (a : Nat) (b : Byte) : (s.setHostByte a b).flt = s.flt := id rfl
@[simp ↓] theorem State.setHostByte_clk (s : State) (a : Nat) (b : Byte) : (s.setHostByte a b).clk = s.clk := id rfl
@[simp ↓] theorem State.setHostByte_pwr (s : State) (a : Nat) (b : Byte) : (s.setHostByte a b).pwr = s.pwr := id rfl
@[simp ↓] theorem State.setHostByte_bist (s : State) (a : Nat) (b : Byte) : (s.setHostByte a b).bist = s.bist := id rfl
@[simp ↓] theorem State.setHostByte_upd (s : State) (a : Nat) (b : Byte) : (s.setHostByte a b).upd = s.upd := id rfl
@[simp ↓] theorem State.setHostByte_otp (s : State) (a : Nat) (b : Byte) : (s.setHostByte a b).otp = s.otp := id rfl
@[simp ↓] theorem State.setHostByte_free (s : State) (a : Nat) (b : Byte) : (s.setHostByte a b).free = s.free := id rfl
@[simp ↓] theorem State.setHostByte_pending (s : State) (a : Nat) (b : Byte) : (s.setHostByte a b).pending = s.pending := id rfl
@[simp ↓] theorem State.setStr_regs (s : State) (i : Nat) (v : Str) : (s.setStr i v).regs = s.regs := id rfl
@[simp ↓] theorem State.setStr_live (s : State) (i : Nat) (v : Str) : (s.setStr i v).live = s.live := id rfl
@[simp ↓] theorem State.setStr_weir (s : State) (i : Nat) (v : Str) : (s.setStr i v).weir = s.weir := id rfl
@[simp ↓] theorem State.setStr_chain (s : State) (i : Nat) (v : Str) : (s.setStr i v).chain = s.chain := id rfl
@[simp ↓] theorem State.setStr_fab (s : State) (i : Nat) (v : Str) : (s.setStr i v).fab = s.fab := id rfl
@[simp ↓] theorem State.setStr_host (s : State) (i : Nat) (v : Str) : (s.setStr i v).host = s.host := id rfl
@[simp ↓] theorem State.setStr_fio (s : State) (i : Nat) (v : Str) : (s.setStr i v).fio = s.fio := id rfl
@[simp ↓] theorem State.setStr_msr (s : State) (i : Nat) (v : Str) : (s.setStr i v).msr = s.msr := id rfl
@[simp ↓] theorem State.setStr_flt (s : State) (i : Nat) (v : Str) : (s.setStr i v).flt = s.flt := id rfl
@[simp ↓] theorem State.setStr_clk (s : State) (i : Nat) (v : Str) : (s.setStr i v).clk = s.clk := id rfl
@[simp ↓] theorem State.setStr_pwr (s : State) (i : Nat) (v : Str) : (s.setStr i v).pwr = s.pwr := id rfl
@[simp ↓] theorem State.setStr_bist (s : State) (i : Nat) (v : Str) : (s.setStr i v).bist = s.bist := id rfl
@[simp ↓] theorem State.setStr_upd (s : State) (i : Nat) (v : Str) : (s.setStr i v).upd = s.upd := id rfl
@[simp ↓] theorem State.setStr_otp (s : State) (i : Nat) (v : Str) : (s.setStr i v).otp = s.otp := id rfl
@[simp ↓] theorem State.setStr_hostMem (s : State) (i : Nat) (v : Str) : (s.setStr i v).hostMem = s.hostMem := id rfl
@[simp ↓] theorem State.setStr_free (s : State) (i : Nat) (v : Str) : (s.setStr i v).free = s.free := id rfl
@[simp ↓] theorem State.setStr_pending (s : State) (i : Nat) (v : Str) : (s.setStr i v).pending = s.pending := id rfl
@[simp ↓] theorem State.setGroup_regs (s : State) (i : Nat) (v : Group) : (s.setGroup i v).regs = s.regs := id rfl
@[simp ↓] theorem State.setGroup_live (s : State) (i : Nat) (v : Group) : (s.setGroup i v).live = s.live := id rfl
@[simp ↓] theorem State.setGroup_weir (s : State) (i : Nat) (v : Group) : (s.setGroup i v).weir = s.weir := id rfl
@[simp ↓] theorem State.setGroup_chain (s : State) (i : Nat) (v : Group) : (s.setGroup i v).chain = s.chain := id rfl
@[simp ↓] theorem State.setGroup_fab (s : State) (i : Nat) (v : Group) : (s.setGroup i v).fab = s.fab := id rfl
@[simp ↓] theorem State.setGroup_host (s : State) (i : Nat) (v : Group) : (s.setGroup i v).host = s.host := id rfl
@[simp ↓] theorem State.setGroup_fio (s : State) (i : Nat) (v : Group) : (s.setGroup i v).fio = s.fio := id rfl
@[simp ↓] theorem State.setGroup_msr (s : State) (i : Nat) (v : Group) : (s.setGroup i v).msr = s.msr := id rfl
@[simp ↓] theorem State.setGroup_flt (s : State) (i : Nat) (v : Group) : (s.setGroup i v).flt = s.flt := id rfl
@[simp ↓] theorem State.setGroup_clk (s : State) (i : Nat) (v : Group) : (s.setGroup i v).clk = s.clk := id rfl
@[simp ↓] theorem State.setGroup_pwr (s : State) (i : Nat) (v : Group) : (s.setGroup i v).pwr = s.pwr := id rfl
@[simp ↓] theorem State.setGroup_bist (s : State) (i : Nat) (v : Group) : (s.setGroup i v).bist = s.bist := id rfl
@[simp ↓] theorem State.setGroup_upd (s : State) (i : Nat) (v : Group) : (s.setGroup i v).upd = s.upd := id rfl
@[simp ↓] theorem State.setGroup_otp (s : State) (i : Nat) (v : Group) : (s.setGroup i v).otp = s.otp := id rfl
@[simp ↓] theorem State.setGroup_hostMem (s : State) (i : Nat) (v : Group) : (s.setGroup i v).hostMem = s.hostMem := id rfl
@[simp ↓] theorem State.setGroup_free (s : State) (i : Nat) (v : Group) : (s.setGroup i v).free = s.free := id rfl
@[simp ↓] theorem State.setGroup_pending (s : State) (i : Nat) (v : Group) : (s.setGroup i v).pending = s.pending := id rfl
@[simp ↓] theorem State.setStream_regs (s : State) (i : Nat) (v : Stream) : (s.setStream i v).regs = s.regs := id rfl
@[simp ↓] theorem State.setStream_live (s : State) (i : Nat) (v : Stream) : (s.setStream i v).live = s.live := id rfl
@[simp ↓] theorem State.setStream_weir (s : State) (i : Nat) (v : Stream) : (s.setStream i v).weir = s.weir := id rfl
@[simp ↓] theorem State.setStream_chain (s : State) (i : Nat) (v : Stream) : (s.setStream i v).chain = s.chain := id rfl
@[simp ↓] theorem State.setStream_fab (s : State) (i : Nat) (v : Stream) : (s.setStream i v).fab = s.fab := id rfl
@[simp ↓] theorem State.setStream_host (s : State) (i : Nat) (v : Stream) : (s.setStream i v).host = s.host := id rfl
@[simp ↓] theorem State.setStream_fio (s : State) (i : Nat) (v : Stream) : (s.setStream i v).fio = s.fio := id rfl
@[simp ↓] theorem State.setStream_msr (s : State) (i : Nat) (v : Stream) : (s.setStream i v).msr = s.msr := id rfl
@[simp ↓] theorem State.setStream_flt (s : State) (i : Nat) (v : Stream) : (s.setStream i v).flt = s.flt := id rfl
@[simp ↓] theorem State.setStream_clk (s : State) (i : Nat) (v : Stream) : (s.setStream i v).clk = s.clk := id rfl
@[simp ↓] theorem State.setStream_pwr (s : State) (i : Nat) (v : Stream) : (s.setStream i v).pwr = s.pwr := id rfl
@[simp ↓] theorem State.setStream_bist (s : State) (i : Nat) (v : Stream) : (s.setStream i v).bist = s.bist := id rfl
@[simp ↓] theorem State.setStream_upd (s : State) (i : Nat) (v : Stream) : (s.setStream i v).upd = s.upd := id rfl
@[simp ↓] theorem State.setStream_otp (s : State) (i : Nat) (v : Stream) : (s.setStream i v).otp = s.otp := id rfl
@[simp ↓] theorem State.setStream_hostMem (s : State) (i : Nat) (v : Stream) : (s.setStream i v).hostMem = s.hostMem := id rfl
@[simp ↓] theorem State.setStream_free (s : State) (i : Nat) (v : Stream) : (s.setStream i v).free = s.free := id rfl
@[simp ↓] theorem State.setStream_pending (s : State) (i : Nat) (v : Stream) : (s.setStream i v).pending = s.pending := id rfl
@[simp ↓] theorem State.setRet_regs (s : State) (i : Nat) (v : RetIn) : (s.setRet i v).regs = s.regs := id rfl
@[simp ↓] theorem State.setRet_live (s : State) (i : Nat) (v : RetIn) : (s.setRet i v).live = s.live := id rfl
@[simp ↓] theorem State.setRet_weir (s : State) (i : Nat) (v : RetIn) : (s.setRet i v).weir = s.weir := id rfl
@[simp ↓] theorem State.setRet_chain (s : State) (i : Nat) (v : RetIn) : (s.setRet i v).chain = s.chain := id rfl
@[simp ↓] theorem State.setRet_fab (s : State) (i : Nat) (v : RetIn) : (s.setRet i v).fab = s.fab := id rfl
@[simp ↓] theorem State.setRet_host (s : State) (i : Nat) (v : RetIn) : (s.setRet i v).host = s.host := id rfl
@[simp ↓] theorem State.setRet_fio (s : State) (i : Nat) (v : RetIn) : (s.setRet i v).fio = s.fio := id rfl
@[simp ↓] theorem State.setRet_msr (s : State) (i : Nat) (v : RetIn) : (s.setRet i v).msr = s.msr := id rfl
@[simp ↓] theorem State.setRet_flt (s : State) (i : Nat) (v : RetIn) : (s.setRet i v).flt = s.flt := id rfl
@[simp ↓] theorem State.setRet_clk (s : State) (i : Nat) (v : RetIn) : (s.setRet i v).clk = s.clk := id rfl
@[simp ↓] theorem State.setRet_pwr (s : State) (i : Nat) (v : RetIn) : (s.setRet i v).pwr = s.pwr := id rfl
@[simp ↓] theorem State.setRet_bist (s : State) (i : Nat) (v : RetIn) : (s.setRet i v).bist = s.bist := id rfl
@[simp ↓] theorem State.setRet_upd (s : State) (i : Nat) (v : RetIn) : (s.setRet i v).upd = s.upd := id rfl
@[simp ↓] theorem State.setRet_otp (s : State) (i : Nat) (v : RetIn) : (s.setRet i v).otp = s.otp := id rfl
@[simp ↓] theorem State.setRet_hostMem (s : State) (i : Nat) (v : RetIn) : (s.setRet i v).hostMem = s.hostMem := id rfl
@[simp ↓] theorem State.setRet_free (s : State) (i : Nat) (v : RetIn) : (s.setRet i v).free = s.free := id rfl
@[simp ↓] theorem State.setRet_pending (s : State) (i : Nat) (v : RetIn) : (s.setRet i v).pending = s.pending := id rfl
@[simp ↓] theorem State.setPrv_regs (s : State) (i : Nat) (v : Prove) : (s.setPrv i v).regs = s.regs := id rfl
@[simp ↓] theorem State.setPrv_live (s : State) (i : Nat) (v : Prove) : (s.setPrv i v).live = s.live := id rfl
@[simp ↓] theorem State.setPrv_weir (s : State) (i : Nat) (v : Prove) : (s.setPrv i v).weir = s.weir := id rfl
@[simp ↓] theorem State.setPrv_chain (s : State) (i : Nat) (v : Prove) : (s.setPrv i v).chain = s.chain := id rfl
@[simp ↓] theorem State.setPrv_fab (s : State) (i : Nat) (v : Prove) : (s.setPrv i v).fab = s.fab := id rfl
@[simp ↓] theorem State.setPrv_host (s : State) (i : Nat) (v : Prove) : (s.setPrv i v).host = s.host := id rfl
@[simp ↓] theorem State.setPrv_fio (s : State) (i : Nat) (v : Prove) : (s.setPrv i v).fio = s.fio := id rfl
@[simp ↓] theorem State.setPrv_msr (s : State) (i : Nat) (v : Prove) : (s.setPrv i v).msr = s.msr := id rfl
@[simp ↓] theorem State.setPrv_flt (s : State) (i : Nat) (v : Prove) : (s.setPrv i v).flt = s.flt := id rfl
@[simp ↓] theorem State.setPrv_clk (s : State) (i : Nat) (v : Prove) : (s.setPrv i v).clk = s.clk := id rfl
@[simp ↓] theorem State.setPrv_pwr (s : State) (i : Nat) (v : Prove) : (s.setPrv i v).pwr = s.pwr := id rfl
@[simp ↓] theorem State.setPrv_bist (s : State) (i : Nat) (v : Prove) : (s.setPrv i v).bist = s.bist := id rfl
@[simp ↓] theorem State.setPrv_upd (s : State) (i : Nat) (v : Prove) : (s.setPrv i v).upd = s.upd := id rfl
@[simp ↓] theorem State.setPrv_otp (s : State) (i : Nat) (v : Prove) : (s.setPrv i v).otp = s.otp := id rfl
@[simp ↓] theorem State.setPrv_hostMem (s : State) (i : Nat) (v : Prove) : (s.setPrv i v).hostMem = s.hostMem := id rfl
@[simp ↓] theorem State.setPrv_free (s : State) (i : Nat) (v : Prove) : (s.setPrv i v).free = s.free := id rfl
@[simp ↓] theorem State.setPrv_pending (s : State) (i : Nat) (v : Prove) : (s.setPrv i v).pending = s.pending := id rfl
@[simp ↓] theorem State.setSmt_regs (s : State) (i : Nat) (v : Smt) : (s.setSmt i v).regs = s.regs := id rfl
@[simp ↓] theorem State.setSmt_live (s : State) (i : Nat) (v : Smt) : (s.setSmt i v).live = s.live := id rfl
@[simp ↓] theorem State.setSmt_lamps (s : State) (i : Nat) (v : Smt) : (s.setSmt i v).lamps = s.lamps := id rfl
@[simp ↓] theorem State.setSmt_chain (s : State) (i : Nat) (v : Smt) : (s.setSmt i v).chain = s.chain := id rfl
@[simp ↓] theorem State.setSmt_fab (s : State) (i : Nat) (v : Smt) : (s.setSmt i v).fab = s.fab := id rfl
@[simp ↓] theorem State.setSmt_host (s : State) (i : Nat) (v : Smt) : (s.setSmt i v).host = s.host := id rfl
@[simp ↓] theorem State.setSmt_fio (s : State) (i : Nat) (v : Smt) : (s.setSmt i v).fio = s.fio := id rfl
@[simp ↓] theorem State.setSmt_msr (s : State) (i : Nat) (v : Smt) : (s.setSmt i v).msr = s.msr := id rfl
@[simp ↓] theorem State.setSmt_flt (s : State) (i : Nat) (v : Smt) : (s.setSmt i v).flt = s.flt := id rfl
@[simp ↓] theorem State.setSmt_clk (s : State) (i : Nat) (v : Smt) : (s.setSmt i v).clk = s.clk := id rfl
@[simp ↓] theorem State.setSmt_pwr (s : State) (i : Nat) (v : Smt) : (s.setSmt i v).pwr = s.pwr := id rfl
@[simp ↓] theorem State.setSmt_bist (s : State) (i : Nat) (v : Smt) : (s.setSmt i v).bist = s.bist := id rfl
@[simp ↓] theorem State.setSmt_upd (s : State) (i : Nat) (v : Smt) : (s.setSmt i v).upd = s.upd := id rfl
@[simp ↓] theorem State.setSmt_otp (s : State) (i : Nat) (v : Smt) : (s.setSmt i v).otp = s.otp := id rfl
@[simp ↓] theorem State.setSmt_hostMem (s : State) (i : Nat) (v : Smt) : (s.setSmt i v).hostMem = s.hostMem := id rfl
@[simp ↓] theorem State.setSmt_free (s : State) (i : Nat) (v : Smt) : (s.setSmt i v).free = s.free := id rfl
@[simp ↓] theorem State.setSmt_pending (s : State) (i : Nat) (v : Smt) : (s.setSmt i v).pending = s.pending := id rfl
@[simp ↓] theorem State.setArm_regs (s : State) (i : Nat) (v : Arm) : (s.setArm i v).regs = s.regs := id rfl
@[simp ↓] theorem State.setArm_live (s : State) (i : Nat) (v : Arm) : (s.setArm i v).live = s.live := id rfl
@[simp ↓] theorem State.setArm_lamps (s : State) (i : Nat) (v : Arm) : (s.setArm i v).lamps = s.lamps := id rfl
@[simp ↓] theorem State.setArm_chain (s : State) (i : Nat) (v : Arm) : (s.setArm i v).chain = s.chain := id rfl
@[simp ↓] theorem State.setArm_fab (s : State) (i : Nat) (v : Arm) : (s.setArm i v).fab = s.fab := id rfl
@[simp ↓] theorem State.setArm_host (s : State) (i : Nat) (v : Arm) : (s.setArm i v).host = s.host := id rfl
@[simp ↓] theorem State.setArm_fio (s : State) (i : Nat) (v : Arm) : (s.setArm i v).fio = s.fio := id rfl
@[simp ↓] theorem State.setArm_msr (s : State) (i : Nat) (v : Arm) : (s.setArm i v).msr = s.msr := id rfl
@[simp ↓] theorem State.setArm_flt (s : State) (i : Nat) (v : Arm) : (s.setArm i v).flt = s.flt := id rfl
@[simp ↓] theorem State.setArm_clk (s : State) (i : Nat) (v : Arm) : (s.setArm i v).clk = s.clk := id rfl
@[simp ↓] theorem State.setArm_pwr (s : State) (i : Nat) (v : Arm) : (s.setArm i v).pwr = s.pwr := id rfl
@[simp ↓] theorem State.setArm_bist (s : State) (i : Nat) (v : Arm) : (s.setArm i v).bist = s.bist := id rfl
@[simp ↓] theorem State.setArm_upd (s : State) (i : Nat) (v : Arm) : (s.setArm i v).upd = s.upd := id rfl
@[simp ↓] theorem State.setArm_otp (s : State) (i : Nat) (v : Arm) : (s.setArm i v).otp = s.otp := id rfl
@[simp ↓] theorem State.setArm_hostMem (s : State) (i : Nat) (v : Arm) : (s.setArm i v).hostMem = s.hostMem := id rfl
@[simp ↓] theorem State.setArm_free (s : State) (i : Nat) (v : Arm) : (s.setArm i v).free = s.free := id rfl
@[simp ↓] theorem State.setArm_pending (s : State) (i : Nat) (v : Arm) : (s.setArm i v).pending = s.pending := id rfl
@[simp ↓] theorem State.setUnit_regs (s : State) (i : Nat) (v : ArmUnit) : (s.setUnit i v).regs = s.regs := id rfl
@[simp ↓] theorem State.setUnit_live (s : State) (i : Nat) (v : ArmUnit) : (s.setUnit i v).live = s.live := id rfl
@[simp ↓] theorem State.setUnit_lamps (s : State) (i : Nat) (v : ArmUnit) : (s.setUnit i v).lamps = s.lamps := id rfl
@[simp ↓] theorem State.setUnit_chain (s : State) (i : Nat) (v : ArmUnit) : (s.setUnit i v).chain = s.chain := id rfl
@[simp ↓] theorem State.setUnit_fab (s : State) (i : Nat) (v : ArmUnit) : (s.setUnit i v).fab = s.fab := id rfl
@[simp ↓] theorem State.setUnit_host (s : State) (i : Nat) (v : ArmUnit) : (s.setUnit i v).host = s.host := id rfl
@[simp ↓] theorem State.setUnit_fio (s : State) (i : Nat) (v : ArmUnit) : (s.setUnit i v).fio = s.fio := id rfl
@[simp ↓] theorem State.setUnit_msr (s : State) (i : Nat) (v : ArmUnit) : (s.setUnit i v).msr = s.msr := id rfl
@[simp ↓] theorem State.setUnit_flt (s : State) (i : Nat) (v : ArmUnit) : (s.setUnit i v).flt = s.flt := id rfl
@[simp ↓] theorem State.setUnit_clk (s : State) (i : Nat) (v : ArmUnit) : (s.setUnit i v).clk = s.clk := id rfl
@[simp ↓] theorem State.setUnit_pwr (s : State) (i : Nat) (v : ArmUnit) : (s.setUnit i v).pwr = s.pwr := id rfl
@[simp ↓] theorem State.setUnit_bist (s : State) (i : Nat) (v : ArmUnit) : (s.setUnit i v).bist = s.bist := id rfl
@[simp ↓] theorem State.setUnit_upd (s : State) (i : Nat) (v : ArmUnit) : (s.setUnit i v).upd = s.upd := id rfl
@[simp ↓] theorem State.setUnit_otp (s : State) (i : Nat) (v : ArmUnit) : (s.setUnit i v).otp = s.otp := id rfl
@[simp ↓] theorem State.setUnit_hostMem (s : State) (i : Nat) (v : ArmUnit) : (s.setUnit i v).hostMem = s.hostMem := id rfl
@[simp ↓] theorem State.setUnit_free (s : State) (i : Nat) (v : ArmUnit) : (s.setUnit i v).free = s.free := id rfl
@[simp ↓] theorem State.setUnit_pending (s : State) (i : Nat) (v : ArmUnit) : (s.setUnit i v).pending = s.pending := id rfl
@[simp ↓] theorem State.setEngine_regs (s : State) (i : Nat) (v : Engine) : (s.setEngine i v).regs = s.regs := id rfl
@[simp ↓] theorem State.setEngine_live (s : State) (i : Nat) (v : Engine) : (s.setEngine i v).live = s.live := id rfl
@[simp ↓] theorem State.setEngine_lamps (s : State) (i : Nat) (v : Engine) : (s.setEngine i v).lamps = s.lamps := id rfl
@[simp ↓] theorem State.setEngine_weir (s : State) (i : Nat) (v : Engine) : (s.setEngine i v).weir = s.weir := id rfl
@[simp ↓] theorem State.setEngine_chain (s : State) (i : Nat) (v : Engine) : (s.setEngine i v).chain = s.chain := id rfl
@[simp ↓] theorem State.setEngine_host (s : State) (i : Nat) (v : Engine) : (s.setEngine i v).host = s.host := id rfl
@[simp ↓] theorem State.setEngine_fio (s : State) (i : Nat) (v : Engine) : (s.setEngine i v).fio = s.fio := id rfl
@[simp ↓] theorem State.setEngine_msr (s : State) (i : Nat) (v : Engine) : (s.setEngine i v).msr = s.msr := id rfl
@[simp ↓] theorem State.setEngine_flt (s : State) (i : Nat) (v : Engine) : (s.setEngine i v).flt = s.flt := id rfl
@[simp ↓] theorem State.setEngine_clk (s : State) (i : Nat) (v : Engine) : (s.setEngine i v).clk = s.clk := id rfl
@[simp ↓] theorem State.setEngine_pwr (s : State) (i : Nat) (v : Engine) : (s.setEngine i v).pwr = s.pwr := id rfl
@[simp ↓] theorem State.setEngine_bist (s : State) (i : Nat) (v : Engine) : (s.setEngine i v).bist = s.bist := id rfl
@[simp ↓] theorem State.setEngine_upd (s : State) (i : Nat) (v : Engine) : (s.setEngine i v).upd = s.upd := id rfl
@[simp ↓] theorem State.setEngine_otp (s : State) (i : Nat) (v : Engine) : (s.setEngine i v).otp = s.otp := id rfl
@[simp ↓] theorem State.setEngine_hostMem (s : State) (i : Nat) (v : Engine) : (s.setEngine i v).hostMem = s.hostMem := id rfl
@[simp ↓] theorem State.setEngine_free (s : State) (i : Nat) (v : Engine) : (s.setEngine i v).free = s.free := id rfl
@[simp ↓] theorem State.setEngine_pending (s : State) (i : Nat) (v : Engine) : (s.setEngine i v).pending = s.pending := id rfl
@[simp ↓] theorem State.setEntry_regs (s : State) (i : Nat) (v : Entry) : (s.setEntry i v).regs = s.regs := id rfl
@[simp ↓] theorem State.setEntry_live (s : State) (i : Nat) (v : Entry) : (s.setEntry i v).live = s.live := id rfl
@[simp ↓] theorem State.setEntry_lamps (s : State) (i : Nat) (v : Entry) : (s.setEntry i v).lamps = s.lamps := id rfl
@[simp ↓] theorem State.setEntry_weir (s : State) (i : Nat) (v : Entry) : (s.setEntry i v).weir = s.weir := id rfl
@[simp ↓] theorem State.setEntry_chain (s : State) (i : Nat) (v : Entry) : (s.setEntry i v).chain = s.chain := id rfl
@[simp ↓] theorem State.setEntry_host (s : State) (i : Nat) (v : Entry) : (s.setEntry i v).host = s.host := id rfl
@[simp ↓] theorem State.setEntry_fio (s : State) (i : Nat) (v : Entry) : (s.setEntry i v).fio = s.fio := id rfl
@[simp ↓] theorem State.setEntry_msr (s : State) (i : Nat) (v : Entry) : (s.setEntry i v).msr = s.msr := id rfl
@[simp ↓] theorem State.setEntry_flt (s : State) (i : Nat) (v : Entry) : (s.setEntry i v).flt = s.flt := id rfl
@[simp ↓] theorem State.setEntry_clk (s : State) (i : Nat) (v : Entry) : (s.setEntry i v).clk = s.clk := id rfl
@[simp ↓] theorem State.setEntry_pwr (s : State) (i : Nat) (v : Entry) : (s.setEntry i v).pwr = s.pwr := id rfl
@[simp ↓] theorem State.setEntry_bist (s : State) (i : Nat) (v : Entry) : (s.setEntry i v).bist = s.bist := id rfl
@[simp ↓] theorem State.setEntry_upd (s : State) (i : Nat) (v : Entry) : (s.setEntry i v).upd = s.upd := id rfl
@[simp ↓] theorem State.setEntry_otp (s : State) (i : Nat) (v : Entry) : (s.setEntry i v).otp = s.otp := id rfl
@[simp ↓] theorem State.setEntry_hostMem (s : State) (i : Nat) (v : Entry) : (s.setEntry i v).hostMem = s.hostMem := id rfl
@[simp ↓] theorem State.setEntry_free (s : State) (i : Nat) (v : Entry) : (s.setEntry i v).free = s.free := id rfl
@[simp ↓] theorem State.setEntry_pending (s : State) (i : Nat) (v : Entry) : (s.setEntry i v).pending = s.pending := id rfl
@[simp ↓] theorem State.setRlist_regs (s : State) (i : Nat) (v : ReadyList) : (s.setRlist i v).regs = s.regs := id rfl
@[simp ↓] theorem State.setRlist_live (s : State) (i : Nat) (v : ReadyList) : (s.setRlist i v).live = s.live := id rfl
@[simp ↓] theorem State.setRlist_lamps (s : State) (i : Nat) (v : ReadyList) : (s.setRlist i v).lamps = s.lamps := id rfl
@[simp ↓] theorem State.setRlist_weir (s : State) (i : Nat) (v : ReadyList) : (s.setRlist i v).weir = s.weir := id rfl
@[simp ↓] theorem State.setRlist_chain (s : State) (i : Nat) (v : ReadyList) : (s.setRlist i v).chain = s.chain := id rfl
@[simp ↓] theorem State.setRlist_host (s : State) (i : Nat) (v : ReadyList) : (s.setRlist i v).host = s.host := id rfl
@[simp ↓] theorem State.setRlist_fio (s : State) (i : Nat) (v : ReadyList) : (s.setRlist i v).fio = s.fio := id rfl
@[simp ↓] theorem State.setRlist_msr (s : State) (i : Nat) (v : ReadyList) : (s.setRlist i v).msr = s.msr := id rfl
@[simp ↓] theorem State.setRlist_flt (s : State) (i : Nat) (v : ReadyList) : (s.setRlist i v).flt = s.flt := id rfl
@[simp ↓] theorem State.setRlist_clk (s : State) (i : Nat) (v : ReadyList) : (s.setRlist i v).clk = s.clk := id rfl
@[simp ↓] theorem State.setRlist_pwr (s : State) (i : Nat) (v : ReadyList) : (s.setRlist i v).pwr = s.pwr := id rfl
@[simp ↓] theorem State.setRlist_bist (s : State) (i : Nat) (v : ReadyList) : (s.setRlist i v).bist = s.bist := id rfl
@[simp ↓] theorem State.setRlist_upd (s : State) (i : Nat) (v : ReadyList) : (s.setRlist i v).upd = s.upd := id rfl
@[simp ↓] theorem State.setRlist_otp (s : State) (i : Nat) (v : ReadyList) : (s.setRlist i v).otp = s.otp := id rfl
@[simp ↓] theorem State.setRlist_hostMem (s : State) (i : Nat) (v : ReadyList) : (s.setRlist i v).hostMem = s.hostMem := id rfl
@[simp ↓] theorem State.setRlist_free (s : State) (i : Nat) (v : ReadyList) : (s.setRlist i v).free = s.free := id rfl
@[simp ↓] theorem State.setRlist_pending (s : State) (i : Nat) (v : ReadyList) : (s.setRlist i v).pending = s.pending := id rfl
@[simp ↓] theorem State.setProducer_regs (s : State) (i : Nat) (v : Producer) : (s.setProducer i v).regs = s.regs := id rfl
@[simp ↓] theorem State.setProducer_live (s : State) (i : Nat) (v : Producer) : (s.setProducer i v).live = s.live := id rfl
@[simp ↓] theorem State.setProducer_lamps (s : State) (i : Nat) (v : Producer) : (s.setProducer i v).lamps = s.lamps := id rfl
@[simp ↓] theorem State.setProducer_weir (s : State) (i : Nat) (v : Producer) : (s.setProducer i v).weir = s.weir := id rfl
@[simp ↓] theorem State.setProducer_chain (s : State) (i : Nat) (v : Producer) : (s.setProducer i v).chain = s.chain := id rfl
@[simp ↓] theorem State.setProducer_host (s : State) (i : Nat) (v : Producer) : (s.setProducer i v).host = s.host := id rfl
@[simp ↓] theorem State.setProducer_fio (s : State) (i : Nat) (v : Producer) : (s.setProducer i v).fio = s.fio := id rfl
@[simp ↓] theorem State.setProducer_msr (s : State) (i : Nat) (v : Producer) : (s.setProducer i v).msr = s.msr := id rfl
@[simp ↓] theorem State.setProducer_flt (s : State) (i : Nat) (v : Producer) : (s.setProducer i v).flt = s.flt := id rfl
@[simp ↓] theorem State.setProducer_clk (s : State) (i : Nat) (v : Producer) : (s.setProducer i v).clk = s.clk := id rfl
@[simp ↓] theorem State.setProducer_pwr (s : State) (i : Nat) (v : Producer) : (s.setProducer i v).pwr = s.pwr := id rfl
@[simp ↓] theorem State.setProducer_bist (s : State) (i : Nat) (v : Producer) : (s.setProducer i v).bist = s.bist := id rfl
@[simp ↓] theorem State.setProducer_upd (s : State) (i : Nat) (v : Producer) : (s.setProducer i v).upd = s.upd := id rfl
@[simp ↓] theorem State.setProducer_otp (s : State) (i : Nat) (v : Producer) : (s.setProducer i v).otp = s.otp := id rfl
@[simp ↓] theorem State.setProducer_hostMem (s : State) (i : Nat) (v : Producer) : (s.setProducer i v).hostMem = s.hostMem := id rfl
@[simp ↓] theorem State.setProducer_free (s : State) (i : Nat) (v : Producer) : (s.setProducer i v).free = s.free := id rfl
@[simp ↓] theorem State.setProducer_pending (s : State) (i : Nat) (v : Producer) : (s.setProducer i v).pending = s.pending := id rfl
@[simp ↓] theorem State.setStrm_regs (s : State) (i : Nat) (v : Strm) : (s.setStrm i v).regs = s.regs := id rfl
@[simp ↓] theorem State.setStrm_live (s : State) (i : Nat) (v : Strm) : (s.setStrm i v).live = s.live := id rfl
@[simp ↓] theorem State.setStrm_lamps (s : State) (i : Nat) (v : Strm) : (s.setStrm i v).lamps = s.lamps := id rfl
@[simp ↓] theorem State.setStrm_weir (s : State) (i : Nat) (v : Strm) : (s.setStrm i v).weir = s.weir := id rfl
@[simp ↓] theorem State.setStrm_chain (s : State) (i : Nat) (v : Strm) : (s.setStrm i v).chain = s.chain := id rfl
@[simp ↓] theorem State.setStrm_host (s : State) (i : Nat) (v : Strm) : (s.setStrm i v).host = s.host := id rfl
@[simp ↓] theorem State.setStrm_fio (s : State) (i : Nat) (v : Strm) : (s.setStrm i v).fio = s.fio := id rfl
@[simp ↓] theorem State.setStrm_msr (s : State) (i : Nat) (v : Strm) : (s.setStrm i v).msr = s.msr := id rfl
@[simp ↓] theorem State.setStrm_flt (s : State) (i : Nat) (v : Strm) : (s.setStrm i v).flt = s.flt := id rfl
@[simp ↓] theorem State.setStrm_clk (s : State) (i : Nat) (v : Strm) : (s.setStrm i v).clk = s.clk := id rfl
@[simp ↓] theorem State.setStrm_pwr (s : State) (i : Nat) (v : Strm) : (s.setStrm i v).pwr = s.pwr := id rfl
@[simp ↓] theorem State.setStrm_bist (s : State) (i : Nat) (v : Strm) : (s.setStrm i v).bist = s.bist := id rfl
@[simp ↓] theorem State.setStrm_upd (s : State) (i : Nat) (v : Strm) : (s.setStrm i v).upd = s.upd := id rfl
@[simp ↓] theorem State.setStrm_otp (s : State) (i : Nat) (v : Strm) : (s.setStrm i v).otp = s.otp := id rfl
@[simp ↓] theorem State.setStrm_hostMem (s : State) (i : Nat) (v : Strm) : (s.setStrm i v).hostMem = s.hostMem := id rfl
@[simp ↓] theorem State.setStrm_free (s : State) (i : Nat) (v : Strm) : (s.setStrm i v).free = s.free := id rfl
@[simp ↓] theorem State.setStrm_pending (s : State) (i : Nat) (v : Strm) : (s.setStrm i v).pending = s.pending := id rfl
@[simp ↓] theorem State.setQueue_regs (s : State) (i : Nat) (v : Queue) : (s.setQueue i v).regs = s.regs := id rfl
@[simp ↓] theorem State.setQueue_live (s : State) (i : Nat) (v : Queue) : (s.setQueue i v).live = s.live := id rfl
@[simp ↓] theorem State.setQueue_lamps (s : State) (i : Nat) (v : Queue) : (s.setQueue i v).lamps = s.lamps := id rfl
@[simp ↓] theorem State.setQueue_weir (s : State) (i : Nat) (v : Queue) : (s.setQueue i v).weir = s.weir := id rfl
@[simp ↓] theorem State.setQueue_chain (s : State) (i : Nat) (v : Queue) : (s.setQueue i v).chain = s.chain := id rfl
@[simp ↓] theorem State.setQueue_fab (s : State) (i : Nat) (v : Queue) : (s.setQueue i v).fab = s.fab := id rfl
@[simp ↓] theorem State.setQueue_fio (s : State) (i : Nat) (v : Queue) : (s.setQueue i v).fio = s.fio := id rfl
@[simp ↓] theorem State.setQueue_msr (s : State) (i : Nat) (v : Queue) : (s.setQueue i v).msr = s.msr := id rfl
@[simp ↓] theorem State.setQueue_flt (s : State) (i : Nat) (v : Queue) : (s.setQueue i v).flt = s.flt := id rfl
@[simp ↓] theorem State.setQueue_clk (s : State) (i : Nat) (v : Queue) : (s.setQueue i v).clk = s.clk := id rfl
@[simp ↓] theorem State.setQueue_pwr (s : State) (i : Nat) (v : Queue) : (s.setQueue i v).pwr = s.pwr := id rfl
@[simp ↓] theorem State.setQueue_bist (s : State) (i : Nat) (v : Queue) : (s.setQueue i v).bist = s.bist := id rfl
@[simp ↓] theorem State.setQueue_upd (s : State) (i : Nat) (v : Queue) : (s.setQueue i v).upd = s.upd := id rfl
@[simp ↓] theorem State.setQueue_otp (s : State) (i : Nat) (v : Queue) : (s.setQueue i v).otp = s.otp := id rfl
@[simp ↓] theorem State.setQueue_hostMem (s : State) (i : Nat) (v : Queue) : (s.setQueue i v).hostMem = s.hostMem := id rfl
@[simp ↓] theorem State.setQueue_free (s : State) (i : Nat) (v : Queue) : (s.setQueue i v).free = s.free := id rfl
@[simp ↓] theorem State.setQueue_pending (s : State) (i : Nat) (v : Queue) : (s.setQueue i v).pending = s.pending := id rfl
@[simp ↓] theorem State.setCode_regs (s : State) (i : Nat) (v : CodeSt) : (s.setCode i v).regs = s.regs := id rfl
@[simp ↓] theorem State.setCode_live (s : State) (i : Nat) (v : CodeSt) : (s.setCode i v).live = s.live := id rfl
@[simp ↓] theorem State.setCode_lamps (s : State) (i : Nat) (v : CodeSt) : (s.setCode i v).lamps = s.lamps := id rfl
@[simp ↓] theorem State.setCode_weir (s : State) (i : Nat) (v : CodeSt) : (s.setCode i v).weir = s.weir := id rfl
@[simp ↓] theorem State.setCode_chain (s : State) (i : Nat) (v : CodeSt) : (s.setCode i v).chain = s.chain := id rfl
@[simp ↓] theorem State.setCode_fab (s : State) (i : Nat) (v : CodeSt) : (s.setCode i v).fab = s.fab := id rfl
@[simp ↓] theorem State.setCode_host (s : State) (i : Nat) (v : CodeSt) : (s.setCode i v).host = s.host := id rfl
@[simp ↓] theorem State.setCode_fio (s : State) (i : Nat) (v : CodeSt) : (s.setCode i v).fio = s.fio := id rfl
@[simp ↓] theorem State.setCode_msr (s : State) (i : Nat) (v : CodeSt) : (s.setCode i v).msr = s.msr := id rfl
@[simp ↓] theorem State.setCode_clk (s : State) (i : Nat) (v : CodeSt) : (s.setCode i v).clk = s.clk := id rfl
@[simp ↓] theorem State.setCode_pwr (s : State) (i : Nat) (v : CodeSt) : (s.setCode i v).pwr = s.pwr := id rfl
@[simp ↓] theorem State.setCode_bist (s : State) (i : Nat) (v : CodeSt) : (s.setCode i v).bist = s.bist := id rfl
@[simp ↓] theorem State.setCode_upd (s : State) (i : Nat) (v : CodeSt) : (s.setCode i v).upd = s.upd := id rfl
@[simp ↓] theorem State.setCode_otp (s : State) (i : Nat) (v : CodeSt) : (s.setCode i v).otp = s.otp := id rfl
@[simp ↓] theorem State.setCode_hostMem (s : State) (i : Nat) (v : CodeSt) : (s.setCode i v).hostMem = s.hostMem := id rfl
@[simp ↓] theorem State.setCode_free (s : State) (i : Nat) (v : CodeSt) : (s.setCode i v).free = s.free := id rfl
@[simp ↓] theorem State.setCode_pending (s : State) (i : Nat) (v : CodeSt) : (s.setCode i v).pending = s.pending := id rfl
@[simp ↓] theorem State.setConv_regs (s : State) (i : Nat) (v : Conv) : (s.setConv i v).regs = s.regs := id rfl
@[simp ↓] theorem State.setConv_live (s : State) (i : Nat) (v : Conv) : (s.setConv i v).live = s.live := id rfl
@[simp ↓] theorem State.setConv_lamps (s : State) (i : Nat) (v : Conv) : (s.setConv i v).lamps = s.lamps := id rfl
@[simp ↓] theorem State.setConv_weir (s : State) (i : Nat) (v : Conv) : (s.setConv i v).weir = s.weir := id rfl
@[simp ↓] theorem State.setConv_chain (s : State) (i : Nat) (v : Conv) : (s.setConv i v).chain = s.chain := id rfl
@[simp ↓] theorem State.setConv_fab (s : State) (i : Nat) (v : Conv) : (s.setConv i v).fab = s.fab := id rfl
@[simp ↓] theorem State.setConv_host (s : State) (i : Nat) (v : Conv) : (s.setConv i v).host = s.host := id rfl
@[simp ↓] theorem State.setConv_fio (s : State) (i : Nat) (v : Conv) : (s.setConv i v).fio = s.fio := id rfl
@[simp ↓] theorem State.setConv_flt (s : State) (i : Nat) (v : Conv) : (s.setConv i v).flt = s.flt := id rfl
@[simp ↓] theorem State.setConv_clk (s : State) (i : Nat) (v : Conv) : (s.setConv i v).clk = s.clk := id rfl
@[simp ↓] theorem State.setConv_pwr (s : State) (i : Nat) (v : Conv) : (s.setConv i v).pwr = s.pwr := id rfl
@[simp ↓] theorem State.setConv_bist (s : State) (i : Nat) (v : Conv) : (s.setConv i v).bist = s.bist := id rfl
@[simp ↓] theorem State.setConv_upd (s : State) (i : Nat) (v : Conv) : (s.setConv i v).upd = s.upd := id rfl
@[simp ↓] theorem State.setConv_otp (s : State) (i : Nat) (v : Conv) : (s.setConv i v).otp = s.otp := id rfl
@[simp ↓] theorem State.setConv_hostMem (s : State) (i : Nat) (v : Conv) : (s.setConv i v).hostMem = s.hostMem := id rfl
@[simp ↓] theorem State.setConv_free (s : State) (i : Nat) (v : Conv) : (s.setConv i v).free = s.free := id rfl
@[simp ↓] theorem State.setConv_pending (s : State) (i : Nat) (v : Conv) : (s.setConv i v).pending = s.pending := id rfl
@[simp ↓] theorem State.setAcc_regs (s : State) (i : Nat) (v : AccSet) : (s.setAcc i v).regs = s.regs := id rfl
@[simp ↓] theorem State.setAcc_live (s : State) (i : Nat) (v : AccSet) : (s.setAcc i v).live = s.live := id rfl
@[simp ↓] theorem State.setAcc_lamps (s : State) (i : Nat) (v : AccSet) : (s.setAcc i v).lamps = s.lamps := id rfl
@[simp ↓] theorem State.setAcc_weir (s : State) (i : Nat) (v : AccSet) : (s.setAcc i v).weir = s.weir := id rfl
@[simp ↓] theorem State.setAcc_chain (s : State) (i : Nat) (v : AccSet) : (s.setAcc i v).chain = s.chain := id rfl
@[simp ↓] theorem State.setAcc_fab (s : State) (i : Nat) (v : AccSet) : (s.setAcc i v).fab = s.fab := id rfl
@[simp ↓] theorem State.setAcc_host (s : State) (i : Nat) (v : AccSet) : (s.setAcc i v).host = s.host := id rfl
@[simp ↓] theorem State.setAcc_fio (s : State) (i : Nat) (v : AccSet) : (s.setAcc i v).fio = s.fio := id rfl
@[simp ↓] theorem State.setAcc_flt (s : State) (i : Nat) (v : AccSet) : (s.setAcc i v).flt = s.flt := id rfl
@[simp ↓] theorem State.setAcc_clk (s : State) (i : Nat) (v : AccSet) : (s.setAcc i v).clk = s.clk := id rfl
@[simp ↓] theorem State.setAcc_pwr (s : State) (i : Nat) (v : AccSet) : (s.setAcc i v).pwr = s.pwr := id rfl
@[simp ↓] theorem State.setAcc_bist (s : State) (i : Nat) (v : AccSet) : (s.setAcc i v).bist = s.bist := id rfl
@[simp ↓] theorem State.setAcc_upd (s : State) (i : Nat) (v : AccSet) : (s.setAcc i v).upd = s.upd := id rfl
@[simp ↓] theorem State.setAcc_otp (s : State) (i : Nat) (v : AccSet) : (s.setAcc i v).otp = s.otp := id rfl
@[simp ↓] theorem State.setAcc_hostMem (s : State) (i : Nat) (v : AccSet) : (s.setAcc i v).hostMem = s.hostMem := id rfl
@[simp ↓] theorem State.setAcc_free (s : State) (i : Nat) (v : AccSet) : (s.setAcc i v).free = s.free := id rfl
@[simp ↓] theorem State.setAcc_pending (s : State) (i : Nat) (v : AccSet) : (s.setAcc i v).pending = s.pending := id rfl
@[simp ↓] theorem State.setFin_regs (s : State) (i : Nat) (v : FieldIn) : (s.setFin i v).regs = s.regs := id rfl
@[simp ↓] theorem State.setFin_live (s : State) (i : Nat) (v : FieldIn) : (s.setFin i v).live = s.live := id rfl
@[simp ↓] theorem State.setFin_lamps (s : State) (i : Nat) (v : FieldIn) : (s.setFin i v).lamps = s.lamps := id rfl
@[simp ↓] theorem State.setFin_weir (s : State) (i : Nat) (v : FieldIn) : (s.setFin i v).weir = s.weir := id rfl
@[simp ↓] theorem State.setFin_chain (s : State) (i : Nat) (v : FieldIn) : (s.setFin i v).chain = s.chain := id rfl
@[simp ↓] theorem State.setFin_fab (s : State) (i : Nat) (v : FieldIn) : (s.setFin i v).fab = s.fab := id rfl
@[simp ↓] theorem State.setFin_host (s : State) (i : Nat) (v : FieldIn) : (s.setFin i v).host = s.host := id rfl
@[simp ↓] theorem State.setFin_msr (s : State) (i : Nat) (v : FieldIn) : (s.setFin i v).msr = s.msr := id rfl
@[simp ↓] theorem State.setFin_flt (s : State) (i : Nat) (v : FieldIn) : (s.setFin i v).flt = s.flt := id rfl
@[simp ↓] theorem State.setFin_clk (s : State) (i : Nat) (v : FieldIn) : (s.setFin i v).clk = s.clk := id rfl
@[simp ↓] theorem State.setFin_pwr (s : State) (i : Nat) (v : FieldIn) : (s.setFin i v).pwr = s.pwr := id rfl
@[simp ↓] theorem State.setFin_bist (s : State) (i : Nat) (v : FieldIn) : (s.setFin i v).bist = s.bist := id rfl
@[simp ↓] theorem State.setFin_upd (s : State) (i : Nat) (v : FieldIn) : (s.setFin i v).upd = s.upd := id rfl
@[simp ↓] theorem State.setFin_otp (s : State) (i : Nat) (v : FieldIn) : (s.setFin i v).otp = s.otp := id rfl
@[simp ↓] theorem State.setFin_hostMem (s : State) (i : Nat) (v : FieldIn) : (s.setFin i v).hostMem = s.hostMem := id rfl
@[simp ↓] theorem State.setFin_free (s : State) (i : Nat) (v : FieldIn) : (s.setFin i v).free = s.free := id rfl
@[simp ↓] theorem State.setFin_pending (s : State) (i : Nat) (v : FieldIn) : (s.setFin i v).pending = s.pending := id rfl
@[simp ↓] theorem State.setFout_regs (s : State) (i : Nat) (v : FieldOut) : (s.setFout i v).regs = s.regs := id rfl
@[simp ↓] theorem State.setFout_live (s : State) (i : Nat) (v : FieldOut) : (s.setFout i v).live = s.live := id rfl
@[simp ↓] theorem State.setFout_lamps (s : State) (i : Nat) (v : FieldOut) : (s.setFout i v).lamps = s.lamps := id rfl
@[simp ↓] theorem State.setFout_weir (s : State) (i : Nat) (v : FieldOut) : (s.setFout i v).weir = s.weir := id rfl
@[simp ↓] theorem State.setFout_chain (s : State) (i : Nat) (v : FieldOut) : (s.setFout i v).chain = s.chain := id rfl
@[simp ↓] theorem State.setFout_fab (s : State) (i : Nat) (v : FieldOut) : (s.setFout i v).fab = s.fab := id rfl
@[simp ↓] theorem State.setFout_host (s : State) (i : Nat) (v : FieldOut) : (s.setFout i v).host = s.host := id rfl
@[simp ↓] theorem State.setFout_msr (s : State) (i : Nat) (v : FieldOut) : (s.setFout i v).msr = s.msr := id rfl
@[simp ↓] theorem State.setFout_flt (s : State) (i : Nat) (v : FieldOut) : (s.setFout i v).flt = s.flt := id rfl
@[simp ↓] theorem State.setFout_clk (s : State) (i : Nat) (v : FieldOut) : (s.setFout i v).clk = s.clk := id rfl
@[simp ↓] theorem State.setFout_pwr (s : State) (i : Nat) (v : FieldOut) : (s.setFout i v).pwr = s.pwr := id rfl
@[simp ↓] theorem State.setFout_bist (s : State) (i : Nat) (v : FieldOut) : (s.setFout i v).bist = s.bist := id rfl
@[simp ↓] theorem State.setFout_upd (s : State) (i : Nat) (v : FieldOut) : (s.setFout i v).upd = s.upd := id rfl
@[simp ↓] theorem State.setFout_otp (s : State) (i : Nat) (v : FieldOut) : (s.setFout i v).otp = s.otp := id rfl
@[simp ↓] theorem State.setFout_hostMem (s : State) (i : Nat) (v : FieldOut) : (s.setFout i v).hostMem = s.hostMem := id rfl
@[simp ↓] theorem State.setFout_free (s : State) (i : Nat) (v : FieldOut) : (s.setFout i v).free = s.free := id rfl
@[simp ↓] theorem State.setFout_pending (s : State) (i : Nat) (v : FieldOut) : (s.setFout i v).pending = s.pending := id rfl
@[simp ↓] theorem State.setStr_str (s : State) (i j : Nat) (v : Str) : (s.setStr i v).str j = if j = i then v else s.str j := Tab.get_put _ _ _ _ _
@[simp ↓] theorem State.setStr_group (s : State) (i j : Nat) (v : Str) : (s.setStr i v).group j = s.group j := id rfl
@[simp ↓] theorem State.setStr_stream (s : State) (i j : Nat) (v : Str) : (s.setStr i v).stream j = s.stream j := id rfl
@[simp ↓] theorem State.setStr_ret (s : State) (i j : Nat) (v : Str) : (s.setStr i v).ret j = s.ret j := id rfl
@[simp ↓] theorem State.setStr_prv (s : State) (i j : Nat) (v : Str) : (s.setStr i v).prv j = s.prv j := id rfl
@[simp ↓] theorem State.setStr_smt (s : State) (i j : Nat) (v : Str) : (s.setStr i v).smt j = s.smt j := id rfl
@[simp ↓] theorem State.setStr_arm (s : State) (i j : Nat) (v : Str) : (s.setStr i v).arm j = s.arm j := id rfl
@[simp ↓] theorem State.setStr_unit (s : State) (i j : Nat) (v : Str) : (s.setStr i v).unit j = s.unit j := id rfl
@[simp ↓] theorem State.setStr_engine (s : State) (i j : Nat) (v : Str) : (s.setStr i v).engine j = s.engine j := id rfl
@[simp ↓] theorem State.setStr_entry (s : State) (i j : Nat) (v : Str) : (s.setStr i v).entry j = s.entry j := id rfl
@[simp ↓] theorem State.setStr_rlist (s : State) (i j : Nat) (v : Str) : (s.setStr i v).rlist j = s.rlist j := id rfl
@[simp ↓] theorem State.setStr_producer (s : State) (i j : Nat) (v : Str) : (s.setStr i v).producer j = s.producer j := id rfl
@[simp ↓] theorem State.setStr_strm (s : State) (i j : Nat) (v : Str) : (s.setStr i v).strm j = s.strm j := id rfl
@[simp ↓] theorem State.setStr_queue (s : State) (i j : Nat) (v : Str) : (s.setStr i v).queue j = s.queue j := id rfl
@[simp ↓] theorem State.setStr_code (s : State) (i j : Nat) (v : Str) : (s.setStr i v).code j = s.code j := id rfl
@[simp ↓] theorem State.setStr_conv (s : State) (i j : Nat) (v : Str) : (s.setStr i v).conv j = s.conv j := id rfl
@[simp ↓] theorem State.setStr_acc (s : State) (i j : Nat) (v : Str) : (s.setStr i v).acc j = s.acc j := id rfl
@[simp ↓] theorem State.setStr_fin (s : State) (i j : Nat) (v : Str) : (s.setStr i v).fin j = s.fin j := id rfl
@[simp ↓] theorem State.setStr_fout (s : State) (i j : Nat) (v : Str) : (s.setStr i v).fout j = s.fout j := id rfl
@[simp ↓] theorem State.setGroup_group (s : State) (i j : Nat) (v : Group) : (s.setGroup i v).group j = if j = i then v else s.group j := Tab.get_put _ _ _ _ _
@[simp ↓] theorem State.setGroup_str (s : State) (i j : Nat) (v : Group) : (s.setGroup i v).str j = s.str j := id rfl
@[simp ↓] theorem State.setGroup_stream (s : State) (i j : Nat) (v : Group) : (s.setGroup i v).stream j = s.stream j := id rfl
@[simp ↓] theorem State.setGroup_ret (s : State) (i j : Nat) (v : Group) : (s.setGroup i v).ret j = s.ret j := id rfl
@[simp ↓] theorem State.setGroup_prv (s : State) (i j : Nat) (v : Group) : (s.setGroup i v).prv j = s.prv j := id rfl
@[simp ↓] theorem State.setGroup_smt (s : State) (i j : Nat) (v : Group) : (s.setGroup i v).smt j = s.smt j := id rfl
@[simp ↓] theorem State.setGroup_arm (s : State) (i j : Nat) (v : Group) : (s.setGroup i v).arm j = s.arm j := id rfl
@[simp ↓] theorem State.setGroup_unit (s : State) (i j : Nat) (v : Group) : (s.setGroup i v).unit j = s.unit j := id rfl
@[simp ↓] theorem State.setGroup_engine (s : State) (i j : Nat) (v : Group) : (s.setGroup i v).engine j = s.engine j := id rfl
@[simp ↓] theorem State.setGroup_entry (s : State) (i j : Nat) (v : Group) : (s.setGroup i v).entry j = s.entry j := id rfl
@[simp ↓] theorem State.setGroup_rlist (s : State) (i j : Nat) (v : Group) : (s.setGroup i v).rlist j = s.rlist j := id rfl
@[simp ↓] theorem State.setGroup_producer (s : State) (i j : Nat) (v : Group) : (s.setGroup i v).producer j = s.producer j := id rfl
@[simp ↓] theorem State.setGroup_strm (s : State) (i j : Nat) (v : Group) : (s.setGroup i v).strm j = s.strm j := id rfl
@[simp ↓] theorem State.setGroup_queue (s : State) (i j : Nat) (v : Group) : (s.setGroup i v).queue j = s.queue j := id rfl
@[simp ↓] theorem State.setGroup_code (s : State) (i j : Nat) (v : Group) : (s.setGroup i v).code j = s.code j := id rfl
@[simp ↓] theorem State.setGroup_conv (s : State) (i j : Nat) (v : Group) : (s.setGroup i v).conv j = s.conv j := id rfl
@[simp ↓] theorem State.setGroup_acc (s : State) (i j : Nat) (v : Group) : (s.setGroup i v).acc j = s.acc j := id rfl
@[simp ↓] theorem State.setGroup_fin (s : State) (i j : Nat) (v : Group) : (s.setGroup i v).fin j = s.fin j := id rfl
@[simp ↓] theorem State.setGroup_fout (s : State) (i j : Nat) (v : Group) : (s.setGroup i v).fout j = s.fout j := id rfl
@[simp ↓] theorem State.setStream_stream (s : State) (i j : Nat) (v : Stream) : (s.setStream i v).stream j = if j = i then v else s.stream j := Tab.get_put _ _ _ _ _
@[simp ↓] theorem State.setStream_str (s : State) (i j : Nat) (v : Stream) : (s.setStream i v).str j = s.str j := id rfl
@[simp ↓] theorem State.setStream_group (s : State) (i j : Nat) (v : Stream) : (s.setStream i v).group j = s.group j := id rfl
@[simp ↓] theorem State.setStream_ret (s : State) (i j : Nat) (v : Stream) : (s.setStream i v).ret j = s.ret j := id rfl
@[simp ↓] theorem State.setStream_prv (s : State) (i j : Nat) (v : Stream) : (s.setStream i v).prv j = s.prv j := id rfl
@[simp ↓] theorem State.setStream_smt (s : State) (i j : Nat) (v : Stream) : (s.setStream i v).smt j = s.smt j := id rfl
@[simp ↓] theorem State.setStream_arm (s : State) (i j : Nat) (v : Stream) : (s.setStream i v).arm j = s.arm j := id rfl
@[simp ↓] theorem State.setStream_unit (s : State) (i j : Nat) (v : Stream) : (s.setStream i v).unit j = s.unit j := id rfl
@[simp ↓] theorem State.setStream_engine (s : State) (i j : Nat) (v : Stream) : (s.setStream i v).engine j = s.engine j := id rfl
@[simp ↓] theorem State.setStream_entry (s : State) (i j : Nat) (v : Stream) : (s.setStream i v).entry j = s.entry j := id rfl
@[simp ↓] theorem State.setStream_rlist (s : State) (i j : Nat) (v : Stream) : (s.setStream i v).rlist j = s.rlist j := id rfl
@[simp ↓] theorem State.setStream_producer (s : State) (i j : Nat) (v : Stream) : (s.setStream i v).producer j = s.producer j := id rfl
@[simp ↓] theorem State.setStream_strm (s : State) (i j : Nat) (v : Stream) : (s.setStream i v).strm j = s.strm j := id rfl
@[simp ↓] theorem State.setStream_queue (s : State) (i j : Nat) (v : Stream) : (s.setStream i v).queue j = s.queue j := id rfl
@[simp ↓] theorem State.setStream_code (s : State) (i j : Nat) (v : Stream) : (s.setStream i v).code j = s.code j := id rfl
@[simp ↓] theorem State.setStream_conv (s : State) (i j : Nat) (v : Stream) : (s.setStream i v).conv j = s.conv j := id rfl
@[simp ↓] theorem State.setStream_acc (s : State) (i j : Nat) (v : Stream) : (s.setStream i v).acc j = s.acc j := id rfl
@[simp ↓] theorem State.setStream_fin (s : State) (i j : Nat) (v : Stream) : (s.setStream i v).fin j = s.fin j := id rfl
@[simp ↓] theorem State.setStream_fout (s : State) (i j : Nat) (v : Stream) : (s.setStream i v).fout j = s.fout j := id rfl
@[simp ↓] theorem State.setRet_ret (s : State) (i j : Nat) (v : RetIn) : (s.setRet i v).ret j = if j = i then v else s.ret j := Tab.get_put _ _ _ _ _
@[simp ↓] theorem State.setRet_str (s : State) (i j : Nat) (v : RetIn) : (s.setRet i v).str j = s.str j := id rfl
@[simp ↓] theorem State.setRet_group (s : State) (i j : Nat) (v : RetIn) : (s.setRet i v).group j = s.group j := id rfl
@[simp ↓] theorem State.setRet_stream (s : State) (i j : Nat) (v : RetIn) : (s.setRet i v).stream j = s.stream j := id rfl
@[simp ↓] theorem State.setRet_prv (s : State) (i j : Nat) (v : RetIn) : (s.setRet i v).prv j = s.prv j := id rfl
@[simp ↓] theorem State.setRet_smt (s : State) (i j : Nat) (v : RetIn) : (s.setRet i v).smt j = s.smt j := id rfl
@[simp ↓] theorem State.setRet_arm (s : State) (i j : Nat) (v : RetIn) : (s.setRet i v).arm j = s.arm j := id rfl
@[simp ↓] theorem State.setRet_unit (s : State) (i j : Nat) (v : RetIn) : (s.setRet i v).unit j = s.unit j := id rfl
@[simp ↓] theorem State.setRet_engine (s : State) (i j : Nat) (v : RetIn) : (s.setRet i v).engine j = s.engine j := id rfl
@[simp ↓] theorem State.setRet_entry (s : State) (i j : Nat) (v : RetIn) : (s.setRet i v).entry j = s.entry j := id rfl
@[simp ↓] theorem State.setRet_rlist (s : State) (i j : Nat) (v : RetIn) : (s.setRet i v).rlist j = s.rlist j := id rfl
@[simp ↓] theorem State.setRet_producer (s : State) (i j : Nat) (v : RetIn) : (s.setRet i v).producer j = s.producer j := id rfl
@[simp ↓] theorem State.setRet_strm (s : State) (i j : Nat) (v : RetIn) : (s.setRet i v).strm j = s.strm j := id rfl
@[simp ↓] theorem State.setRet_queue (s : State) (i j : Nat) (v : RetIn) : (s.setRet i v).queue j = s.queue j := id rfl
@[simp ↓] theorem State.setRet_code (s : State) (i j : Nat) (v : RetIn) : (s.setRet i v).code j = s.code j := id rfl
@[simp ↓] theorem State.setRet_conv (s : State) (i j : Nat) (v : RetIn) : (s.setRet i v).conv j = s.conv j := id rfl
@[simp ↓] theorem State.setRet_acc (s : State) (i j : Nat) (v : RetIn) : (s.setRet i v).acc j = s.acc j := id rfl
@[simp ↓] theorem State.setRet_fin (s : State) (i j : Nat) (v : RetIn) : (s.setRet i v).fin j = s.fin j := id rfl
@[simp ↓] theorem State.setRet_fout (s : State) (i j : Nat) (v : RetIn) : (s.setRet i v).fout j = s.fout j := id rfl
@[simp ↓] theorem State.setPrv_prv (s : State) (i j : Nat) (v : Prove) : (s.setPrv i v).prv j = if j = i then v else s.prv j := Tab.get_put _ _ _ _ _
@[simp ↓] theorem State.setPrv_str (s : State) (i j : Nat) (v : Prove) : (s.setPrv i v).str j = s.str j := id rfl
@[simp ↓] theorem State.setPrv_group (s : State) (i j : Nat) (v : Prove) : (s.setPrv i v).group j = s.group j := id rfl
@[simp ↓] theorem State.setPrv_stream (s : State) (i j : Nat) (v : Prove) : (s.setPrv i v).stream j = s.stream j := id rfl
@[simp ↓] theorem State.setPrv_ret (s : State) (i j : Nat) (v : Prove) : (s.setPrv i v).ret j = s.ret j := id rfl
@[simp ↓] theorem State.setPrv_smt (s : State) (i j : Nat) (v : Prove) : (s.setPrv i v).smt j = s.smt j := id rfl
@[simp ↓] theorem State.setPrv_arm (s : State) (i j : Nat) (v : Prove) : (s.setPrv i v).arm j = s.arm j := id rfl
@[simp ↓] theorem State.setPrv_unit (s : State) (i j : Nat) (v : Prove) : (s.setPrv i v).unit j = s.unit j := id rfl
@[simp ↓] theorem State.setPrv_engine (s : State) (i j : Nat) (v : Prove) : (s.setPrv i v).engine j = s.engine j := id rfl
@[simp ↓] theorem State.setPrv_entry (s : State) (i j : Nat) (v : Prove) : (s.setPrv i v).entry j = s.entry j := id rfl
@[simp ↓] theorem State.setPrv_rlist (s : State) (i j : Nat) (v : Prove) : (s.setPrv i v).rlist j = s.rlist j := id rfl
@[simp ↓] theorem State.setPrv_producer (s : State) (i j : Nat) (v : Prove) : (s.setPrv i v).producer j = s.producer j := id rfl
@[simp ↓] theorem State.setPrv_strm (s : State) (i j : Nat) (v : Prove) : (s.setPrv i v).strm j = s.strm j := id rfl
@[simp ↓] theorem State.setPrv_queue (s : State) (i j : Nat) (v : Prove) : (s.setPrv i v).queue j = s.queue j := id rfl
@[simp ↓] theorem State.setPrv_code (s : State) (i j : Nat) (v : Prove) : (s.setPrv i v).code j = s.code j := id rfl
@[simp ↓] theorem State.setPrv_conv (s : State) (i j : Nat) (v : Prove) : (s.setPrv i v).conv j = s.conv j := id rfl
@[simp ↓] theorem State.setPrv_acc (s : State) (i j : Nat) (v : Prove) : (s.setPrv i v).acc j = s.acc j := id rfl
@[simp ↓] theorem State.setPrv_fin (s : State) (i j : Nat) (v : Prove) : (s.setPrv i v).fin j = s.fin j := id rfl
@[simp ↓] theorem State.setPrv_fout (s : State) (i j : Nat) (v : Prove) : (s.setPrv i v).fout j = s.fout j := id rfl
@[simp ↓] theorem State.setSmt_smt (s : State) (i j : Nat) (v : Smt) : (s.setSmt i v).smt j = if j = i then v else s.smt j := Tab.get_put _ _ _ _ _
@[simp ↓] theorem State.setSmt_str (s : State) (i j : Nat) (v : Smt) : (s.setSmt i v).str j = s.str j := id rfl
@[simp ↓] theorem State.setSmt_group (s : State) (i j : Nat) (v : Smt) : (s.setSmt i v).group j = s.group j := id rfl
@[simp ↓] theorem State.setSmt_stream (s : State) (i j : Nat) (v : Smt) : (s.setSmt i v).stream j = s.stream j := id rfl
@[simp ↓] theorem State.setSmt_ret (s : State) (i j : Nat) (v : Smt) : (s.setSmt i v).ret j = s.ret j := id rfl
@[simp ↓] theorem State.setSmt_prv (s : State) (i j : Nat) (v : Smt) : (s.setSmt i v).prv j = s.prv j := id rfl
@[simp ↓] theorem State.setSmt_arm (s : State) (i j : Nat) (v : Smt) : (s.setSmt i v).arm j = s.arm j := id rfl
@[simp ↓] theorem State.setSmt_unit (s : State) (i j : Nat) (v : Smt) : (s.setSmt i v).unit j = s.unit j := id rfl
@[simp ↓] theorem State.setSmt_engine (s : State) (i j : Nat) (v : Smt) : (s.setSmt i v).engine j = s.engine j := id rfl
@[simp ↓] theorem State.setSmt_entry (s : State) (i j : Nat) (v : Smt) : (s.setSmt i v).entry j = s.entry j := id rfl
@[simp ↓] theorem State.setSmt_rlist (s : State) (i j : Nat) (v : Smt) : (s.setSmt i v).rlist j = s.rlist j := id rfl
@[simp ↓] theorem State.setSmt_producer (s : State) (i j : Nat) (v : Smt) : (s.setSmt i v).producer j = s.producer j := id rfl
@[simp ↓] theorem State.setSmt_strm (s : State) (i j : Nat) (v : Smt) : (s.setSmt i v).strm j = s.strm j := id rfl
@[simp ↓] theorem State.setSmt_queue (s : State) (i j : Nat) (v : Smt) : (s.setSmt i v).queue j = s.queue j := id rfl
@[simp ↓] theorem State.setSmt_code (s : State) (i j : Nat) (v : Smt) : (s.setSmt i v).code j = s.code j := id rfl
@[simp ↓] theorem State.setSmt_conv (s : State) (i j : Nat) (v : Smt) : (s.setSmt i v).conv j = s.conv j := id rfl
@[simp ↓] theorem State.setSmt_acc (s : State) (i j : Nat) (v : Smt) : (s.setSmt i v).acc j = s.acc j := id rfl
@[simp ↓] theorem State.setSmt_fin (s : State) (i j : Nat) (v : Smt) : (s.setSmt i v).fin j = s.fin j := id rfl
@[simp ↓] theorem State.setSmt_fout (s : State) (i j : Nat) (v : Smt) : (s.setSmt i v).fout j = s.fout j := id rfl
@[simp ↓] theorem State.setArm_arm (s : State) (i j : Nat) (v : Arm) : (s.setArm i v).arm j = if j = i then v else s.arm j := Tab.get_put _ _ _ _ _
@[simp ↓] theorem State.setArm_str (s : State) (i j : Nat) (v : Arm) : (s.setArm i v).str j = s.str j := id rfl
@[simp ↓] theorem State.setArm_group (s : State) (i j : Nat) (v : Arm) : (s.setArm i v).group j = s.group j := id rfl
@[simp ↓] theorem State.setArm_stream (s : State) (i j : Nat) (v : Arm) : (s.setArm i v).stream j = s.stream j := id rfl
@[simp ↓] theorem State.setArm_ret (s : State) (i j : Nat) (v : Arm) : (s.setArm i v).ret j = s.ret j := id rfl
@[simp ↓] theorem State.setArm_prv (s : State) (i j : Nat) (v : Arm) : (s.setArm i v).prv j = s.prv j := id rfl
@[simp ↓] theorem State.setArm_smt (s : State) (i j : Nat) (v : Arm) : (s.setArm i v).smt j = s.smt j := id rfl
@[simp ↓] theorem State.setArm_unit (s : State) (i j : Nat) (v : Arm) : (s.setArm i v).unit j = s.unit j := id rfl
@[simp ↓] theorem State.setArm_engine (s : State) (i j : Nat) (v : Arm) : (s.setArm i v).engine j = s.engine j := id rfl
@[simp ↓] theorem State.setArm_entry (s : State) (i j : Nat) (v : Arm) : (s.setArm i v).entry j = s.entry j := id rfl
@[simp ↓] theorem State.setArm_rlist (s : State) (i j : Nat) (v : Arm) : (s.setArm i v).rlist j = s.rlist j := id rfl
@[simp ↓] theorem State.setArm_producer (s : State) (i j : Nat) (v : Arm) : (s.setArm i v).producer j = s.producer j := id rfl
@[simp ↓] theorem State.setArm_strm (s : State) (i j : Nat) (v : Arm) : (s.setArm i v).strm j = s.strm j := id rfl
@[simp ↓] theorem State.setArm_queue (s : State) (i j : Nat) (v : Arm) : (s.setArm i v).queue j = s.queue j := id rfl
@[simp ↓] theorem State.setArm_code (s : State) (i j : Nat) (v : Arm) : (s.setArm i v).code j = s.code j := id rfl
@[simp ↓] theorem State.setArm_conv (s : State) (i j : Nat) (v : Arm) : (s.setArm i v).conv j = s.conv j := id rfl
@[simp ↓] theorem State.setArm_acc (s : State) (i j : Nat) (v : Arm) : (s.setArm i v).acc j = s.acc j := id rfl
@[simp ↓] theorem State.setArm_fin (s : State) (i j : Nat) (v : Arm) : (s.setArm i v).fin j = s.fin j := id rfl
@[simp ↓] theorem State.setArm_fout (s : State) (i j : Nat) (v : Arm) : (s.setArm i v).fout j = s.fout j := id rfl
@[simp ↓] theorem State.setUnit_unit (s : State) (i j : Nat) (v : ArmUnit) : (s.setUnit i v).unit j = if j = i then v else s.unit j := Tab.get_put _ _ _ _ _
@[simp ↓] theorem State.setUnit_str (s : State) (i j : Nat) (v : ArmUnit) : (s.setUnit i v).str j = s.str j := id rfl
@[simp ↓] theorem State.setUnit_group (s : State) (i j : Nat) (v : ArmUnit) : (s.setUnit i v).group j = s.group j := id rfl
@[simp ↓] theorem State.setUnit_stream (s : State) (i j : Nat) (v : ArmUnit) : (s.setUnit i v).stream j = s.stream j := id rfl
@[simp ↓] theorem State.setUnit_ret (s : State) (i j : Nat) (v : ArmUnit) : (s.setUnit i v).ret j = s.ret j := id rfl
@[simp ↓] theorem State.setUnit_prv (s : State) (i j : Nat) (v : ArmUnit) : (s.setUnit i v).prv j = s.prv j := id rfl
@[simp ↓] theorem State.setUnit_smt (s : State) (i j : Nat) (v : ArmUnit) : (s.setUnit i v).smt j = s.smt j := id rfl
@[simp ↓] theorem State.setUnit_arm (s : State) (i j : Nat) (v : ArmUnit) : (s.setUnit i v).arm j = s.arm j := id rfl
@[simp ↓] theorem State.setUnit_engine (s : State) (i j : Nat) (v : ArmUnit) : (s.setUnit i v).engine j = s.engine j := id rfl
@[simp ↓] theorem State.setUnit_entry (s : State) (i j : Nat) (v : ArmUnit) : (s.setUnit i v).entry j = s.entry j := id rfl
@[simp ↓] theorem State.setUnit_rlist (s : State) (i j : Nat) (v : ArmUnit) : (s.setUnit i v).rlist j = s.rlist j := id rfl
@[simp ↓] theorem State.setUnit_producer (s : State) (i j : Nat) (v : ArmUnit) : (s.setUnit i v).producer j = s.producer j := id rfl
@[simp ↓] theorem State.setUnit_strm (s : State) (i j : Nat) (v : ArmUnit) : (s.setUnit i v).strm j = s.strm j := id rfl
@[simp ↓] theorem State.setUnit_queue (s : State) (i j : Nat) (v : ArmUnit) : (s.setUnit i v).queue j = s.queue j := id rfl
@[simp ↓] theorem State.setUnit_code (s : State) (i j : Nat) (v : ArmUnit) : (s.setUnit i v).code j = s.code j := id rfl
@[simp ↓] theorem State.setUnit_conv (s : State) (i j : Nat) (v : ArmUnit) : (s.setUnit i v).conv j = s.conv j := id rfl
@[simp ↓] theorem State.setUnit_acc (s : State) (i j : Nat) (v : ArmUnit) : (s.setUnit i v).acc j = s.acc j := id rfl
@[simp ↓] theorem State.setUnit_fin (s : State) (i j : Nat) (v : ArmUnit) : (s.setUnit i v).fin j = s.fin j := id rfl
@[simp ↓] theorem State.setUnit_fout (s : State) (i j : Nat) (v : ArmUnit) : (s.setUnit i v).fout j = s.fout j := id rfl
@[simp ↓] theorem State.setEngine_engine (s : State) (i j : Nat) (v : Engine) : (s.setEngine i v).engine j = if j = i then v else s.engine j := Tab.get_put _ _ _ _ _
@[simp ↓] theorem State.setEngine_str (s : State) (i j : Nat) (v : Engine) : (s.setEngine i v).str j = s.str j := id rfl
@[simp ↓] theorem State.setEngine_group (s : State) (i j : Nat) (v : Engine) : (s.setEngine i v).group j = s.group j := id rfl
@[simp ↓] theorem State.setEngine_stream (s : State) (i j : Nat) (v : Engine) : (s.setEngine i v).stream j = s.stream j := id rfl
@[simp ↓] theorem State.setEngine_ret (s : State) (i j : Nat) (v : Engine) : (s.setEngine i v).ret j = s.ret j := id rfl
@[simp ↓] theorem State.setEngine_prv (s : State) (i j : Nat) (v : Engine) : (s.setEngine i v).prv j = s.prv j := id rfl
@[simp ↓] theorem State.setEngine_smt (s : State) (i j : Nat) (v : Engine) : (s.setEngine i v).smt j = s.smt j := id rfl
@[simp ↓] theorem State.setEngine_arm (s : State) (i j : Nat) (v : Engine) : (s.setEngine i v).arm j = s.arm j := id rfl
@[simp ↓] theorem State.setEngine_unit (s : State) (i j : Nat) (v : Engine) : (s.setEngine i v).unit j = s.unit j := id rfl
@[simp ↓] theorem State.setEngine_entry (s : State) (i j : Nat) (v : Engine) : (s.setEngine i v).entry j = s.entry j := id rfl
@[simp ↓] theorem State.setEngine_rlist (s : State) (i j : Nat) (v : Engine) : (s.setEngine i v).rlist j = s.rlist j := id rfl
@[simp ↓] theorem State.setEngine_producer (s : State) (i j : Nat) (v : Engine) : (s.setEngine i v).producer j = s.producer j := id rfl
@[simp ↓] theorem State.setEngine_strm (s : State) (i j : Nat) (v : Engine) : (s.setEngine i v).strm j = s.strm j := id rfl
@[simp ↓] theorem State.setEngine_queue (s : State) (i j : Nat) (v : Engine) : (s.setEngine i v).queue j = s.queue j := id rfl
@[simp ↓] theorem State.setEngine_code (s : State) (i j : Nat) (v : Engine) : (s.setEngine i v).code j = s.code j := id rfl
@[simp ↓] theorem State.setEngine_conv (s : State) (i j : Nat) (v : Engine) : (s.setEngine i v).conv j = s.conv j := id rfl
@[simp ↓] theorem State.setEngine_acc (s : State) (i j : Nat) (v : Engine) : (s.setEngine i v).acc j = s.acc j := id rfl
@[simp ↓] theorem State.setEngine_fin (s : State) (i j : Nat) (v : Engine) : (s.setEngine i v).fin j = s.fin j := id rfl
@[simp ↓] theorem State.setEngine_fout (s : State) (i j : Nat) (v : Engine) : (s.setEngine i v).fout j = s.fout j := id rfl
@[simp ↓] theorem State.setEntry_entry (s : State) (i j : Nat) (v : Entry) : (s.setEntry i v).entry j = if j = i then v else s.entry j := Tab.get_put _ _ _ _ _
@[simp ↓] theorem State.setEntry_str (s : State) (i j : Nat) (v : Entry) : (s.setEntry i v).str j = s.str j := id rfl
@[simp ↓] theorem State.setEntry_group (s : State) (i j : Nat) (v : Entry) : (s.setEntry i v).group j = s.group j := id rfl
@[simp ↓] theorem State.setEntry_stream (s : State) (i j : Nat) (v : Entry) : (s.setEntry i v).stream j = s.stream j := id rfl
@[simp ↓] theorem State.setEntry_ret (s : State) (i j : Nat) (v : Entry) : (s.setEntry i v).ret j = s.ret j := id rfl
@[simp ↓] theorem State.setEntry_prv (s : State) (i j : Nat) (v : Entry) : (s.setEntry i v).prv j = s.prv j := id rfl
@[simp ↓] theorem State.setEntry_smt (s : State) (i j : Nat) (v : Entry) : (s.setEntry i v).smt j = s.smt j := id rfl
@[simp ↓] theorem State.setEntry_arm (s : State) (i j : Nat) (v : Entry) : (s.setEntry i v).arm j = s.arm j := id rfl
@[simp ↓] theorem State.setEntry_unit (s : State) (i j : Nat) (v : Entry) : (s.setEntry i v).unit j = s.unit j := id rfl
@[simp ↓] theorem State.setEntry_engine (s : State) (i j : Nat) (v : Entry) : (s.setEntry i v).engine j = s.engine j := id rfl
@[simp ↓] theorem State.setEntry_rlist (s : State) (i j : Nat) (v : Entry) : (s.setEntry i v).rlist j = s.rlist j := id rfl
@[simp ↓] theorem State.setEntry_producer (s : State) (i j : Nat) (v : Entry) : (s.setEntry i v).producer j = s.producer j := id rfl
@[simp ↓] theorem State.setEntry_strm (s : State) (i j : Nat) (v : Entry) : (s.setEntry i v).strm j = s.strm j := id rfl
@[simp ↓] theorem State.setEntry_queue (s : State) (i j : Nat) (v : Entry) : (s.setEntry i v).queue j = s.queue j := id rfl
@[simp ↓] theorem State.setEntry_code (s : State) (i j : Nat) (v : Entry) : (s.setEntry i v).code j = s.code j := id rfl
@[simp ↓] theorem State.setEntry_conv (s : State) (i j : Nat) (v : Entry) : (s.setEntry i v).conv j = s.conv j := id rfl
@[simp ↓] theorem State.setEntry_acc (s : State) (i j : Nat) (v : Entry) : (s.setEntry i v).acc j = s.acc j := id rfl
@[simp ↓] theorem State.setEntry_fin (s : State) (i j : Nat) (v : Entry) : (s.setEntry i v).fin j = s.fin j := id rfl
@[simp ↓] theorem State.setEntry_fout (s : State) (i j : Nat) (v : Entry) : (s.setEntry i v).fout j = s.fout j := id rfl
@[simp ↓] theorem State.setRlist_rlist (s : State) (i j : Nat) (v : ReadyList) : (s.setRlist i v).rlist j = if j = i then v else s.rlist j := Tab.get_put _ _ _ _ _
@[simp ↓] theorem State.setRlist_str (s : State) (i j : Nat) (v : ReadyList) : (s.setRlist i v).str j = s.str j := id rfl
@[simp ↓] theorem State.setRlist_group (s : State) (i j : Nat) (v : ReadyList) : (s.setRlist i v).group j = s.group j := id rfl
@[simp ↓] theorem State.setRlist_stream (s : State) (i j : Nat) (v : ReadyList) : (s.setRlist i v).stream j = s.stream j := id rfl
@[simp ↓] theorem State.setRlist_ret (s : State) (i j : Nat) (v : ReadyList) : (s.setRlist i v).ret j = s.ret j := id rfl
@[simp ↓] theorem State.setRlist_prv (s : State) (i j : Nat) (v : ReadyList) : (s.setRlist i v).prv j = s.prv j := id rfl
@[simp ↓] theorem State.setRlist_smt (s : State) (i j : Nat) (v : ReadyList) : (s.setRlist i v).smt j = s.smt j := id rfl
@[simp ↓] theorem State.setRlist_arm (s : State) (i j : Nat) (v : ReadyList) : (s.setRlist i v).arm j = s.arm j := id rfl
@[simp ↓] theorem State.setRlist_unit (s : State) (i j : Nat) (v : ReadyList) : (s.setRlist i v).unit j = s.unit j := id rfl
@[simp ↓] theorem State.setRlist_engine (s : State) (i j : Nat) (v : ReadyList) : (s.setRlist i v).engine j = s.engine j := id rfl
@[simp ↓] theorem State.setRlist_entry (s : State) (i j : Nat) (v : ReadyList) : (s.setRlist i v).entry j = s.entry j := id rfl
@[simp ↓] theorem State.setRlist_producer (s : State) (i j : Nat) (v : ReadyList) : (s.setRlist i v).producer j = s.producer j := id rfl
@[simp ↓] theorem State.setRlist_strm (s : State) (i j : Nat) (v : ReadyList) : (s.setRlist i v).strm j = s.strm j := id rfl
@[simp ↓] theorem State.setRlist_queue (s : State) (i j : Nat) (v : ReadyList) : (s.setRlist i v).queue j = s.queue j := id rfl
@[simp ↓] theorem State.setRlist_code (s : State) (i j : Nat) (v : ReadyList) : (s.setRlist i v).code j = s.code j := id rfl
@[simp ↓] theorem State.setRlist_conv (s : State) (i j : Nat) (v : ReadyList) : (s.setRlist i v).conv j = s.conv j := id rfl
@[simp ↓] theorem State.setRlist_acc (s : State) (i j : Nat) (v : ReadyList) : (s.setRlist i v).acc j = s.acc j := id rfl
@[simp ↓] theorem State.setRlist_fin (s : State) (i j : Nat) (v : ReadyList) : (s.setRlist i v).fin j = s.fin j := id rfl
@[simp ↓] theorem State.setRlist_fout (s : State) (i j : Nat) (v : ReadyList) : (s.setRlist i v).fout j = s.fout j := id rfl
@[simp ↓] theorem State.setProducer_producer (s : State) (i j : Nat) (v : Producer) : (s.setProducer i v).producer j = if j = i then v else s.producer j := Tab.get_put _ _ _ _ _
@[simp ↓] theorem State.setProducer_str (s : State) (i j : Nat) (v : Producer) : (s.setProducer i v).str j = s.str j := id rfl
@[simp ↓] theorem State.setProducer_group (s : State) (i j : Nat) (v : Producer) : (s.setProducer i v).group j = s.group j := id rfl
@[simp ↓] theorem State.setProducer_stream (s : State) (i j : Nat) (v : Producer) : (s.setProducer i v).stream j = s.stream j := id rfl
@[simp ↓] theorem State.setProducer_ret (s : State) (i j : Nat) (v : Producer) : (s.setProducer i v).ret j = s.ret j := id rfl
@[simp ↓] theorem State.setProducer_prv (s : State) (i j : Nat) (v : Producer) : (s.setProducer i v).prv j = s.prv j := id rfl
@[simp ↓] theorem State.setProducer_smt (s : State) (i j : Nat) (v : Producer) : (s.setProducer i v).smt j = s.smt j := id rfl
@[simp ↓] theorem State.setProducer_arm (s : State) (i j : Nat) (v : Producer) : (s.setProducer i v).arm j = s.arm j := id rfl
@[simp ↓] theorem State.setProducer_unit (s : State) (i j : Nat) (v : Producer) : (s.setProducer i v).unit j = s.unit j := id rfl
@[simp ↓] theorem State.setProducer_engine (s : State) (i j : Nat) (v : Producer) : (s.setProducer i v).engine j = s.engine j := id rfl
@[simp ↓] theorem State.setProducer_entry (s : State) (i j : Nat) (v : Producer) : (s.setProducer i v).entry j = s.entry j := id rfl
@[simp ↓] theorem State.setProducer_rlist (s : State) (i j : Nat) (v : Producer) : (s.setProducer i v).rlist j = s.rlist j := id rfl
@[simp ↓] theorem State.setProducer_strm (s : State) (i j : Nat) (v : Producer) : (s.setProducer i v).strm j = s.strm j := id rfl
@[simp ↓] theorem State.setProducer_queue (s : State) (i j : Nat) (v : Producer) : (s.setProducer i v).queue j = s.queue j := id rfl
@[simp ↓] theorem State.setProducer_code (s : State) (i j : Nat) (v : Producer) : (s.setProducer i v).code j = s.code j := id rfl
@[simp ↓] theorem State.setProducer_conv (s : State) (i j : Nat) (v : Producer) : (s.setProducer i v).conv j = s.conv j := id rfl
@[simp ↓] theorem State.setProducer_acc (s : State) (i j : Nat) (v : Producer) : (s.setProducer i v).acc j = s.acc j := id rfl
@[simp ↓] theorem State.setProducer_fin (s : State) (i j : Nat) (v : Producer) : (s.setProducer i v).fin j = s.fin j := id rfl
@[simp ↓] theorem State.setProducer_fout (s : State) (i j : Nat) (v : Producer) : (s.setProducer i v).fout j = s.fout j := id rfl
@[simp ↓] theorem State.setStrm_strm (s : State) (i j : Nat) (v : Strm) : (s.setStrm i v).strm j = if j = i then v else s.strm j := Tab.get_put _ _ _ _ _
@[simp ↓] theorem State.setStrm_str (s : State) (i j : Nat) (v : Strm) : (s.setStrm i v).str j = s.str j := id rfl
@[simp ↓] theorem State.setStrm_group (s : State) (i j : Nat) (v : Strm) : (s.setStrm i v).group j = s.group j := id rfl
@[simp ↓] theorem State.setStrm_stream (s : State) (i j : Nat) (v : Strm) : (s.setStrm i v).stream j = s.stream j := id rfl
@[simp ↓] theorem State.setStrm_ret (s : State) (i j : Nat) (v : Strm) : (s.setStrm i v).ret j = s.ret j := id rfl
@[simp ↓] theorem State.setStrm_prv (s : State) (i j : Nat) (v : Strm) : (s.setStrm i v).prv j = s.prv j := id rfl
@[simp ↓] theorem State.setStrm_smt (s : State) (i j : Nat) (v : Strm) : (s.setStrm i v).smt j = s.smt j := id rfl
@[simp ↓] theorem State.setStrm_arm (s : State) (i j : Nat) (v : Strm) : (s.setStrm i v).arm j = s.arm j := id rfl
@[simp ↓] theorem State.setStrm_unit (s : State) (i j : Nat) (v : Strm) : (s.setStrm i v).unit j = s.unit j := id rfl
@[simp ↓] theorem State.setStrm_engine (s : State) (i j : Nat) (v : Strm) : (s.setStrm i v).engine j = s.engine j := id rfl
@[simp ↓] theorem State.setStrm_entry (s : State) (i j : Nat) (v : Strm) : (s.setStrm i v).entry j = s.entry j := id rfl
@[simp ↓] theorem State.setStrm_rlist (s : State) (i j : Nat) (v : Strm) : (s.setStrm i v).rlist j = s.rlist j := id rfl
@[simp ↓] theorem State.setStrm_producer (s : State) (i j : Nat) (v : Strm) : (s.setStrm i v).producer j = s.producer j := id rfl
@[simp ↓] theorem State.setStrm_queue (s : State) (i j : Nat) (v : Strm) : (s.setStrm i v).queue j = s.queue j := id rfl
@[simp ↓] theorem State.setStrm_code (s : State) (i j : Nat) (v : Strm) : (s.setStrm i v).code j = s.code j := id rfl
@[simp ↓] theorem State.setStrm_conv (s : State) (i j : Nat) (v : Strm) : (s.setStrm i v).conv j = s.conv j := id rfl
@[simp ↓] theorem State.setStrm_acc (s : State) (i j : Nat) (v : Strm) : (s.setStrm i v).acc j = s.acc j := id rfl
@[simp ↓] theorem State.setStrm_fin (s : State) (i j : Nat) (v : Strm) : (s.setStrm i v).fin j = s.fin j := id rfl
@[simp ↓] theorem State.setStrm_fout (s : State) (i j : Nat) (v : Strm) : (s.setStrm i v).fout j = s.fout j := id rfl
@[simp ↓] theorem State.setQueue_queue (s : State) (i j : Nat) (v : Queue) : (s.setQueue i v).queue j = if j = i then v else s.queue j := Tab.get_put _ _ _ _ _
@[simp ↓] theorem State.setQueue_str (s : State) (i j : Nat) (v : Queue) : (s.setQueue i v).str j = s.str j := id rfl
@[simp ↓] theorem State.setQueue_group (s : State) (i j : Nat) (v : Queue) : (s.setQueue i v).group j = s.group j := id rfl
@[simp ↓] theorem State.setQueue_stream (s : State) (i j : Nat) (v : Queue) : (s.setQueue i v).stream j = s.stream j := id rfl
@[simp ↓] theorem State.setQueue_ret (s : State) (i j : Nat) (v : Queue) : (s.setQueue i v).ret j = s.ret j := id rfl
@[simp ↓] theorem State.setQueue_prv (s : State) (i j : Nat) (v : Queue) : (s.setQueue i v).prv j = s.prv j := id rfl
@[simp ↓] theorem State.setQueue_smt (s : State) (i j : Nat) (v : Queue) : (s.setQueue i v).smt j = s.smt j := id rfl
@[simp ↓] theorem State.setQueue_arm (s : State) (i j : Nat) (v : Queue) : (s.setQueue i v).arm j = s.arm j := id rfl
@[simp ↓] theorem State.setQueue_unit (s : State) (i j : Nat) (v : Queue) : (s.setQueue i v).unit j = s.unit j := id rfl
@[simp ↓] theorem State.setQueue_engine (s : State) (i j : Nat) (v : Queue) : (s.setQueue i v).engine j = s.engine j := id rfl
@[simp ↓] theorem State.setQueue_entry (s : State) (i j : Nat) (v : Queue) : (s.setQueue i v).entry j = s.entry j := id rfl
@[simp ↓] theorem State.setQueue_rlist (s : State) (i j : Nat) (v : Queue) : (s.setQueue i v).rlist j = s.rlist j := id rfl
@[simp ↓] theorem State.setQueue_producer (s : State) (i j : Nat) (v : Queue) : (s.setQueue i v).producer j = s.producer j := id rfl
@[simp ↓] theorem State.setQueue_strm (s : State) (i j : Nat) (v : Queue) : (s.setQueue i v).strm j = s.strm j := id rfl
@[simp ↓] theorem State.setQueue_code (s : State) (i j : Nat) (v : Queue) : (s.setQueue i v).code j = s.code j := id rfl
@[simp ↓] theorem State.setQueue_conv (s : State) (i j : Nat) (v : Queue) : (s.setQueue i v).conv j = s.conv j := id rfl
@[simp ↓] theorem State.setQueue_acc (s : State) (i j : Nat) (v : Queue) : (s.setQueue i v).acc j = s.acc j := id rfl
@[simp ↓] theorem State.setQueue_fin (s : State) (i j : Nat) (v : Queue) : (s.setQueue i v).fin j = s.fin j := id rfl
@[simp ↓] theorem State.setQueue_fout (s : State) (i j : Nat) (v : Queue) : (s.setQueue i v).fout j = s.fout j := id rfl
@[simp ↓] theorem State.setCode_code (s : State) (i j : Nat) (v : CodeSt) : (s.setCode i v).code j = if j = i then v else s.code j := Tab.get_put _ _ _ _ _
@[simp ↓] theorem State.setCode_str (s : State) (i j : Nat) (v : CodeSt) : (s.setCode i v).str j = s.str j := id rfl
@[simp ↓] theorem State.setCode_group (s : State) (i j : Nat) (v : CodeSt) : (s.setCode i v).group j = s.group j := id rfl
@[simp ↓] theorem State.setCode_stream (s : State) (i j : Nat) (v : CodeSt) : (s.setCode i v).stream j = s.stream j := id rfl
@[simp ↓] theorem State.setCode_ret (s : State) (i j : Nat) (v : CodeSt) : (s.setCode i v).ret j = s.ret j := id rfl
@[simp ↓] theorem State.setCode_prv (s : State) (i j : Nat) (v : CodeSt) : (s.setCode i v).prv j = s.prv j := id rfl
@[simp ↓] theorem State.setCode_smt (s : State) (i j : Nat) (v : CodeSt) : (s.setCode i v).smt j = s.smt j := id rfl
@[simp ↓] theorem State.setCode_arm (s : State) (i j : Nat) (v : CodeSt) : (s.setCode i v).arm j = s.arm j := id rfl
@[simp ↓] theorem State.setCode_unit (s : State) (i j : Nat) (v : CodeSt) : (s.setCode i v).unit j = s.unit j := id rfl
@[simp ↓] theorem State.setCode_engine (s : State) (i j : Nat) (v : CodeSt) : (s.setCode i v).engine j = s.engine j := id rfl
@[simp ↓] theorem State.setCode_entry (s : State) (i j : Nat) (v : CodeSt) : (s.setCode i v).entry j = s.entry j := id rfl
@[simp ↓] theorem State.setCode_rlist (s : State) (i j : Nat) (v : CodeSt) : (s.setCode i v).rlist j = s.rlist j := id rfl
@[simp ↓] theorem State.setCode_producer (s : State) (i j : Nat) (v : CodeSt) : (s.setCode i v).producer j = s.producer j := id rfl
@[simp ↓] theorem State.setCode_strm (s : State) (i j : Nat) (v : CodeSt) : (s.setCode i v).strm j = s.strm j := id rfl
@[simp ↓] theorem State.setCode_queue (s : State) (i j : Nat) (v : CodeSt) : (s.setCode i v).queue j = s.queue j := id rfl
@[simp ↓] theorem State.setCode_conv (s : State) (i j : Nat) (v : CodeSt) : (s.setCode i v).conv j = s.conv j := id rfl
@[simp ↓] theorem State.setCode_acc (s : State) (i j : Nat) (v : CodeSt) : (s.setCode i v).acc j = s.acc j := id rfl
@[simp ↓] theorem State.setCode_fin (s : State) (i j : Nat) (v : CodeSt) : (s.setCode i v).fin j = s.fin j := id rfl
@[simp ↓] theorem State.setCode_fout (s : State) (i j : Nat) (v : CodeSt) : (s.setCode i v).fout j = s.fout j := id rfl
@[simp ↓] theorem State.setConv_conv (s : State) (i j : Nat) (v : Conv) : (s.setConv i v).conv j = if j = i then v else s.conv j := Tab.get_put _ _ _ _ _
@[simp ↓] theorem State.setConv_str (s : State) (i j : Nat) (v : Conv) : (s.setConv i v).str j = s.str j := id rfl
@[simp ↓] theorem State.setConv_group (s : State) (i j : Nat) (v : Conv) : (s.setConv i v).group j = s.group j := id rfl
@[simp ↓] theorem State.setConv_stream (s : State) (i j : Nat) (v : Conv) : (s.setConv i v).stream j = s.stream j := id rfl
@[simp ↓] theorem State.setConv_ret (s : State) (i j : Nat) (v : Conv) : (s.setConv i v).ret j = s.ret j := id rfl
@[simp ↓] theorem State.setConv_prv (s : State) (i j : Nat) (v : Conv) : (s.setConv i v).prv j = s.prv j := id rfl
@[simp ↓] theorem State.setConv_smt (s : State) (i j : Nat) (v : Conv) : (s.setConv i v).smt j = s.smt j := id rfl
@[simp ↓] theorem State.setConv_arm (s : State) (i j : Nat) (v : Conv) : (s.setConv i v).arm j = s.arm j := id rfl
@[simp ↓] theorem State.setConv_unit (s : State) (i j : Nat) (v : Conv) : (s.setConv i v).unit j = s.unit j := id rfl
@[simp ↓] theorem State.setConv_engine (s : State) (i j : Nat) (v : Conv) : (s.setConv i v).engine j = s.engine j := id rfl
@[simp ↓] theorem State.setConv_entry (s : State) (i j : Nat) (v : Conv) : (s.setConv i v).entry j = s.entry j := id rfl
@[simp ↓] theorem State.setConv_rlist (s : State) (i j : Nat) (v : Conv) : (s.setConv i v).rlist j = s.rlist j := id rfl
@[simp ↓] theorem State.setConv_producer (s : State) (i j : Nat) (v : Conv) : (s.setConv i v).producer j = s.producer j := id rfl
@[simp ↓] theorem State.setConv_strm (s : State) (i j : Nat) (v : Conv) : (s.setConv i v).strm j = s.strm j := id rfl
@[simp ↓] theorem State.setConv_queue (s : State) (i j : Nat) (v : Conv) : (s.setConv i v).queue j = s.queue j := id rfl
@[simp ↓] theorem State.setConv_code (s : State) (i j : Nat) (v : Conv) : (s.setConv i v).code j = s.code j := id rfl
@[simp ↓] theorem State.setConv_acc (s : State) (i j : Nat) (v : Conv) : (s.setConv i v).acc j = s.acc j := id rfl
@[simp ↓] theorem State.setConv_fin (s : State) (i j : Nat) (v : Conv) : (s.setConv i v).fin j = s.fin j := id rfl
@[simp ↓] theorem State.setConv_fout (s : State) (i j : Nat) (v : Conv) : (s.setConv i v).fout j = s.fout j := id rfl
@[simp ↓] theorem State.setAcc_acc (s : State) (i j : Nat) (v : AccSet) : (s.setAcc i v).acc j = if j = i then v else s.acc j := Tab.get_put _ _ _ _ _
@[simp ↓] theorem State.setAcc_str (s : State) (i j : Nat) (v : AccSet) : (s.setAcc i v).str j = s.str j := id rfl
@[simp ↓] theorem State.setAcc_group (s : State) (i j : Nat) (v : AccSet) : (s.setAcc i v).group j = s.group j := id rfl
@[simp ↓] theorem State.setAcc_stream (s : State) (i j : Nat) (v : AccSet) : (s.setAcc i v).stream j = s.stream j := id rfl
@[simp ↓] theorem State.setAcc_ret (s : State) (i j : Nat) (v : AccSet) : (s.setAcc i v).ret j = s.ret j := id rfl
@[simp ↓] theorem State.setAcc_prv (s : State) (i j : Nat) (v : AccSet) : (s.setAcc i v).prv j = s.prv j := id rfl
@[simp ↓] theorem State.setAcc_smt (s : State) (i j : Nat) (v : AccSet) : (s.setAcc i v).smt j = s.smt j := id rfl
@[simp ↓] theorem State.setAcc_arm (s : State) (i j : Nat) (v : AccSet) : (s.setAcc i v).arm j = s.arm j := id rfl
@[simp ↓] theorem State.setAcc_unit (s : State) (i j : Nat) (v : AccSet) : (s.setAcc i v).unit j = s.unit j := id rfl
@[simp ↓] theorem State.setAcc_engine (s : State) (i j : Nat) (v : AccSet) : (s.setAcc i v).engine j = s.engine j := id rfl
@[simp ↓] theorem State.setAcc_entry (s : State) (i j : Nat) (v : AccSet) : (s.setAcc i v).entry j = s.entry j := id rfl
@[simp ↓] theorem State.setAcc_rlist (s : State) (i j : Nat) (v : AccSet) : (s.setAcc i v).rlist j = s.rlist j := id rfl
@[simp ↓] theorem State.setAcc_producer (s : State) (i j : Nat) (v : AccSet) : (s.setAcc i v).producer j = s.producer j := id rfl
@[simp ↓] theorem State.setAcc_strm (s : State) (i j : Nat) (v : AccSet) : (s.setAcc i v).strm j = s.strm j := id rfl
@[simp ↓] theorem State.setAcc_queue (s : State) (i j : Nat) (v : AccSet) : (s.setAcc i v).queue j = s.queue j := id rfl
@[simp ↓] theorem State.setAcc_code (s : State) (i j : Nat) (v : AccSet) : (s.setAcc i v).code j = s.code j := id rfl
@[simp ↓] theorem State.setAcc_conv (s : State) (i j : Nat) (v : AccSet) : (s.setAcc i v).conv j = s.conv j := id rfl
@[simp ↓] theorem State.setAcc_fin (s : State) (i j : Nat) (v : AccSet) : (s.setAcc i v).fin j = s.fin j := id rfl
@[simp ↓] theorem State.setAcc_fout (s : State) (i j : Nat) (v : AccSet) : (s.setAcc i v).fout j = s.fout j := id rfl
@[simp ↓] theorem State.setFin_fin (s : State) (i j : Nat) (v : FieldIn) : (s.setFin i v).fin j = if j = i then v else s.fin j := Tab.get_put _ _ _ _ _
@[simp ↓] theorem State.setFin_str (s : State) (i j : Nat) (v : FieldIn) : (s.setFin i v).str j = s.str j := id rfl
@[simp ↓] theorem State.setFin_group (s : State) (i j : Nat) (v : FieldIn) : (s.setFin i v).group j = s.group j := id rfl
@[simp ↓] theorem State.setFin_stream (s : State) (i j : Nat) (v : FieldIn) : (s.setFin i v).stream j = s.stream j := id rfl
@[simp ↓] theorem State.setFin_ret (s : State) (i j : Nat) (v : FieldIn) : (s.setFin i v).ret j = s.ret j := id rfl
@[simp ↓] theorem State.setFin_prv (s : State) (i j : Nat) (v : FieldIn) : (s.setFin i v).prv j = s.prv j := id rfl
@[simp ↓] theorem State.setFin_smt (s : State) (i j : Nat) (v : FieldIn) : (s.setFin i v).smt j = s.smt j := id rfl
@[simp ↓] theorem State.setFin_arm (s : State) (i j : Nat) (v : FieldIn) : (s.setFin i v).arm j = s.arm j := id rfl
@[simp ↓] theorem State.setFin_unit (s : State) (i j : Nat) (v : FieldIn) : (s.setFin i v).unit j = s.unit j := id rfl
@[simp ↓] theorem State.setFin_engine (s : State) (i j : Nat) (v : FieldIn) : (s.setFin i v).engine j = s.engine j := id rfl
@[simp ↓] theorem State.setFin_entry (s : State) (i j : Nat) (v : FieldIn) : (s.setFin i v).entry j = s.entry j := id rfl
@[simp ↓] theorem State.setFin_rlist (s : State) (i j : Nat) (v : FieldIn) : (s.setFin i v).rlist j = s.rlist j := id rfl
@[simp ↓] theorem State.setFin_producer (s : State) (i j : Nat) (v : FieldIn) : (s.setFin i v).producer j = s.producer j := id rfl
@[simp ↓] theorem State.setFin_strm (s : State) (i j : Nat) (v : FieldIn) : (s.setFin i v).strm j = s.strm j := id rfl
@[simp ↓] theorem State.setFin_queue (s : State) (i j : Nat) (v : FieldIn) : (s.setFin i v).queue j = s.queue j := id rfl
@[simp ↓] theorem State.setFin_code (s : State) (i j : Nat) (v : FieldIn) : (s.setFin i v).code j = s.code j := id rfl
@[simp ↓] theorem State.setFin_conv (s : State) (i j : Nat) (v : FieldIn) : (s.setFin i v).conv j = s.conv j := id rfl
@[simp ↓] theorem State.setFin_acc (s : State) (i j : Nat) (v : FieldIn) : (s.setFin i v).acc j = s.acc j := id rfl
@[simp ↓] theorem State.setFin_fout (s : State) (i j : Nat) (v : FieldIn) : (s.setFin i v).fout j = s.fout j := id rfl
@[simp ↓] theorem State.setFout_fout (s : State) (i j : Nat) (v : FieldOut) : (s.setFout i v).fout j = if j = i then v else s.fout j := Tab.get_put _ _ _ _ _
@[simp ↓] theorem State.setFout_str (s : State) (i j : Nat) (v : FieldOut) : (s.setFout i v).str j = s.str j := id rfl
@[simp ↓] theorem State.setFout_group (s : State) (i j : Nat) (v : FieldOut) : (s.setFout i v).group j = s.group j := id rfl
@[simp ↓] theorem State.setFout_stream (s : State) (i j : Nat) (v : FieldOut) : (s.setFout i v).stream j = s.stream j := id rfl
@[simp ↓] theorem State.setFout_ret (s : State) (i j : Nat) (v : FieldOut) : (s.setFout i v).ret j = s.ret j := id rfl
@[simp ↓] theorem State.setFout_prv (s : State) (i j : Nat) (v : FieldOut) : (s.setFout i v).prv j = s.prv j := id rfl
@[simp ↓] theorem State.setFout_smt (s : State) (i j : Nat) (v : FieldOut) : (s.setFout i v).smt j = s.smt j := id rfl
@[simp ↓] theorem State.setFout_arm (s : State) (i j : Nat) (v : FieldOut) : (s.setFout i v).arm j = s.arm j := id rfl
@[simp ↓] theorem State.setFout_unit (s : State) (i j : Nat) (v : FieldOut) : (s.setFout i v).unit j = s.unit j := id rfl
@[simp ↓] theorem State.setFout_engine (s : State) (i j : Nat) (v : FieldOut) : (s.setFout i v).engine j = s.engine j := id rfl
@[simp ↓] theorem State.setFout_entry (s : State) (i j : Nat) (v : FieldOut) : (s.setFout i v).entry j = s.entry j := id rfl
@[simp ↓] theorem State.setFout_rlist (s : State) (i j : Nat) (v : FieldOut) : (s.setFout i v).rlist j = s.rlist j := id rfl
@[simp ↓] theorem State.setFout_producer (s : State) (i j : Nat) (v : FieldOut) : (s.setFout i v).producer j = s.producer j := id rfl
@[simp ↓] theorem State.setFout_strm (s : State) (i j : Nat) (v : FieldOut) : (s.setFout i v).strm j = s.strm j := id rfl
@[simp ↓] theorem State.setFout_queue (s : State) (i j : Nat) (v : FieldOut) : (s.setFout i v).queue j = s.queue j := id rfl
@[simp ↓] theorem State.setFout_code (s : State) (i j : Nat) (v : FieldOut) : (s.setFout i v).code j = s.code j := id rfl
@[simp ↓] theorem State.setFout_conv (s : State) (i j : Nat) (v : FieldOut) : (s.setFout i v).conv j = s.conv j := id rfl
@[simp ↓] theorem State.setFout_acc (s : State) (i j : Nat) (v : FieldOut) : (s.setFout i v).acc j = s.acc j := id rfl
@[simp ↓] theorem State.setFout_fin (s : State) (i j : Nat) (v : FieldOut) : (s.setFout i v).fin j = s.fin j := id rfl
@[simp ↓] theorem State.setStr_setStr (s : State) (i : Nat) (v w : Str) : (s.setStr i v).setStr i w = s.setStr i w := by
  simp only [State.setStr, State.onLamps, Tab.put_put]
@[simp ↓] theorem State.setGroup_setGroup (s : State) (i : Nat) (v w : Group) : (s.setGroup i v).setGroup i w = s.setGroup i w := by
  simp only [State.setGroup, State.onLamps, Tab.put_put]
@[simp ↓] theorem State.setStream_setStream (s : State) (i : Nat) (v w : Stream) : (s.setStream i v).setStream i w = s.setStream i w := by
  simp only [State.setStream, State.onLamps, Tab.put_put]
@[simp ↓] theorem State.setRet_setRet (s : State) (i : Nat) (v w : RetIn) : (s.setRet i v).setRet i w = s.setRet i w := by
  simp only [State.setRet, State.onLamps, Tab.put_put]
@[simp ↓] theorem State.setPrv_setPrv (s : State) (i : Nat) (v w : Prove) : (s.setPrv i v).setPrv i w = s.setPrv i w := by
  simp only [State.setPrv, State.onLamps, Tab.put_put]
@[simp ↓] theorem State.setSmt_setSmt (s : State) (i : Nat) (v w : Smt) : (s.setSmt i v).setSmt i w = s.setSmt i w := by
  simp only [State.setSmt, State.onWeir, Tab.put_put]
@[simp ↓] theorem State.setArm_setArm (s : State) (i : Nat) (v w : Arm) : (s.setArm i v).setArm i w = s.setArm i w := by
  simp only [State.setArm, State.onWeir, Tab.put_put]
@[simp ↓] theorem State.setUnit_setUnit (s : State) (i : Nat) (v w : ArmUnit) : (s.setUnit i v).setUnit i w = s.setUnit i w := by
  simp only [State.setUnit, State.onWeir, Tab.put_put]
@[simp ↓] theorem State.setEngine_setEngine (s : State) (i : Nat) (v w : Engine) : (s.setEngine i v).setEngine i w = s.setEngine i w := by
  simp only [State.setEngine, State.onFab, Tab.put_put]
@[simp ↓] theorem State.setEntry_setEntry (s : State) (i : Nat) (v w : Entry) : (s.setEntry i v).setEntry i w = s.setEntry i w := by
  simp only [State.setEntry, State.onFab, Tab.put_put]
@[simp ↓] theorem State.setRlist_setRlist (s : State) (i : Nat) (v w : ReadyList) : (s.setRlist i v).setRlist i w = s.setRlist i w := by
  simp only [State.setRlist, State.onFab, Tab.put_put]
@[simp ↓] theorem State.setProducer_setProducer (s : State) (i : Nat) (v w : Producer) : (s.setProducer i v).setProducer i w = s.setProducer i w := by
  simp only [State.setProducer, State.onFab, Tab.put_put]
@[simp ↓] theorem State.setStrm_setStrm (s : State) (i : Nat) (v w : Strm) : (s.setStrm i v).setStrm i w = s.setStrm i w := by
  simp only [State.setStrm, State.onFab, Tab.put_put]
@[simp ↓] theorem State.setQueue_setQueue (s : State) (i : Nat) (v w : Queue) : (s.setQueue i v).setQueue i w = s.setQueue i w := by
  simp only [State.setQueue, State.onHost, Tab.put_put]
@[simp ↓] theorem State.setCode_setCode (s : State) (i : Nat) (v w : CodeSt) : (s.setCode i v).setCode i w = s.setCode i w := by
  simp only [State.setCode, State.onFlt, Tab.put_put]
@[simp ↓] theorem State.setConv_setConv (s : State) (i : Nat) (v w : Conv) : (s.setConv i v).setConv i w = s.setConv i w := by
  simp only [State.setConv, State.onMsr, Tab.put_put]
@[simp ↓] theorem State.setAcc_setAcc (s : State) (i : Nat) (v w : AccSet) : (s.setAcc i v).setAcc i w = s.setAcc i w := by
  simp only [State.setAcc, State.onMsr, Tab.put_put]
@[simp ↓] theorem State.setFin_setFin (s : State) (i : Nat) (v w : FieldIn) : (s.setFin i v).setFin i w = s.setFin i w := by
  simp only [State.setFin, State.onField, Tab.put_put]
@[simp ↓] theorem State.setFout_setFout (s : State) (i : Nat) (v w : FieldOut) : (s.setFout i v).setFout i w = s.setFout i w := by
  simp only [State.setFout, State.onField, Tab.put_put]
@[simp ↓] theorem State.setReg_str (s : State) (o : Nat) (v : Word) (j : Nat) : (s.setReg o v).str j = s.str j := id rfl
@[simp ↓] theorem State.setFld_str (s : State) (o lo n v : Nat) (j : Nat) : (s.setFld o lo n v).str j = s.str j := id rfl
@[simp ↓] theorem State.setBit_str (s : State) (o b : Nat) (v : Bool) (j : Nat) : (s.setBit o b v).str j = s.str j := id rfl
@[simp ↓] theorem State.setLive_str (s : State) (o : Nat) (v : Word) (j : Nat) : (s.setLive o v).str j = s.str j := id rfl
@[simp ↓] theorem State.setHostByte_str (s : State) (a : Nat) (b : Byte) (j : Nat) : (s.setHostByte a b).str j = s.str j := id rfl
@[simp ↓] theorem State.onWeir_str (s : State) (f : Weir → Weir) (j : Nat) : (s.onWeir f).str j = s.str j := id rfl
@[simp ↓] theorem State.onChain_str (s : State) (f : Chain → Chain) (j : Nat) : (s.onChain f).str j = s.str j := id rfl
@[simp ↓] theorem State.onFab_str (s : State) (f : Fabric → Fabric) (j : Nat) : (s.onFab f).str j = s.str j := id rfl
@[simp ↓] theorem State.onHost_str (s : State) (f : HostIf → HostIf) (j : Nat) : (s.onHost f).str j = s.str j := id rfl
@[simp ↓] theorem State.onFlt_str (s : State) (f : Collector → Collector) (j : Nat) : (s.onFlt f).str j = s.str j := id rfl
@[simp ↓] theorem State.onClk_str (s : State) (f : Clocks → Clocks) (j : Nat) : (s.onClk f).str j = s.str j := id rfl
@[simp ↓] theorem State.onMsr_str (s : State) (f : Measure → Measure) (j : Nat) : (s.onMsr f).str j = s.str j := id rfl
@[simp ↓] theorem State.onBist_str (s : State) (f : Bist → Bist) (j : Nat) : (s.onBist f).str j = s.str j := id rfl
@[simp ↓] theorem State.onUpd_str (s : State) (f : Update → Update) (j : Nat) : (s.onUpd f).str j = s.str j := id rfl
@[simp ↓] theorem State.onPwr_str (s : State) (f : Power → Power) (j : Nat) : (s.onPwr f).str j = s.str j := id rfl
@[simp ↓] theorem State.onField_str (s : State) (f : FieldIf → FieldIf) (j : Nat) : (s.onField f).str j = s.str j := id rfl
@[simp ↓] theorem State.setStr_reg (s : State) (i off : Nat) (v : Str) : (s.setStr i v).reg off = s.reg off := id rfl
@[simp ↓] theorem State.setStr_liveReg (s : State) (i off : Nat) (v : Str) : (s.setStr i v).liveReg off = s.liveReg off := id rfl
@[simp ↓] theorem State.setReg_group (s : State) (o : Nat) (v : Word) (j : Nat) : (s.setReg o v).group j = s.group j := id rfl
@[simp ↓] theorem State.setFld_group (s : State) (o lo n v : Nat) (j : Nat) : (s.setFld o lo n v).group j = s.group j := id rfl
@[simp ↓] theorem State.setBit_group (s : State) (o b : Nat) (v : Bool) (j : Nat) : (s.setBit o b v).group j = s.group j := id rfl
@[simp ↓] theorem State.setLive_group (s : State) (o : Nat) (v : Word) (j : Nat) : (s.setLive o v).group j = s.group j := id rfl
@[simp ↓] theorem State.setHostByte_group (s : State) (a : Nat) (b : Byte) (j : Nat) : (s.setHostByte a b).group j = s.group j := id rfl
@[simp ↓] theorem State.onWeir_group (s : State) (f : Weir → Weir) (j : Nat) : (s.onWeir f).group j = s.group j := id rfl
@[simp ↓] theorem State.onChain_group (s : State) (f : Chain → Chain) (j : Nat) : (s.onChain f).group j = s.group j := id rfl
@[simp ↓] theorem State.onFab_group (s : State) (f : Fabric → Fabric) (j : Nat) : (s.onFab f).group j = s.group j := id rfl
@[simp ↓] theorem State.onHost_group (s : State) (f : HostIf → HostIf) (j : Nat) : (s.onHost f).group j = s.group j := id rfl
@[simp ↓] theorem State.onFlt_group (s : State) (f : Collector → Collector) (j : Nat) : (s.onFlt f).group j = s.group j := id rfl
@[simp ↓] theorem State.onClk_group (s : State) (f : Clocks → Clocks) (j : Nat) : (s.onClk f).group j = s.group j := id rfl
@[simp ↓] theorem State.onMsr_group (s : State) (f : Measure → Measure) (j : Nat) : (s.onMsr f).group j = s.group j := id rfl
@[simp ↓] theorem State.onBist_group (s : State) (f : Bist → Bist) (j : Nat) : (s.onBist f).group j = s.group j := id rfl
@[simp ↓] theorem State.onUpd_group (s : State) (f : Update → Update) (j : Nat) : (s.onUpd f).group j = s.group j := id rfl
@[simp ↓] theorem State.onPwr_group (s : State) (f : Power → Power) (j : Nat) : (s.onPwr f).group j = s.group j := id rfl
@[simp ↓] theorem State.onField_group (s : State) (f : FieldIf → FieldIf) (j : Nat) : (s.onField f).group j = s.group j := id rfl
@[simp ↓] theorem State.setGroup_reg (s : State) (i off : Nat) (v : Group) : (s.setGroup i v).reg off = s.reg off := id rfl
@[simp ↓] theorem State.setGroup_liveReg (s : State) (i off : Nat) (v : Group) : (s.setGroup i v).liveReg off = s.liveReg off := id rfl
@[simp ↓] theorem State.setReg_stream (s : State) (o : Nat) (v : Word) (j : Nat) : (s.setReg o v).stream j = s.stream j := id rfl
@[simp ↓] theorem State.setFld_stream (s : State) (o lo n v : Nat) (j : Nat) : (s.setFld o lo n v).stream j = s.stream j := id rfl
@[simp ↓] theorem State.setBit_stream (s : State) (o b : Nat) (v : Bool) (j : Nat) : (s.setBit o b v).stream j = s.stream j := id rfl
@[simp ↓] theorem State.setLive_stream (s : State) (o : Nat) (v : Word) (j : Nat) : (s.setLive o v).stream j = s.stream j := id rfl
@[simp ↓] theorem State.setHostByte_stream (s : State) (a : Nat) (b : Byte) (j : Nat) : (s.setHostByte a b).stream j = s.stream j := id rfl
@[simp ↓] theorem State.onWeir_stream (s : State) (f : Weir → Weir) (j : Nat) : (s.onWeir f).stream j = s.stream j := id rfl
@[simp ↓] theorem State.onChain_stream (s : State) (f : Chain → Chain) (j : Nat) : (s.onChain f).stream j = s.stream j := id rfl
@[simp ↓] theorem State.onFab_stream (s : State) (f : Fabric → Fabric) (j : Nat) : (s.onFab f).stream j = s.stream j := id rfl
@[simp ↓] theorem State.onHost_stream (s : State) (f : HostIf → HostIf) (j : Nat) : (s.onHost f).stream j = s.stream j := id rfl
@[simp ↓] theorem State.onFlt_stream (s : State) (f : Collector → Collector) (j : Nat) : (s.onFlt f).stream j = s.stream j := id rfl
@[simp ↓] theorem State.onClk_stream (s : State) (f : Clocks → Clocks) (j : Nat) : (s.onClk f).stream j = s.stream j := id rfl
@[simp ↓] theorem State.onMsr_stream (s : State) (f : Measure → Measure) (j : Nat) : (s.onMsr f).stream j = s.stream j := id rfl
@[simp ↓] theorem State.onBist_stream (s : State) (f : Bist → Bist) (j : Nat) : (s.onBist f).stream j = s.stream j := id rfl
@[simp ↓] theorem State.onUpd_stream (s : State) (f : Update → Update) (j : Nat) : (s.onUpd f).stream j = s.stream j := id rfl
@[simp ↓] theorem State.onPwr_stream (s : State) (f : Power → Power) (j : Nat) : (s.onPwr f).stream j = s.stream j := id rfl
@[simp ↓] theorem State.onField_stream (s : State) (f : FieldIf → FieldIf) (j : Nat) : (s.onField f).stream j = s.stream j := id rfl
@[simp ↓] theorem State.setStream_reg (s : State) (i off : Nat) (v : Stream) : (s.setStream i v).reg off = s.reg off := id rfl
@[simp ↓] theorem State.setStream_liveReg (s : State) (i off : Nat) (v : Stream) : (s.setStream i v).liveReg off = s.liveReg off := id rfl
@[simp ↓] theorem State.setReg_ret (s : State) (o : Nat) (v : Word) (j : Nat) : (s.setReg o v).ret j = s.ret j := id rfl
@[simp ↓] theorem State.setFld_ret (s : State) (o lo n v : Nat) (j : Nat) : (s.setFld o lo n v).ret j = s.ret j := id rfl
@[simp ↓] theorem State.setBit_ret (s : State) (o b : Nat) (v : Bool) (j : Nat) : (s.setBit o b v).ret j = s.ret j := id rfl
@[simp ↓] theorem State.setLive_ret (s : State) (o : Nat) (v : Word) (j : Nat) : (s.setLive o v).ret j = s.ret j := id rfl
@[simp ↓] theorem State.setHostByte_ret (s : State) (a : Nat) (b : Byte) (j : Nat) : (s.setHostByte a b).ret j = s.ret j := id rfl
@[simp ↓] theorem State.onWeir_ret (s : State) (f : Weir → Weir) (j : Nat) : (s.onWeir f).ret j = s.ret j := id rfl
@[simp ↓] theorem State.onChain_ret (s : State) (f : Chain → Chain) (j : Nat) : (s.onChain f).ret j = s.ret j := id rfl
@[simp ↓] theorem State.onFab_ret (s : State) (f : Fabric → Fabric) (j : Nat) : (s.onFab f).ret j = s.ret j := id rfl
@[simp ↓] theorem State.onHost_ret (s : State) (f : HostIf → HostIf) (j : Nat) : (s.onHost f).ret j = s.ret j := id rfl
@[simp ↓] theorem State.onFlt_ret (s : State) (f : Collector → Collector) (j : Nat) : (s.onFlt f).ret j = s.ret j := id rfl
@[simp ↓] theorem State.onClk_ret (s : State) (f : Clocks → Clocks) (j : Nat) : (s.onClk f).ret j = s.ret j := id rfl
@[simp ↓] theorem State.onMsr_ret (s : State) (f : Measure → Measure) (j : Nat) : (s.onMsr f).ret j = s.ret j := id rfl
@[simp ↓] theorem State.onBist_ret (s : State) (f : Bist → Bist) (j : Nat) : (s.onBist f).ret j = s.ret j := id rfl
@[simp ↓] theorem State.onUpd_ret (s : State) (f : Update → Update) (j : Nat) : (s.onUpd f).ret j = s.ret j := id rfl
@[simp ↓] theorem State.onPwr_ret (s : State) (f : Power → Power) (j : Nat) : (s.onPwr f).ret j = s.ret j := id rfl
@[simp ↓] theorem State.onField_ret (s : State) (f : FieldIf → FieldIf) (j : Nat) : (s.onField f).ret j = s.ret j := id rfl
@[simp ↓] theorem State.setRet_reg (s : State) (i off : Nat) (v : RetIn) : (s.setRet i v).reg off = s.reg off := id rfl
@[simp ↓] theorem State.setRet_liveReg (s : State) (i off : Nat) (v : RetIn) : (s.setRet i v).liveReg off = s.liveReg off := id rfl
@[simp ↓] theorem State.setReg_prv (s : State) (o : Nat) (v : Word) (j : Nat) : (s.setReg o v).prv j = s.prv j := id rfl
@[simp ↓] theorem State.setFld_prv (s : State) (o lo n v : Nat) (j : Nat) : (s.setFld o lo n v).prv j = s.prv j := id rfl
@[simp ↓] theorem State.setBit_prv (s : State) (o b : Nat) (v : Bool) (j : Nat) : (s.setBit o b v).prv j = s.prv j := id rfl
@[simp ↓] theorem State.setLive_prv (s : State) (o : Nat) (v : Word) (j : Nat) : (s.setLive o v).prv j = s.prv j := id rfl
@[simp ↓] theorem State.setHostByte_prv (s : State) (a : Nat) (b : Byte) (j : Nat) : (s.setHostByte a b).prv j = s.prv j := id rfl
@[simp ↓] theorem State.onWeir_prv (s : State) (f : Weir → Weir) (j : Nat) : (s.onWeir f).prv j = s.prv j := id rfl
@[simp ↓] theorem State.onChain_prv (s : State) (f : Chain → Chain) (j : Nat) : (s.onChain f).prv j = s.prv j := id rfl
@[simp ↓] theorem State.onFab_prv (s : State) (f : Fabric → Fabric) (j : Nat) : (s.onFab f).prv j = s.prv j := id rfl
@[simp ↓] theorem State.onHost_prv (s : State) (f : HostIf → HostIf) (j : Nat) : (s.onHost f).prv j = s.prv j := id rfl
@[simp ↓] theorem State.onFlt_prv (s : State) (f : Collector → Collector) (j : Nat) : (s.onFlt f).prv j = s.prv j := id rfl
@[simp ↓] theorem State.onClk_prv (s : State) (f : Clocks → Clocks) (j : Nat) : (s.onClk f).prv j = s.prv j := id rfl
@[simp ↓] theorem State.onMsr_prv (s : State) (f : Measure → Measure) (j : Nat) : (s.onMsr f).prv j = s.prv j := id rfl
@[simp ↓] theorem State.onBist_prv (s : State) (f : Bist → Bist) (j : Nat) : (s.onBist f).prv j = s.prv j := id rfl
@[simp ↓] theorem State.onUpd_prv (s : State) (f : Update → Update) (j : Nat) : (s.onUpd f).prv j = s.prv j := id rfl
@[simp ↓] theorem State.onPwr_prv (s : State) (f : Power → Power) (j : Nat) : (s.onPwr f).prv j = s.prv j := id rfl
@[simp ↓] theorem State.onField_prv (s : State) (f : FieldIf → FieldIf) (j : Nat) : (s.onField f).prv j = s.prv j := id rfl
@[simp ↓] theorem State.setPrv_reg (s : State) (i off : Nat) (v : Prove) : (s.setPrv i v).reg off = s.reg off := id rfl
@[simp ↓] theorem State.setPrv_liveReg (s : State) (i off : Nat) (v : Prove) : (s.setPrv i v).liveReg off = s.liveReg off := id rfl
@[simp ↓] theorem State.setReg_smt (s : State) (o : Nat) (v : Word) (j : Nat) : (s.setReg o v).smt j = s.smt j := id rfl
@[simp ↓] theorem State.setFld_smt (s : State) (o lo n v : Nat) (j : Nat) : (s.setFld o lo n v).smt j = s.smt j := id rfl
@[simp ↓] theorem State.setBit_smt (s : State) (o b : Nat) (v : Bool) (j : Nat) : (s.setBit o b v).smt j = s.smt j := id rfl
@[simp ↓] theorem State.setLive_smt (s : State) (o : Nat) (v : Word) (j : Nat) : (s.setLive o v).smt j = s.smt j := id rfl
@[simp ↓] theorem State.setHostByte_smt (s : State) (a : Nat) (b : Byte) (j : Nat) : (s.setHostByte a b).smt j = s.smt j := id rfl
@[simp ↓] theorem State.onLamps_smt (s : State) (f : Lamps → Lamps) (j : Nat) : (s.onLamps f).smt j = s.smt j := id rfl
@[simp ↓] theorem State.onChain_smt (s : State) (f : Chain → Chain) (j : Nat) : (s.onChain f).smt j = s.smt j := id rfl
@[simp ↓] theorem State.onFab_smt (s : State) (f : Fabric → Fabric) (j : Nat) : (s.onFab f).smt j = s.smt j := id rfl
@[simp ↓] theorem State.onHost_smt (s : State) (f : HostIf → HostIf) (j : Nat) : (s.onHost f).smt j = s.smt j := id rfl
@[simp ↓] theorem State.onFlt_smt (s : State) (f : Collector → Collector) (j : Nat) : (s.onFlt f).smt j = s.smt j := id rfl
@[simp ↓] theorem State.onClk_smt (s : State) (f : Clocks → Clocks) (j : Nat) : (s.onClk f).smt j = s.smt j := id rfl
@[simp ↓] theorem State.onMsr_smt (s : State) (f : Measure → Measure) (j : Nat) : (s.onMsr f).smt j = s.smt j := id rfl
@[simp ↓] theorem State.onBist_smt (s : State) (f : Bist → Bist) (j : Nat) : (s.onBist f).smt j = s.smt j := id rfl
@[simp ↓] theorem State.onUpd_smt (s : State) (f : Update → Update) (j : Nat) : (s.onUpd f).smt j = s.smt j := id rfl
@[simp ↓] theorem State.onPwr_smt (s : State) (f : Power → Power) (j : Nat) : (s.onPwr f).smt j = s.smt j := id rfl
@[simp ↓] theorem State.onField_smt (s : State) (f : FieldIf → FieldIf) (j : Nat) : (s.onField f).smt j = s.smt j := id rfl
@[simp ↓] theorem State.setSmt_reg (s : State) (i off : Nat) (v : Smt) : (s.setSmt i v).reg off = s.reg off := id rfl
@[simp ↓] theorem State.setSmt_liveReg (s : State) (i off : Nat) (v : Smt) : (s.setSmt i v).liveReg off = s.liveReg off := id rfl
@[simp ↓] theorem State.setReg_arm (s : State) (o : Nat) (v : Word) (j : Nat) : (s.setReg o v).arm j = s.arm j := id rfl
@[simp ↓] theorem State.setFld_arm (s : State) (o lo n v : Nat) (j : Nat) : (s.setFld o lo n v).arm j = s.arm j := id rfl
@[simp ↓] theorem State.setBit_arm (s : State) (o b : Nat) (v : Bool) (j : Nat) : (s.setBit o b v).arm j = s.arm j := id rfl
@[simp ↓] theorem State.setLive_arm (s : State) (o : Nat) (v : Word) (j : Nat) : (s.setLive o v).arm j = s.arm j := id rfl
@[simp ↓] theorem State.setHostByte_arm (s : State) (a : Nat) (b : Byte) (j : Nat) : (s.setHostByte a b).arm j = s.arm j := id rfl
@[simp ↓] theorem State.onLamps_arm (s : State) (f : Lamps → Lamps) (j : Nat) : (s.onLamps f).arm j = s.arm j := id rfl
@[simp ↓] theorem State.onChain_arm (s : State) (f : Chain → Chain) (j : Nat) : (s.onChain f).arm j = s.arm j := id rfl
@[simp ↓] theorem State.onFab_arm (s : State) (f : Fabric → Fabric) (j : Nat) : (s.onFab f).arm j = s.arm j := id rfl
@[simp ↓] theorem State.onHost_arm (s : State) (f : HostIf → HostIf) (j : Nat) : (s.onHost f).arm j = s.arm j := id rfl
@[simp ↓] theorem State.onFlt_arm (s : State) (f : Collector → Collector) (j : Nat) : (s.onFlt f).arm j = s.arm j := id rfl
@[simp ↓] theorem State.onClk_arm (s : State) (f : Clocks → Clocks) (j : Nat) : (s.onClk f).arm j = s.arm j := id rfl
@[simp ↓] theorem State.onMsr_arm (s : State) (f : Measure → Measure) (j : Nat) : (s.onMsr f).arm j = s.arm j := id rfl
@[simp ↓] theorem State.onBist_arm (s : State) (f : Bist → Bist) (j : Nat) : (s.onBist f).arm j = s.arm j := id rfl
@[simp ↓] theorem State.onUpd_arm (s : State) (f : Update → Update) (j : Nat) : (s.onUpd f).arm j = s.arm j := id rfl
@[simp ↓] theorem State.onPwr_arm (s : State) (f : Power → Power) (j : Nat) : (s.onPwr f).arm j = s.arm j := id rfl
@[simp ↓] theorem State.onField_arm (s : State) (f : FieldIf → FieldIf) (j : Nat) : (s.onField f).arm j = s.arm j := id rfl
@[simp ↓] theorem State.setArm_reg (s : State) (i off : Nat) (v : Arm) : (s.setArm i v).reg off = s.reg off := id rfl
@[simp ↓] theorem State.setArm_liveReg (s : State) (i off : Nat) (v : Arm) : (s.setArm i v).liveReg off = s.liveReg off := id rfl
@[simp ↓] theorem State.setReg_unit (s : State) (o : Nat) (v : Word) (j : Nat) : (s.setReg o v).unit j = s.unit j := id rfl
@[simp ↓] theorem State.setFld_unit (s : State) (o lo n v : Nat) (j : Nat) : (s.setFld o lo n v).unit j = s.unit j := id rfl
@[simp ↓] theorem State.setBit_unit (s : State) (o b : Nat) (v : Bool) (j : Nat) : (s.setBit o b v).unit j = s.unit j := id rfl
@[simp ↓] theorem State.setLive_unit (s : State) (o : Nat) (v : Word) (j : Nat) : (s.setLive o v).unit j = s.unit j := id rfl
@[simp ↓] theorem State.setHostByte_unit (s : State) (a : Nat) (b : Byte) (j : Nat) : (s.setHostByte a b).unit j = s.unit j := id rfl
@[simp ↓] theorem State.onLamps_unit (s : State) (f : Lamps → Lamps) (j : Nat) : (s.onLamps f).unit j = s.unit j := id rfl
@[simp ↓] theorem State.onChain_unit (s : State) (f : Chain → Chain) (j : Nat) : (s.onChain f).unit j = s.unit j := id rfl
@[simp ↓] theorem State.onFab_unit (s : State) (f : Fabric → Fabric) (j : Nat) : (s.onFab f).unit j = s.unit j := id rfl
@[simp ↓] theorem State.onHost_unit (s : State) (f : HostIf → HostIf) (j : Nat) : (s.onHost f).unit j = s.unit j := id rfl
@[simp ↓] theorem State.onFlt_unit (s : State) (f : Collector → Collector) (j : Nat) : (s.onFlt f).unit j = s.unit j := id rfl
@[simp ↓] theorem State.onClk_unit (s : State) (f : Clocks → Clocks) (j : Nat) : (s.onClk f).unit j = s.unit j := id rfl
@[simp ↓] theorem State.onMsr_unit (s : State) (f : Measure → Measure) (j : Nat) : (s.onMsr f).unit j = s.unit j := id rfl
@[simp ↓] theorem State.onBist_unit (s : State) (f : Bist → Bist) (j : Nat) : (s.onBist f).unit j = s.unit j := id rfl
@[simp ↓] theorem State.onUpd_unit (s : State) (f : Update → Update) (j : Nat) : (s.onUpd f).unit j = s.unit j := id rfl
@[simp ↓] theorem State.onPwr_unit (s : State) (f : Power → Power) (j : Nat) : (s.onPwr f).unit j = s.unit j := id rfl
@[simp ↓] theorem State.onField_unit (s : State) (f : FieldIf → FieldIf) (j : Nat) : (s.onField f).unit j = s.unit j := id rfl
@[simp ↓] theorem State.setUnit_reg (s : State) (i off : Nat) (v : ArmUnit) : (s.setUnit i v).reg off = s.reg off := id rfl
@[simp ↓] theorem State.setUnit_liveReg (s : State) (i off : Nat) (v : ArmUnit) : (s.setUnit i v).liveReg off = s.liveReg off := id rfl
@[simp ↓] theorem State.setReg_engine (s : State) (o : Nat) (v : Word) (j : Nat) : (s.setReg o v).engine j = s.engine j := id rfl
@[simp ↓] theorem State.setFld_engine (s : State) (o lo n v : Nat) (j : Nat) : (s.setFld o lo n v).engine j = s.engine j := id rfl
@[simp ↓] theorem State.setBit_engine (s : State) (o b : Nat) (v : Bool) (j : Nat) : (s.setBit o b v).engine j = s.engine j := id rfl
@[simp ↓] theorem State.setLive_engine (s : State) (o : Nat) (v : Word) (j : Nat) : (s.setLive o v).engine j = s.engine j := id rfl
@[simp ↓] theorem State.setHostByte_engine (s : State) (a : Nat) (b : Byte) (j : Nat) : (s.setHostByte a b).engine j = s.engine j := id rfl
@[simp ↓] theorem State.onLamps_engine (s : State) (f : Lamps → Lamps) (j : Nat) : (s.onLamps f).engine j = s.engine j := id rfl
@[simp ↓] theorem State.onWeir_engine (s : State) (f : Weir → Weir) (j : Nat) : (s.onWeir f).engine j = s.engine j := id rfl
@[simp ↓] theorem State.onChain_engine (s : State) (f : Chain → Chain) (j : Nat) : (s.onChain f).engine j = s.engine j := id rfl
@[simp ↓] theorem State.onHost_engine (s : State) (f : HostIf → HostIf) (j : Nat) : (s.onHost f).engine j = s.engine j := id rfl
@[simp ↓] theorem State.onFlt_engine (s : State) (f : Collector → Collector) (j : Nat) : (s.onFlt f).engine j = s.engine j := id rfl
@[simp ↓] theorem State.onClk_engine (s : State) (f : Clocks → Clocks) (j : Nat) : (s.onClk f).engine j = s.engine j := id rfl
@[simp ↓] theorem State.onMsr_engine (s : State) (f : Measure → Measure) (j : Nat) : (s.onMsr f).engine j = s.engine j := id rfl
@[simp ↓] theorem State.onBist_engine (s : State) (f : Bist → Bist) (j : Nat) : (s.onBist f).engine j = s.engine j := id rfl
@[simp ↓] theorem State.onUpd_engine (s : State) (f : Update → Update) (j : Nat) : (s.onUpd f).engine j = s.engine j := id rfl
@[simp ↓] theorem State.onPwr_engine (s : State) (f : Power → Power) (j : Nat) : (s.onPwr f).engine j = s.engine j := id rfl
@[simp ↓] theorem State.onField_engine (s : State) (f : FieldIf → FieldIf) (j : Nat) : (s.onField f).engine j = s.engine j := id rfl
@[simp ↓] theorem State.setEngine_reg (s : State) (i off : Nat) (v : Engine) : (s.setEngine i v).reg off = s.reg off := id rfl
@[simp ↓] theorem State.setEngine_liveReg (s : State) (i off : Nat) (v : Engine) : (s.setEngine i v).liveReg off = s.liveReg off := id rfl
@[simp ↓] theorem State.setReg_entry (s : State) (o : Nat) (v : Word) (j : Nat) : (s.setReg o v).entry j = s.entry j := id rfl
@[simp ↓] theorem State.setFld_entry (s : State) (o lo n v : Nat) (j : Nat) : (s.setFld o lo n v).entry j = s.entry j := id rfl
@[simp ↓] theorem State.setBit_entry (s : State) (o b : Nat) (v : Bool) (j : Nat) : (s.setBit o b v).entry j = s.entry j := id rfl
@[simp ↓] theorem State.setLive_entry (s : State) (o : Nat) (v : Word) (j : Nat) : (s.setLive o v).entry j = s.entry j := id rfl
@[simp ↓] theorem State.setHostByte_entry (s : State) (a : Nat) (b : Byte) (j : Nat) : (s.setHostByte a b).entry j = s.entry j := id rfl
@[simp ↓] theorem State.onLamps_entry (s : State) (f : Lamps → Lamps) (j : Nat) : (s.onLamps f).entry j = s.entry j := id rfl
@[simp ↓] theorem State.onWeir_entry (s : State) (f : Weir → Weir) (j : Nat) : (s.onWeir f).entry j = s.entry j := id rfl
@[simp ↓] theorem State.onChain_entry (s : State) (f : Chain → Chain) (j : Nat) : (s.onChain f).entry j = s.entry j := id rfl
@[simp ↓] theorem State.onHost_entry (s : State) (f : HostIf → HostIf) (j : Nat) : (s.onHost f).entry j = s.entry j := id rfl
@[simp ↓] theorem State.onFlt_entry (s : State) (f : Collector → Collector) (j : Nat) : (s.onFlt f).entry j = s.entry j := id rfl
@[simp ↓] theorem State.onClk_entry (s : State) (f : Clocks → Clocks) (j : Nat) : (s.onClk f).entry j = s.entry j := id rfl
@[simp ↓] theorem State.onMsr_entry (s : State) (f : Measure → Measure) (j : Nat) : (s.onMsr f).entry j = s.entry j := id rfl
@[simp ↓] theorem State.onBist_entry (s : State) (f : Bist → Bist) (j : Nat) : (s.onBist f).entry j = s.entry j := id rfl
@[simp ↓] theorem State.onUpd_entry (s : State) (f : Update → Update) (j : Nat) : (s.onUpd f).entry j = s.entry j := id rfl
@[simp ↓] theorem State.onPwr_entry (s : State) (f : Power → Power) (j : Nat) : (s.onPwr f).entry j = s.entry j := id rfl
@[simp ↓] theorem State.onField_entry (s : State) (f : FieldIf → FieldIf) (j : Nat) : (s.onField f).entry j = s.entry j := id rfl
@[simp ↓] theorem State.setEntry_reg (s : State) (i off : Nat) (v : Entry) : (s.setEntry i v).reg off = s.reg off := id rfl
@[simp ↓] theorem State.setEntry_liveReg (s : State) (i off : Nat) (v : Entry) : (s.setEntry i v).liveReg off = s.liveReg off := id rfl
@[simp ↓] theorem State.setReg_rlist (s : State) (o : Nat) (v : Word) (j : Nat) : (s.setReg o v).rlist j = s.rlist j := id rfl
@[simp ↓] theorem State.setFld_rlist (s : State) (o lo n v : Nat) (j : Nat) : (s.setFld o lo n v).rlist j = s.rlist j := id rfl
@[simp ↓] theorem State.setBit_rlist (s : State) (o b : Nat) (v : Bool) (j : Nat) : (s.setBit o b v).rlist j = s.rlist j := id rfl
@[simp ↓] theorem State.setLive_rlist (s : State) (o : Nat) (v : Word) (j : Nat) : (s.setLive o v).rlist j = s.rlist j := id rfl
@[simp ↓] theorem State.setHostByte_rlist (s : State) (a : Nat) (b : Byte) (j : Nat) : (s.setHostByte a b).rlist j = s.rlist j := id rfl
@[simp ↓] theorem State.onLamps_rlist (s : State) (f : Lamps → Lamps) (j : Nat) : (s.onLamps f).rlist j = s.rlist j := id rfl
@[simp ↓] theorem State.onWeir_rlist (s : State) (f : Weir → Weir) (j : Nat) : (s.onWeir f).rlist j = s.rlist j := id rfl
@[simp ↓] theorem State.onChain_rlist (s : State) (f : Chain → Chain) (j : Nat) : (s.onChain f).rlist j = s.rlist j := id rfl
@[simp ↓] theorem State.onHost_rlist (s : State) (f : HostIf → HostIf) (j : Nat) : (s.onHost f).rlist j = s.rlist j := id rfl
@[simp ↓] theorem State.onFlt_rlist (s : State) (f : Collector → Collector) (j : Nat) : (s.onFlt f).rlist j = s.rlist j := id rfl
@[simp ↓] theorem State.onClk_rlist (s : State) (f : Clocks → Clocks) (j : Nat) : (s.onClk f).rlist j = s.rlist j := id rfl
@[simp ↓] theorem State.onMsr_rlist (s : State) (f : Measure → Measure) (j : Nat) : (s.onMsr f).rlist j = s.rlist j := id rfl
@[simp ↓] theorem State.onBist_rlist (s : State) (f : Bist → Bist) (j : Nat) : (s.onBist f).rlist j = s.rlist j := id rfl
@[simp ↓] theorem State.onUpd_rlist (s : State) (f : Update → Update) (j : Nat) : (s.onUpd f).rlist j = s.rlist j := id rfl
@[simp ↓] theorem State.onPwr_rlist (s : State) (f : Power → Power) (j : Nat) : (s.onPwr f).rlist j = s.rlist j := id rfl
@[simp ↓] theorem State.onField_rlist (s : State) (f : FieldIf → FieldIf) (j : Nat) : (s.onField f).rlist j = s.rlist j := id rfl
@[simp ↓] theorem State.setRlist_reg (s : State) (i off : Nat) (v : ReadyList) : (s.setRlist i v).reg off = s.reg off := id rfl
@[simp ↓] theorem State.setRlist_liveReg (s : State) (i off : Nat) (v : ReadyList) : (s.setRlist i v).liveReg off = s.liveReg off := id rfl
@[simp ↓] theorem State.setReg_producer (s : State) (o : Nat) (v : Word) (j : Nat) : (s.setReg o v).producer j = s.producer j := id rfl
@[simp ↓] theorem State.setFld_producer (s : State) (o lo n v : Nat) (j : Nat) : (s.setFld o lo n v).producer j = s.producer j := id rfl
@[simp ↓] theorem State.setBit_producer (s : State) (o b : Nat) (v : Bool) (j : Nat) : (s.setBit o b v).producer j = s.producer j := id rfl
@[simp ↓] theorem State.setLive_producer (s : State) (o : Nat) (v : Word) (j : Nat) : (s.setLive o v).producer j = s.producer j := id rfl
@[simp ↓] theorem State.setHostByte_producer (s : State) (a : Nat) (b : Byte) (j : Nat) : (s.setHostByte a b).producer j = s.producer j := id rfl
@[simp ↓] theorem State.onLamps_producer (s : State) (f : Lamps → Lamps) (j : Nat) : (s.onLamps f).producer j = s.producer j := id rfl
@[simp ↓] theorem State.onWeir_producer (s : State) (f : Weir → Weir) (j : Nat) : (s.onWeir f).producer j = s.producer j := id rfl
@[simp ↓] theorem State.onChain_producer (s : State) (f : Chain → Chain) (j : Nat) : (s.onChain f).producer j = s.producer j := id rfl
@[simp ↓] theorem State.onHost_producer (s : State) (f : HostIf → HostIf) (j : Nat) : (s.onHost f).producer j = s.producer j := id rfl
@[simp ↓] theorem State.onFlt_producer (s : State) (f : Collector → Collector) (j : Nat) : (s.onFlt f).producer j = s.producer j := id rfl
@[simp ↓] theorem State.onClk_producer (s : State) (f : Clocks → Clocks) (j : Nat) : (s.onClk f).producer j = s.producer j := id rfl
@[simp ↓] theorem State.onMsr_producer (s : State) (f : Measure → Measure) (j : Nat) : (s.onMsr f).producer j = s.producer j := id rfl
@[simp ↓] theorem State.onBist_producer (s : State) (f : Bist → Bist) (j : Nat) : (s.onBist f).producer j = s.producer j := id rfl
@[simp ↓] theorem State.onUpd_producer (s : State) (f : Update → Update) (j : Nat) : (s.onUpd f).producer j = s.producer j := id rfl
@[simp ↓] theorem State.onPwr_producer (s : State) (f : Power → Power) (j : Nat) : (s.onPwr f).producer j = s.producer j := id rfl
@[simp ↓] theorem State.onField_producer (s : State) (f : FieldIf → FieldIf) (j : Nat) : (s.onField f).producer j = s.producer j := id rfl
@[simp ↓] theorem State.setProducer_reg (s : State) (i off : Nat) (v : Producer) : (s.setProducer i v).reg off = s.reg off := id rfl
@[simp ↓] theorem State.setProducer_liveReg (s : State) (i off : Nat) (v : Producer) : (s.setProducer i v).liveReg off = s.liveReg off := id rfl
@[simp ↓] theorem State.setReg_strm (s : State) (o : Nat) (v : Word) (j : Nat) : (s.setReg o v).strm j = s.strm j := id rfl
@[simp ↓] theorem State.setFld_strm (s : State) (o lo n v : Nat) (j : Nat) : (s.setFld o lo n v).strm j = s.strm j := id rfl
@[simp ↓] theorem State.setBit_strm (s : State) (o b : Nat) (v : Bool) (j : Nat) : (s.setBit o b v).strm j = s.strm j := id rfl
@[simp ↓] theorem State.setLive_strm (s : State) (o : Nat) (v : Word) (j : Nat) : (s.setLive o v).strm j = s.strm j := id rfl
@[simp ↓] theorem State.setHostByte_strm (s : State) (a : Nat) (b : Byte) (j : Nat) : (s.setHostByte a b).strm j = s.strm j := id rfl
@[simp ↓] theorem State.onLamps_strm (s : State) (f : Lamps → Lamps) (j : Nat) : (s.onLamps f).strm j = s.strm j := id rfl
@[simp ↓] theorem State.onWeir_strm (s : State) (f : Weir → Weir) (j : Nat) : (s.onWeir f).strm j = s.strm j := id rfl
@[simp ↓] theorem State.onChain_strm (s : State) (f : Chain → Chain) (j : Nat) : (s.onChain f).strm j = s.strm j := id rfl
@[simp ↓] theorem State.onHost_strm (s : State) (f : HostIf → HostIf) (j : Nat) : (s.onHost f).strm j = s.strm j := id rfl
@[simp ↓] theorem State.onFlt_strm (s : State) (f : Collector → Collector) (j : Nat) : (s.onFlt f).strm j = s.strm j := id rfl
@[simp ↓] theorem State.onClk_strm (s : State) (f : Clocks → Clocks) (j : Nat) : (s.onClk f).strm j = s.strm j := id rfl
@[simp ↓] theorem State.onMsr_strm (s : State) (f : Measure → Measure) (j : Nat) : (s.onMsr f).strm j = s.strm j := id rfl
@[simp ↓] theorem State.onBist_strm (s : State) (f : Bist → Bist) (j : Nat) : (s.onBist f).strm j = s.strm j := id rfl
@[simp ↓] theorem State.onUpd_strm (s : State) (f : Update → Update) (j : Nat) : (s.onUpd f).strm j = s.strm j := id rfl
@[simp ↓] theorem State.onPwr_strm (s : State) (f : Power → Power) (j : Nat) : (s.onPwr f).strm j = s.strm j := id rfl
@[simp ↓] theorem State.onField_strm (s : State) (f : FieldIf → FieldIf) (j : Nat) : (s.onField f).strm j = s.strm j := id rfl
@[simp ↓] theorem State.setStrm_reg (s : State) (i off : Nat) (v : Strm) : (s.setStrm i v).reg off = s.reg off := id rfl
@[simp ↓] theorem State.setStrm_liveReg (s : State) (i off : Nat) (v : Strm) : (s.setStrm i v).liveReg off = s.liveReg off := id rfl
@[simp ↓] theorem State.setReg_queue (s : State) (o : Nat) (v : Word) (j : Nat) : (s.setReg o v).queue j = s.queue j := id rfl
@[simp ↓] theorem State.setFld_queue (s : State) (o lo n v : Nat) (j : Nat) : (s.setFld o lo n v).queue j = s.queue j := id rfl
@[simp ↓] theorem State.setBit_queue (s : State) (o b : Nat) (v : Bool) (j : Nat) : (s.setBit o b v).queue j = s.queue j := id rfl
@[simp ↓] theorem State.setLive_queue (s : State) (o : Nat) (v : Word) (j : Nat) : (s.setLive o v).queue j = s.queue j := id rfl
@[simp ↓] theorem State.setHostByte_queue (s : State) (a : Nat) (b : Byte) (j : Nat) : (s.setHostByte a b).queue j = s.queue j := id rfl
@[simp ↓] theorem State.onLamps_queue (s : State) (f : Lamps → Lamps) (j : Nat) : (s.onLamps f).queue j = s.queue j := id rfl
@[simp ↓] theorem State.onWeir_queue (s : State) (f : Weir → Weir) (j : Nat) : (s.onWeir f).queue j = s.queue j := id rfl
@[simp ↓] theorem State.onChain_queue (s : State) (f : Chain → Chain) (j : Nat) : (s.onChain f).queue j = s.queue j := id rfl
@[simp ↓] theorem State.onFab_queue (s : State) (f : Fabric → Fabric) (j : Nat) : (s.onFab f).queue j = s.queue j := id rfl
@[simp ↓] theorem State.onFlt_queue (s : State) (f : Collector → Collector) (j : Nat) : (s.onFlt f).queue j = s.queue j := id rfl
@[simp ↓] theorem State.onClk_queue (s : State) (f : Clocks → Clocks) (j : Nat) : (s.onClk f).queue j = s.queue j := id rfl
@[simp ↓] theorem State.onMsr_queue (s : State) (f : Measure → Measure) (j : Nat) : (s.onMsr f).queue j = s.queue j := id rfl
@[simp ↓] theorem State.onBist_queue (s : State) (f : Bist → Bist) (j : Nat) : (s.onBist f).queue j = s.queue j := id rfl
@[simp ↓] theorem State.onUpd_queue (s : State) (f : Update → Update) (j : Nat) : (s.onUpd f).queue j = s.queue j := id rfl
@[simp ↓] theorem State.onPwr_queue (s : State) (f : Power → Power) (j : Nat) : (s.onPwr f).queue j = s.queue j := id rfl
@[simp ↓] theorem State.onField_queue (s : State) (f : FieldIf → FieldIf) (j : Nat) : (s.onField f).queue j = s.queue j := id rfl
@[simp ↓] theorem State.setQueue_reg (s : State) (i off : Nat) (v : Queue) : (s.setQueue i v).reg off = s.reg off := id rfl
@[simp ↓] theorem State.setQueue_liveReg (s : State) (i off : Nat) (v : Queue) : (s.setQueue i v).liveReg off = s.liveReg off := id rfl
@[simp ↓] theorem State.setReg_code (s : State) (o : Nat) (v : Word) (j : Nat) : (s.setReg o v).code j = s.code j := id rfl
@[simp ↓] theorem State.setFld_code (s : State) (o lo n v : Nat) (j : Nat) : (s.setFld o lo n v).code j = s.code j := id rfl
@[simp ↓] theorem State.setBit_code (s : State) (o b : Nat) (v : Bool) (j : Nat) : (s.setBit o b v).code j = s.code j := id rfl
@[simp ↓] theorem State.setLive_code (s : State) (o : Nat) (v : Word) (j : Nat) : (s.setLive o v).code j = s.code j := id rfl
@[simp ↓] theorem State.setHostByte_code (s : State) (a : Nat) (b : Byte) (j : Nat) : (s.setHostByte a b).code j = s.code j := id rfl
@[simp ↓] theorem State.onLamps_code (s : State) (f : Lamps → Lamps) (j : Nat) : (s.onLamps f).code j = s.code j := id rfl
@[simp ↓] theorem State.onWeir_code (s : State) (f : Weir → Weir) (j : Nat) : (s.onWeir f).code j = s.code j := id rfl
@[simp ↓] theorem State.onChain_code (s : State) (f : Chain → Chain) (j : Nat) : (s.onChain f).code j = s.code j := id rfl
@[simp ↓] theorem State.onFab_code (s : State) (f : Fabric → Fabric) (j : Nat) : (s.onFab f).code j = s.code j := id rfl
@[simp ↓] theorem State.onHost_code (s : State) (f : HostIf → HostIf) (j : Nat) : (s.onHost f).code j = s.code j := id rfl
@[simp ↓] theorem State.onClk_code (s : State) (f : Clocks → Clocks) (j : Nat) : (s.onClk f).code j = s.code j := id rfl
@[simp ↓] theorem State.onMsr_code (s : State) (f : Measure → Measure) (j : Nat) : (s.onMsr f).code j = s.code j := id rfl
@[simp ↓] theorem State.onBist_code (s : State) (f : Bist → Bist) (j : Nat) : (s.onBist f).code j = s.code j := id rfl
@[simp ↓] theorem State.onUpd_code (s : State) (f : Update → Update) (j : Nat) : (s.onUpd f).code j = s.code j := id rfl
@[simp ↓] theorem State.onPwr_code (s : State) (f : Power → Power) (j : Nat) : (s.onPwr f).code j = s.code j := id rfl
@[simp ↓] theorem State.onField_code (s : State) (f : FieldIf → FieldIf) (j : Nat) : (s.onField f).code j = s.code j := id rfl
@[simp ↓] theorem State.setCode_reg (s : State) (i off : Nat) (v : CodeSt) : (s.setCode i v).reg off = s.reg off := id rfl
@[simp ↓] theorem State.setCode_liveReg (s : State) (i off : Nat) (v : CodeSt) : (s.setCode i v).liveReg off = s.liveReg off := id rfl
@[simp ↓] theorem State.setReg_conv (s : State) (o : Nat) (v : Word) (j : Nat) : (s.setReg o v).conv j = s.conv j := id rfl
@[simp ↓] theorem State.setFld_conv (s : State) (o lo n v : Nat) (j : Nat) : (s.setFld o lo n v).conv j = s.conv j := id rfl
@[simp ↓] theorem State.setBit_conv (s : State) (o b : Nat) (v : Bool) (j : Nat) : (s.setBit o b v).conv j = s.conv j := id rfl
@[simp ↓] theorem State.setLive_conv (s : State) (o : Nat) (v : Word) (j : Nat) : (s.setLive o v).conv j = s.conv j := id rfl
@[simp ↓] theorem State.setHostByte_conv (s : State) (a : Nat) (b : Byte) (j : Nat) : (s.setHostByte a b).conv j = s.conv j := id rfl
@[simp ↓] theorem State.onLamps_conv (s : State) (f : Lamps → Lamps) (j : Nat) : (s.onLamps f).conv j = s.conv j := id rfl
@[simp ↓] theorem State.onWeir_conv (s : State) (f : Weir → Weir) (j : Nat) : (s.onWeir f).conv j = s.conv j := id rfl
@[simp ↓] theorem State.onChain_conv (s : State) (f : Chain → Chain) (j : Nat) : (s.onChain f).conv j = s.conv j := id rfl
@[simp ↓] theorem State.onFab_conv (s : State) (f : Fabric → Fabric) (j : Nat) : (s.onFab f).conv j = s.conv j := id rfl
@[simp ↓] theorem State.onHost_conv (s : State) (f : HostIf → HostIf) (j : Nat) : (s.onHost f).conv j = s.conv j := id rfl
@[simp ↓] theorem State.onFlt_conv (s : State) (f : Collector → Collector) (j : Nat) : (s.onFlt f).conv j = s.conv j := id rfl
@[simp ↓] theorem State.onClk_conv (s : State) (f : Clocks → Clocks) (j : Nat) : (s.onClk f).conv j = s.conv j := id rfl
@[simp ↓] theorem State.onBist_conv (s : State) (f : Bist → Bist) (j : Nat) : (s.onBist f).conv j = s.conv j := id rfl
@[simp ↓] theorem State.onUpd_conv (s : State) (f : Update → Update) (j : Nat) : (s.onUpd f).conv j = s.conv j := id rfl
@[simp ↓] theorem State.onPwr_conv (s : State) (f : Power → Power) (j : Nat) : (s.onPwr f).conv j = s.conv j := id rfl
@[simp ↓] theorem State.onField_conv (s : State) (f : FieldIf → FieldIf) (j : Nat) : (s.onField f).conv j = s.conv j := id rfl
@[simp ↓] theorem State.setConv_reg (s : State) (i off : Nat) (v : Conv) : (s.setConv i v).reg off = s.reg off := id rfl
@[simp ↓] theorem State.setConv_liveReg (s : State) (i off : Nat) (v : Conv) : (s.setConv i v).liveReg off = s.liveReg off := id rfl
@[simp ↓] theorem State.setReg_acc (s : State) (o : Nat) (v : Word) (j : Nat) : (s.setReg o v).acc j = s.acc j := id rfl
@[simp ↓] theorem State.setFld_acc (s : State) (o lo n v : Nat) (j : Nat) : (s.setFld o lo n v).acc j = s.acc j := id rfl
@[simp ↓] theorem State.setBit_acc (s : State) (o b : Nat) (v : Bool) (j : Nat) : (s.setBit o b v).acc j = s.acc j := id rfl
@[simp ↓] theorem State.setLive_acc (s : State) (o : Nat) (v : Word) (j : Nat) : (s.setLive o v).acc j = s.acc j := id rfl
@[simp ↓] theorem State.setHostByte_acc (s : State) (a : Nat) (b : Byte) (j : Nat) : (s.setHostByte a b).acc j = s.acc j := id rfl
@[simp ↓] theorem State.onLamps_acc (s : State) (f : Lamps → Lamps) (j : Nat) : (s.onLamps f).acc j = s.acc j := id rfl
@[simp ↓] theorem State.onWeir_acc (s : State) (f : Weir → Weir) (j : Nat) : (s.onWeir f).acc j = s.acc j := id rfl
@[simp ↓] theorem State.onChain_acc (s : State) (f : Chain → Chain) (j : Nat) : (s.onChain f).acc j = s.acc j := id rfl
@[simp ↓] theorem State.onFab_acc (s : State) (f : Fabric → Fabric) (j : Nat) : (s.onFab f).acc j = s.acc j := id rfl
@[simp ↓] theorem State.onHost_acc (s : State) (f : HostIf → HostIf) (j : Nat) : (s.onHost f).acc j = s.acc j := id rfl
@[simp ↓] theorem State.onFlt_acc (s : State) (f : Collector → Collector) (j : Nat) : (s.onFlt f).acc j = s.acc j := id rfl
@[simp ↓] theorem State.onClk_acc (s : State) (f : Clocks → Clocks) (j : Nat) : (s.onClk f).acc j = s.acc j := id rfl
@[simp ↓] theorem State.onBist_acc (s : State) (f : Bist → Bist) (j : Nat) : (s.onBist f).acc j = s.acc j := id rfl
@[simp ↓] theorem State.onUpd_acc (s : State) (f : Update → Update) (j : Nat) : (s.onUpd f).acc j = s.acc j := id rfl
@[simp ↓] theorem State.onPwr_acc (s : State) (f : Power → Power) (j : Nat) : (s.onPwr f).acc j = s.acc j := id rfl
@[simp ↓] theorem State.onField_acc (s : State) (f : FieldIf → FieldIf) (j : Nat) : (s.onField f).acc j = s.acc j := id rfl
@[simp ↓] theorem State.setAcc_reg (s : State) (i off : Nat) (v : AccSet) : (s.setAcc i v).reg off = s.reg off := id rfl
@[simp ↓] theorem State.setAcc_liveReg (s : State) (i off : Nat) (v : AccSet) : (s.setAcc i v).liveReg off = s.liveReg off := id rfl
@[simp ↓] theorem State.setReg_fin (s : State) (o : Nat) (v : Word) (j : Nat) : (s.setReg o v).fin j = s.fin j := id rfl
@[simp ↓] theorem State.setFld_fin (s : State) (o lo n v : Nat) (j : Nat) : (s.setFld o lo n v).fin j = s.fin j := id rfl
@[simp ↓] theorem State.setBit_fin (s : State) (o b : Nat) (v : Bool) (j : Nat) : (s.setBit o b v).fin j = s.fin j := id rfl
@[simp ↓] theorem State.setLive_fin (s : State) (o : Nat) (v : Word) (j : Nat) : (s.setLive o v).fin j = s.fin j := id rfl
@[simp ↓] theorem State.setHostByte_fin (s : State) (a : Nat) (b : Byte) (j : Nat) : (s.setHostByte a b).fin j = s.fin j := id rfl
@[simp ↓] theorem State.onLamps_fin (s : State) (f : Lamps → Lamps) (j : Nat) : (s.onLamps f).fin j = s.fin j := id rfl
@[simp ↓] theorem State.onWeir_fin (s : State) (f : Weir → Weir) (j : Nat) : (s.onWeir f).fin j = s.fin j := id rfl
@[simp ↓] theorem State.onChain_fin (s : State) (f : Chain → Chain) (j : Nat) : (s.onChain f).fin j = s.fin j := id rfl
@[simp ↓] theorem State.onFab_fin (s : State) (f : Fabric → Fabric) (j : Nat) : (s.onFab f).fin j = s.fin j := id rfl
@[simp ↓] theorem State.onHost_fin (s : State) (f : HostIf → HostIf) (j : Nat) : (s.onHost f).fin j = s.fin j := id rfl
@[simp ↓] theorem State.onFlt_fin (s : State) (f : Collector → Collector) (j : Nat) : (s.onFlt f).fin j = s.fin j := id rfl
@[simp ↓] theorem State.onClk_fin (s : State) (f : Clocks → Clocks) (j : Nat) : (s.onClk f).fin j = s.fin j := id rfl
@[simp ↓] theorem State.onMsr_fin (s : State) (f : Measure → Measure) (j : Nat) : (s.onMsr f).fin j = s.fin j := id rfl
@[simp ↓] theorem State.onBist_fin (s : State) (f : Bist → Bist) (j : Nat) : (s.onBist f).fin j = s.fin j := id rfl
@[simp ↓] theorem State.onUpd_fin (s : State) (f : Update → Update) (j : Nat) : (s.onUpd f).fin j = s.fin j := id rfl
@[simp ↓] theorem State.onPwr_fin (s : State) (f : Power → Power) (j : Nat) : (s.onPwr f).fin j = s.fin j := id rfl
@[simp ↓] theorem State.setFin_reg (s : State) (i off : Nat) (v : FieldIn) : (s.setFin i v).reg off = s.reg off := id rfl
@[simp ↓] theorem State.setFin_liveReg (s : State) (i off : Nat) (v : FieldIn) : (s.setFin i v).liveReg off = s.liveReg off := id rfl
@[simp ↓] theorem State.setReg_fout (s : State) (o : Nat) (v : Word) (j : Nat) : (s.setReg o v).fout j = s.fout j := id rfl
@[simp ↓] theorem State.setFld_fout (s : State) (o lo n v : Nat) (j : Nat) : (s.setFld o lo n v).fout j = s.fout j := id rfl
@[simp ↓] theorem State.setBit_fout (s : State) (o b : Nat) (v : Bool) (j : Nat) : (s.setBit o b v).fout j = s.fout j := id rfl
@[simp ↓] theorem State.setLive_fout (s : State) (o : Nat) (v : Word) (j : Nat) : (s.setLive o v).fout j = s.fout j := id rfl
@[simp ↓] theorem State.setHostByte_fout (s : State) (a : Nat) (b : Byte) (j : Nat) : (s.setHostByte a b).fout j = s.fout j := id rfl
@[simp ↓] theorem State.onLamps_fout (s : State) (f : Lamps → Lamps) (j : Nat) : (s.onLamps f).fout j = s.fout j := id rfl
@[simp ↓] theorem State.onWeir_fout (s : State) (f : Weir → Weir) (j : Nat) : (s.onWeir f).fout j = s.fout j := id rfl
@[simp ↓] theorem State.onChain_fout (s : State) (f : Chain → Chain) (j : Nat) : (s.onChain f).fout j = s.fout j := id rfl
@[simp ↓] theorem State.onFab_fout (s : State) (f : Fabric → Fabric) (j : Nat) : (s.onFab f).fout j = s.fout j := id rfl
@[simp ↓] theorem State.onHost_fout (s : State) (f : HostIf → HostIf) (j : Nat) : (s.onHost f).fout j = s.fout j := id rfl
@[simp ↓] theorem State.onFlt_fout (s : State) (f : Collector → Collector) (j : Nat) : (s.onFlt f).fout j = s.fout j := id rfl
@[simp ↓] theorem State.onClk_fout (s : State) (f : Clocks → Clocks) (j : Nat) : (s.onClk f).fout j = s.fout j := id rfl
@[simp ↓] theorem State.onMsr_fout (s : State) (f : Measure → Measure) (j : Nat) : (s.onMsr f).fout j = s.fout j := id rfl
@[simp ↓] theorem State.onBist_fout (s : State) (f : Bist → Bist) (j : Nat) : (s.onBist f).fout j = s.fout j := id rfl
@[simp ↓] theorem State.onUpd_fout (s : State) (f : Update → Update) (j : Nat) : (s.onUpd f).fout j = s.fout j := id rfl
@[simp ↓] theorem State.onPwr_fout (s : State) (f : Power → Power) (j : Nat) : (s.onPwr f).fout j = s.fout j := id rfl
@[simp ↓] theorem State.setFout_reg (s : State) (i off : Nat) (v : FieldOut) : (s.setFout i v).reg off = s.reg off := id rfl
@[simp ↓] theorem State.setFout_liveReg (s : State) (i off : Nat) (v : FieldOut) : (s.setFout i v).liveReg off = s.liveReg off := id rfl
@[simp ↓] theorem State.onLamps_reg (s : State) (f : Lamps → Lamps) (off : Nat) : (s.onLamps f).reg off = s.reg off := id rfl
@[simp ↓] theorem State.onLamps_liveReg (s : State) (f : Lamps → Lamps) (off : Nat) : (s.onLamps f).liveReg off = s.liveReg off := id rfl
@[simp ↓] theorem State.onWeir_reg (s : State) (f : Weir → Weir) (off : Nat) : (s.onWeir f).reg off = s.reg off := id rfl
@[simp ↓] theorem State.onWeir_liveReg (s : State) (f : Weir → Weir) (off : Nat) : (s.onWeir f).liveReg off = s.liveReg off := id rfl
@[simp ↓] theorem State.onChain_reg (s : State) (f : Chain → Chain) (off : Nat) : (s.onChain f).reg off = s.reg off := id rfl
@[simp ↓] theorem State.onChain_liveReg (s : State) (f : Chain → Chain) (off : Nat) : (s.onChain f).liveReg off = s.liveReg off := id rfl
@[simp ↓] theorem State.onFab_reg (s : State) (f : Fabric → Fabric) (off : Nat) : (s.onFab f).reg off = s.reg off := id rfl
@[simp ↓] theorem State.onFab_liveReg (s : State) (f : Fabric → Fabric) (off : Nat) : (s.onFab f).liveReg off = s.liveReg off := id rfl
@[simp ↓] theorem State.onHost_reg (s : State) (f : HostIf → HostIf) (off : Nat) : (s.onHost f).reg off = s.reg off := id rfl
@[simp ↓] theorem State.onHost_liveReg (s : State) (f : HostIf → HostIf) (off : Nat) : (s.onHost f).liveReg off = s.liveReg off := id rfl
@[simp ↓] theorem State.onFlt_reg (s : State) (f : Collector → Collector) (off : Nat) : (s.onFlt f).reg off = s.reg off := id rfl
@[simp ↓] theorem State.onFlt_liveReg (s : State) (f : Collector → Collector) (off : Nat) : (s.onFlt f).liveReg off = s.liveReg off := id rfl
@[simp ↓] theorem State.onClk_reg (s : State) (f : Clocks → Clocks) (off : Nat) : (s.onClk f).reg off = s.reg off := id rfl
@[simp ↓] theorem State.onClk_liveReg (s : State) (f : Clocks → Clocks) (off : Nat) : (s.onClk f).liveReg off = s.liveReg off := id rfl
@[simp ↓] theorem State.onMsr_reg (s : State) (f : Measure → Measure) (off : Nat) : (s.onMsr f).reg off = s.reg off := id rfl
@[simp ↓] theorem State.onMsr_liveReg (s : State) (f : Measure → Measure) (off : Nat) : (s.onMsr f).liveReg off = s.liveReg off := id rfl
@[simp ↓] theorem State.onBist_reg (s : State) (f : Bist → Bist) (off : Nat) : (s.onBist f).reg off = s.reg off := id rfl
@[simp ↓] theorem State.onBist_liveReg (s : State) (f : Bist → Bist) (off : Nat) : (s.onBist f).liveReg off = s.liveReg off := id rfl
@[simp ↓] theorem State.onUpd_reg (s : State) (f : Update → Update) (off : Nat) : (s.onUpd f).reg off = s.reg off := id rfl
@[simp ↓] theorem State.onUpd_liveReg (s : State) (f : Update → Update) (off : Nat) : (s.onUpd f).liveReg off = s.liveReg off := id rfl
@[simp ↓] theorem State.onPwr_reg (s : State) (f : Power → Power) (off : Nat) : (s.onPwr f).reg off = s.reg off := id rfl
@[simp ↓] theorem State.onPwr_liveReg (s : State) (f : Power → Power) (off : Nat) : (s.onPwr f).liveReg off = s.liveReg off := id rfl
@[simp ↓] theorem State.onField_reg (s : State) (f : FieldIf → FieldIf) (off : Nat) : (s.onField f).reg off = s.reg off := id rfl
@[simp ↓] theorem State.onField_liveReg (s : State) (f : FieldIf → FieldIf) (off : Nat) : (s.onField f).liveReg off = s.liveReg off := id rfl
@[simp ↓] theorem State.setReg_reg (s : State) (o off : Nat) (v : Word) : (s.setReg o v).reg off = if off = o then v else s.reg off := Tab.get_put _ _ _ _ _
@[simp ↓] theorem State.setReg_liveReg (s : State) (o off : Nat) (v : Word) : (s.setReg o v).liveReg off = s.liveReg off := id rfl
@[simp ↓] theorem State.setLive_liveReg (s : State) (o off : Nat) (v : Word) : (s.setLive o v).liveReg off = if off = o then v else s.liveReg off := Tab.get_put _ _ _ _ _
@[simp ↓] theorem State.setLive_reg (s : State) (o off : Nat) (v : Word) : (s.setLive o v).reg off = s.reg off := id rfl
@[simp ↓] theorem State.setHostByte_reg (s : State) (a off : Nat) (b : Byte) : (s.setHostByte a b).reg off = s.reg off := id rfl
@[simp ↓] theorem State.setHostByte_hostByte (s : State) (a i : Nat) (b : Byte) : (s.setHostByte a b).hostByte i = if i = a then b else s.hostByte i := Tab.get_put _ _ _ _ _

end Sys2Proof.Machine
end

