-- ==== Sys2Proof/Laws/Command.lean ====
section
/-! SUPPORT. What a command packet does (R298, R299, R301): nothing while the block executes no command, a refusal by its header or its
parameter bits, else its own effect and its reply. -/

namespace Sys2Proof.Machine

variable {s : State} {op : Op} {p : Packet} {own : State → Result}

theorem State.command_idle (h : s.serving = false) : s.command op p own = s := by simp [State.command, h]

theorem State.command_passed (h : s.mayExecute op p = false) : s.command op p own = s := by simp [State.command, h]

theorem State.command_refused {st d : Nat} (h : s.serving = true) (hm : s.mayExecute op p = true) (hf : s.headerFails op p = some (st, d)) :
    s.command op p own =
      (s.onQueue p.src (fun q => { q with refusedHeader := satAdd 32 q.refusedHeader 1 })).answer op p st d [] := by
  simp [State.command, h, hm, hf]

theorem State.command_unclean (h : s.serving = true) (hm : s.mayExecute op p = true) (hf : s.headerFails op p = none)
    (hc : op.paramsClean p = false) : s.command op p own = s.answer op p Status.badParam 0x0A [] := by
  simp [State.command, h, hm, hf, hc]

theorem State.command_reply {t : State} {st d : Nat} {data : List Word} (h : s.accepts op p) (ho : own s = t.reply st d data) :
    s.command op p own = t.answer op p st d data := by
  simp [State.command, h.1, h.2.1, h.2.2.1, h.2.2.2, ho, State.reply]

theorem State.command_later {t : State} (h : s.accepts op p) (ho : own s = t.later) : s.command op p own = t.begin p := by
  simp [State.command, h.1, h.2.1, h.2.2.1, h.2.2.2, ho, State.later]

end Sys2Proof.Machine
end

