-- ==== Sys2Proof/Laws/Dma.lean ====
section
/-! SUPPORT. What a DMA write does: its bytes stand at their addresses, every other byte and everything but host memory is as before. -/

namespace Sys2Proof.Machine

theorem bytesOf_length (ws : List Word) : (bytesOf ws).length = 4 * ws.length := by
  unfold bytesOf
  induction ws with
  | nil => rfl
  | cons w ws ih => rw [List.flatMap_cons, List.length_append, ih]; simp [wordBytes]; omega

/-- A DMA write changes host memory only. -/
theorem State.dmaWrite_eq (s : State) (a : Nat) (bs : List Byte) : s.dmaWrite a bs = { s with hostMem := (s.dmaWrite a bs).hostMem } := by
  induction bs generalizing s a with
  | nil => rfl
  | cons b bs ih => unfold State.dmaWrite; rw [ih]; rfl

/-- A byte of host memory after a DMA write. -/
theorem State.dmaWrite_hostByte (s : State) (a i : Nat) (bs : List Byte) :
    (s.dmaWrite a bs).hostByte i = if a ≤ i ∧ i < a + bs.length then bs.getD (i - a) 0 else s.hostByte i := by
  induction bs generalizing s a with
  | nil => simp [State.dmaWrite]
  | cons b bs ih =>
    unfold State.dmaWrite
    rw [ih, State.setHostByte_hostByte]
    by_cases h1 : i = a
    · subst h1
      rw [if_neg (by omega), if_pos rfl, if_pos (by simp)]
      simp
    · by_cases h2 : a + 1 ≤ i ∧ i < a + 1 + bs.length
      · have h3 : a ≤ i ∧ i < a + (b :: bs).length := by simp; omega
        rw [if_pos h2, if_pos h3, show i - a = (i - (a + 1)) + 1 by omega]
        simp
      · have h3 : ¬ (a ≤ i ∧ i < a + (b :: bs).length) := by simp; omega
        rw [if_neg h2, if_neg h3, if_neg h1]

/-- The bytes written are read back. -/
theorem State.dmaRead_dmaWrite (s : State) (a : Nat) (bs : List Byte) : (s.dmaWrite a bs).dmaRead a bs.length = bs := by
  unfold State.dmaRead
  apply List.ext_getElem
  · simp
  · intro i h3 h4
    simp at h3
    simp [State.dmaWrite_hostByte, h3]

end Sys2Proof.Machine
end

