-- ==== Sys2Proof/Laws/HostMemory.lean ====
section
/-! SUPPORT. What operations do to host memory: those that reach no DMA write leave it alone, and every other keeps its canonical form. -/

namespace Sys2Proof.Machine

@[simp ↓] theorem ite_hostMem (c : Prop) [Decidable c] (a b : State) : (if c then a else b).hostMem = if c then a.hostMem else b.hostMem := by split <;> rfl

@[simp ↓] theorem State.when_hostMem (s : State) (c : Bool) (f : State → State) (h : ∀ s, (f s).hostMem = s.hostMem) : (s.when c f).hostMem = s.hostMem := by
  unfold State.when; split <;> simp [h]

@[simp] theorem State.when_memWf (s : State) (c : Bool) (f : State → State)
    (hf : ∀ s, Memory.wf s.hostMem → Memory.wf (f s).hostMem) (h : Memory.wf s.hostMem) : Memory.wf (s.when c f).hostMem := by
  unfold State.when; split
  · exact hf _ h
  · exact h

@[simp ↓] theorem State.each_hostMem {α : Type} (s : State) (l : List α) (f : State → α → State) (h : ∀ s a, (f s a).hostMem = s.hostMem) : (s.each l f).hostMem = s.hostMem := by
  unfold State.each; induction l generalizing s with
  | nil => rfl
  | cons a l ih => simp [ih, h]

@[simp ↓] theorem State.foldl_hostMem {α : Type} (s : State) (l : List α) (f : State → α → State) (h : ∀ s a, (f s a).hostMem = s.hostMem) : (l.foldl f s).hostMem = s.hostMem := s.each_hostMem l f h

@[simp] theorem State.each_memWf {α : Type} (s : State) (l : List α) (f : State → α → State)
    (hf : ∀ s a, Memory.wf s.hostMem → Memory.wf (f s a).hostMem) (h : Memory.wf s.hostMem) : Memory.wf (s.each l f).hostMem := by
  unfold State.each; induction l generalizing s with
  | nil => exact h
  | cons a l ih => exact ih _ (hf _ _ h)

@[simp] theorem State.foldl_memWf {α : Type} (s : State) (l : List α) (f : State → α → State)
    (hf : ∀ s a, Memory.wf s.hostMem → Memory.wf (f s a).hostMem) (h : Memory.wf s.hostMem) : Memory.wf (l.foldl f s).hostMem := s.each_memWf l f hf h

@[simp ↓] theorem State.draw_hostMem (s : State) : s.draw.2.hostMem = s.hostMem := id rfl

@[simp ↓] theorem State.incFld_hostMem (s : State) (off lo n : Nat) : (State.incFld s off lo n).hostMem = s.hostMem := by
  unfold State.incFld; (try dsimp only); (repeat' split) <;> simp

@[simp ↓] theorem State.onStr_hostMem (s : State) (i : Nat) (f : Str → Str) : (State.onStr s i f).hostMem = s.hostMem := by
  unfold State.onStr; (try dsimp only); (repeat' split) <;> simp

@[simp ↓] theorem State.onGroup_hostMem (s : State) (g : Nat) (f : Group → Group) : (State.onGroup s g f).hostMem = s.hostMem := by
  unfold State.onGroup; (try dsimp only); (repeat' split) <;> simp

@[simp ↓] theorem State.onStream_hostMem (s : State) (i : Nat) (f : Stream → Stream) : (State.onStream s i f).hostMem = s.hostMem := by
  unfold State.onStream; (try dsimp only); (repeat' split) <;> simp

@[simp ↓] theorem State.onRet_hostMem (s : State) (i : Nat) (f : RetIn → RetIn) : (State.onRet s i f).hostMem = s.hostMem := by
  unfold State.onRet; (try dsimp only); (repeat' split) <;> simp

@[simp ↓] theorem State.onPrv_hostMem (s : State) (i : Nat) (f : Prove → Prove) : (State.onPrv s i f).hostMem = s.hostMem := by
  unfold State.onPrv; (try dsimp only); (repeat' split) <;> simp

@[simp ↓] theorem State.onSmt_hostMem (s : State) (i : Nat) (f : Smt → Smt) : (State.onSmt s i f).hostMem = s.hostMem := by
  unfold State.onSmt; (try dsimp only); (repeat' split) <;> simp

@[simp ↓] theorem State.onArm_hostMem (s : State) (a : Nat) (f : Arm → Arm) : (State.onArm s a f).hostMem = s.hostMem := by
  unfold State.onArm; (try dsimp only); (repeat' split) <;> simp

@[simp ↓] theorem State.onUnit_hostMem (s : State) (u : Nat) (f : ArmUnit → ArmUnit) : (State.onUnit s u f).hostMem = s.hostMem := by
  unfold State.onUnit; (try dsimp only); (repeat' split) <;> simp

@[simp ↓] theorem State.onEngine_hostMem (s : State) (e : Nat) (f : Engine → Engine) : (State.onEngine s e f).hostMem = s.hostMem := by
  unfold State.onEngine; (try dsimp only); (repeat' split) <;> simp

@[simp ↓] theorem State.onEntry_hostMem (s : State) (i : Nat) (f : Entry → Entry) : (State.onEntry s i f).hostMem = s.hostMem := by
  unfold State.onEntry; (try dsimp only); (repeat' split) <;> simp

@[simp ↓] theorem State.onRlist_hostMem (s : State) (i : Nat) (f : ReadyList → ReadyList) : (State.onRlist s i f).hostMem = s.hostMem := by
  unfold State.onRlist; (try dsimp only); (repeat' split) <;> simp

@[simp ↓] theorem State.onProducer_hostMem (s : State) (i : Nat) (f : Producer → Producer) : (State.onProducer s i f).hostMem = s.hostMem := by
  unfold State.onProducer; (try dsimp only); (repeat' split) <;> simp

@[simp ↓] theorem State.onStrm_hostMem (s : State) (i : Nat) (f : Strm → Strm) : (State.onStrm s i f).hostMem = s.hostMem := by
  unfold State.onStrm; (try dsimp only); (repeat' split) <;> simp

@[simp ↓] theorem State.onQueue_hostMem (s : State) (q : Nat) (f : Queue → Queue) : (State.onQueue s q f).hostMem = s.hostMem := by
  unfold State.onQueue; (try dsimp only); (repeat' split) <;> simp

@[simp ↓] theorem State.onCode_hostMem (s : State) (c : Nat) (f : CodeSt → CodeSt) : (State.onCode s c f).hostMem = s.hostMem := by
  unfold State.onCode; (try dsimp only); (repeat' split) <;> simp

@[simp ↓] theorem State.onConv_hostMem (s : State) (ad : Nat) (f : Conv → Conv) : (State.onConv s ad f).hostMem = s.hostMem := by
  unfold State.onConv; (try dsimp only); (repeat' split) <;> simp

@[simp ↓] theorem State.onAcc_hostMem (s : State) (i : Nat) (f : AccSet → AccSet) : (State.onAcc s i f).hostMem = s.hostMem := by
  unfold State.onAcc; (try dsimp only); (repeat' split) <;> simp

@[simp ↓] theorem State.onDie_hostMem (s : State) (d : Nat) (f : DieLink → DieLink) : (State.onDie s d f).hostMem = s.hostMem := by
  unfold State.onDie; (try dsimp only); (repeat' split) <;> simp

@[simp] theorem State.setHostByte_memWf (s : State) (a : Nat) (b : Byte) (hm : Memory.wf s.hostMem) : Memory.wf (State.setHostByte s a b).hostMem := by
  exact Tab.wf_put _ _ _ _ hm

@[simp] theorem State.dmaWrite_memWf (s : State) (a : Nat) (bs : List Byte) (hm : Memory.wf s.hostMem) : Memory.wf (s.dmaWrite a bs).hostMem := by
  induction bs generalizing s a with
  | nil => exact hm
  | cons b bs ih => unfold State.dmaWrite; exact ih _ _ (State.setHostByte_memWf s a b hm)

@[simp ↓] theorem State.triggerVector_hostMem (s : State) (v : Nat) : (State.triggerVector s v).hostMem = s.hostMem := by
  unfold State.triggerVector; (try dsimp only); (repeat' split) <;> simp

@[simp ↓] theorem State.irq_hostMem (s : State) (src : Nat) : (State.irq s src).hostMem = s.hostMem := by
  unfold State.irq; (try dsimp only); (repeat' split) <;> simp

@[simp ↓] theorem State.addCause_hostMem (s : State) (code inst : Nat) : (State.addCause s code inst).hostMem = s.hostMem := by
  unfold State.addCause; (try dsimp only); (repeat' split) <;> simp

@[simp ↓] theorem State.report_hostMem (s : State) (r : Report) : (State.report s r).hostMem = s.hostMem := by
  unfold State.report; (try dsimp only); (repeat' split) <;> simp

@[simp ↓] theorem State.reportNow_hostMem (s : State) (code inst : Nat) : (State.reportNow s code inst).hostMem = s.hostMem := by
  unfold State.reportNow; (try dsimp only); (repeat' split) <;> simp

@[simp ↓] theorem State.leaveActive_hostMem (s : State) (code : Nat) : (State.leaveActive s code).hostMem = s.hostMem := by
  unfold State.leaveActive; (try dsimp only); (repeat' split) <;> simp

@[simp ↓] theorem State.endCause_hostMem (s : State) (code inst : Nat) : (State.endCause s code inst).hostMem = s.hostMem := by
  unfold State.endCause; (try dsimp only); (repeat' split) <;> simp

@[simp ↓] theorem State.endCauses_hostMem (s : State) (code : Nat) : (State.endCauses s code).hostMem = s.hostMem := by
  unfold State.endCauses; (try dsimp only); (repeat' split) <;> simp

@[simp ↓] theorem State.endInjection_hostMem (s : State) : (State.endInjection s).hostMem = s.hostMem := by
  unfold State.endInjection; (try dsimp only); (repeat' split) <;> simp

@[simp ↓] theorem State.takeInjection_hostMem (s : State) : (State.takeInjection s).hostMem = s.hostMem := by
  unfold State.takeInjection; (try dsimp only); (repeat' split) <;> simp

@[simp ↓] theorem State.injecting_hostMem (s : State) (checker kind : Nat) (f : State → State) (hf : ∀ s, (f s).hostMem = s.hostMem) : (State.injecting s checker kind f).hostMem = s.hostMem := by
  unfold State.injecting; (try dsimp only); (repeat' split) <;> simp_all

@[simp ↓] theorem State.record_hostMem (s : State) (source : Nat) (pass : Word → Bool) (r : Rec) : (State.record s source pass r).hostMem = s.hostMem := by
  unfold State.record; (try dsimp only); (repeat' split) <;> simp

@[simp ↓] theorem State.recEdge_hostMem (s : State) (lamp time : Nat) (lit own : Bool) : (State.recEdge s lamp time lit own).hostMem = s.hostMem := by
  unfold State.recEdge; (try dsimp only); (repeat' split) <;> simp

@[simp ↓] theorem State.recProve_hostMem (s : State) (lamp method verdict mv : Nat) (epoch : Nat) (retired : Bool) : (State.recProve s lamp method verdict mv epoch retired).hostMem = s.hostMem := by
  unfold State.recProve; (try dsimp only); (repeat' split) <;> simp

@[simp ↓] theorem State.recDisturb_hostMem (s : State) (str start len : Nat) (retired : Bool) : (State.recDisturb s str start len retired).hostMem = s.hostMem := by
  unfold State.recDisturb; (try dsimp only); (repeat' split) <;> simp

@[simp ↓] theorem State.recChange_hostMem (s : State) (sm : Nat) (aspect : Nat) (pwm : Bool) (duty arm : Nat) : (State.recChange s sm aspect pwm duty arm).hostMem = s.hostMem := by
  unfold State.recChange; (try dsimp only); (repeat' split) <;> simp

@[simp ↓] theorem State.recFio_hostMem (s : State) (kind channel : Nat) (state : Bool) (event : Nat) : (State.recFio s kind channel state event).hostMem = s.hostMem := by
  unfold State.recFio; (try dsimp only); (repeat' split) <;> simp

@[simp ↓] theorem State.recReturn_hostMem (s : State) (sm rxl status vcap temp echo time : Nat) : (State.recReturn s sm rxl status vcap temp echo time).hostMem = s.hostMem := by
  unfold State.recReturn; (try dsimp only); (repeat' split) <;> simp

theorem State.allocPage_hostMem (s t : State) (u p : Nat) (h : s.allocPage u = some (p, t)) : t.hostMem = s.hostMem := by
  unfold State.allocPage at h
  (repeat' split at h) <;> simp_all <;> obtain ⟨_, rfl⟩ := h <;> simp

@[simp ↓] theorem State.freePagesBack_hostMem (s : State) (ps : List Nat) : (State.freePagesBack s ps).hostMem = s.hostMem := by
  unfold State.freePagesBack; (try dsimp only); (repeat' split) <;> simp

@[simp ↓] theorem State.countRefusal_hostMem (s : State) (u : Nat) : (State.countRefusal s u).hostMem = s.hostMem := by
  unfold State.countRefusal; (try dsimp only); (repeat' split) <;> simp

@[simp ↓] theorem State.openNext_hostMem (s : State) (i : Nat) : (State.openNext s i).hostMem = s.hostMem := by
  unfold State.openNext; dsimp only
  split
  · split <;> simp
  · split
    · next p t h => simp [State.allocPage_hostMem _ _ _ _ h]
    · simp

@[simp ↓] theorem State.triggerOne_hostMem (s : State) (i time cause code sev : Nat) : (State.triggerOne s i time cause code sev).hostMem = s.hostMem := by
  unfold State.triggerOne; (try dsimp only); (repeat' split) <;> simp

@[simp ↓] theorem State.trigger_hostMem (s : State) (streams : List Nat) (time cause code sev : Nat) : (State.trigger s streams time cause code sev).hostMem = s.hostMem := by
  unfold State.trigger; (try dsimp only); (repeat' split) <;> simp

@[simp ↓] theorem State.triggerFault_hostMem (s : State) (code sev time : Nat) : (State.triggerFault s code sev time).hostMem = s.hostMem := by
  unfold State.triggerFault; (try dsimp only); (repeat' split) <;> simp

@[simp ↓] theorem State.triggerHost_hostMem (s : State) (mask : Nat) : (State.triggerHost s mask).hostMem = s.hostMem := by
  unfold State.triggerHost; (try dsimp only); (repeat' split) <;> simp

@[simp ↓] theorem State.sealRecords_hostMem (s : State) : (State.sealRecords s).hostMem = s.hostMem := by
  unfold State.sealRecords; (try dsimp only); (repeat' split) <;> simp

@[simp ↓] theorem State.makeReady_hostMem (s : State) (i : Nat) : (State.makeReady s i).hostMem = s.hostMem := by
  unfold State.makeReady; (try dsimp only); (repeat' split) <;> simp

@[simp ↓] theorem State.promote_hostMem (s : State) : (State.promote s).hostMem = s.hostMem := by
  unfold State.promote; (try dsimp only); (repeat' split) <;> simp

@[simp ↓] theorem State.refuseDeposit_hostMem (s : State) (k : Producing) : (State.refuseDeposit s k).hostMem = s.hostMem := by
  unfold State.refuseDeposit; (try dsimp only); (repeat' split) <;> simp

@[simp ↓] theorem State.readyWhenFull_hostMem (s : State) (i : Nat) : (State.readyWhenFull s i).hostMem = s.hostMem := by
  unfold State.readyWhenFull; (try dsimp only); (repeat' split) <;> simp

@[simp ↓] theorem State.countDeposit_hostMem (s : State) (k : Producing) (again : Bool) : (State.countDeposit s k again).hostMem = s.hostMem := by
  unfold State.countDeposit; (try dsimp only); (repeat' split) <;> simp

theorem State.deposit_hostMem (s t : State) (k : Producing) (template key slot data : Nat) (packet : Option (Packet × Nat))
    (h : s.deposit k template key slot data packet = some t) : t.hostMem = s.hostMem := by
  unfold State.deposit at h
  dsimp only at h
  split at h
  · split at h
    · cases h
    · simp only [Option.some.injEq] at h; rw [← h]; simp
  · split at h
    · split at h <;> split at h <;> split at h <;> first | (simp at h; done) | (simp only [Option.some.injEq] at h; rw [← h]; simp)
    · simp at h

@[simp ↓] theorem State.freeTask_hostMem (s : State) (i : Nat) : (State.freeTask s i).hostMem = s.hostMem := by
  unfold State.freeTask; (try dsimp only); (repeat' split) <;> simp

@[simp ↓] theorem State.cancelTask_hostMem (s : State) (i : Nat) : (State.cancelTask s i).hostMem = s.hostMem := by
  unfold State.cancelTask; (try dsimp only); (repeat' split) <;> simp

@[simp ↓] theorem State.cancelKey_hostMem (s : State) (template key : Nat) : (State.cancelKey s template key).hostMem = s.hostMem := by
  unfold State.cancelKey; (try dsimp only); (repeat' split) <;> simp

@[simp ↓] theorem State.complete_hostMem (s : State) (r : Reply) : (State.complete s r).hostMem = s.hostMem := by
  unfold State.complete; (try dsimp only); (repeat' split) <;> simp

@[simp ↓] theorem State.begin_hostMem (s : State) (p : Packet) : (State.begin s p).hostMem = s.hostMem := by
  unfold State.begin; (try dsimp only); (repeat' split) <;> simp

@[simp] theorem State.answer_memWf (s : State) (op : Op) (p : Packet) (status detail : Nat) (data : List Word) (hm : Memory.wf s.hostMem) : Memory.wf (State.answer s op p status detail data).hostMem := by
  unfold State.answer; (try dsimp only); (repeat' split) <;> simp [Memory.wf, hm]

@[simp] theorem State.command_memWf (s : State) (op : Op) (p : Packet) (own : State → Result) (ho : Memory.wf (own s).state.hostMem) (hm : Memory.wf s.hostMem) : Memory.wf (s.command op p own).hostMem := by
  unfold State.command; (repeat' split) <;> simp [Memory.wf, hm, ho]

@[simp ↓] theorem State.setTarget_hostMem (s : State) (g mv : Nat) : (State.setTarget s g mv).hostMem = s.hostMem := by
  unfold State.setTarget; (try dsimp only); (repeat' split) <;> simp

@[simp ↓] theorem State.retarget_hostMem (s : State) (gs : List Nat) : (State.retarget s gs).hostMem = s.hostMem := by
  unfold State.retarget; (try dsimp only); (repeat' split) <;> simp

@[simp ↓] theorem State.leaveSteady_hostMem (s : State) (str : Nat) : (State.leaveSteady s str).hostMem = s.hostMem := by
  unfold State.leaveSteady; (try dsimp only); (repeat' split) <;> simp

@[simp ↓] theorem State.driveStr_hostMem (s : State) (str : Nat) : (State.driveStr s str).hostMem = s.hostMem := by
  unfold State.driveStr; (try dsimp only); (repeat' split) <;> simp

@[simp ↓] theorem State.startWaiting_hostMem (s : State) (g : Nat) : (State.startWaiting s g).hostMem = s.hostMem := by
  unfold State.startWaiting; (try dsimp only); (repeat' split) <;> simp

@[simp ↓] theorem State.follow_hostMem (s : State) (l : Nat) : (State.follow s l).hostMem = s.hostMem := by
  unfold State.follow; (try dsimp only); (repeat' split) <;> simp

@[simp ↓] theorem State.show_hostMem (s : State) (src : AspSrc) (l : Nat) (c : Content) (fadeUs : Nat) : (State.show s src l c fadeUs).hostMem = s.hostMem := by
  unfold State.show; (try dsimp only); (repeat' split) <;> simp

@[simp ↓] theorem State.endFade_hostMem (s : State) (l : Nat) : (State.endFade s l).hostMem = s.hostMem := by
  unfold State.endFade; (try dsimp only); (repeat' split) <;> simp

@[simp ↓] theorem State.preloadDie_hostMem (s : State) (d : Nat) (record : Bool) : (State.preloadDie s d record).hostMem = s.hostMem := by
  unfold State.preloadDie; (try dsimp only); (repeat' split) <;> simp

@[simp ↓] theorem State.followDie_hostMem (s : State) (d : Nat) : (State.followDie s d).hostMem = s.hostMem := by
  unfold State.followDie; (try dsimp only); (repeat' split) <;> simp

@[simp ↓] theorem State.commandStream_hostMem (s : State) (src : AspSrc) (l : Nat) (c : Content) : (State.commandStream s src l c).hostMem = s.hostMem := by
  unfold State.commandStream; (try dsimp only); (repeat' split) <;> simp

@[simp ↓] theorem State.huskEntry_hostMem (before s : State) : (State.huskEntry before s).hostMem = s.hostMem := by
  unfold State.huskEntry; (try dsimp only); (repeat' split) <;> simp

@[simp ↓] theorem State.huskFlags_hostMem (s : State) : (State.huskFlags s).hostMem = s.hostMem := by
  unfold State.huskFlags; (try dsimp only); (repeat' split) <;> simp

@[simp ↓] theorem State.withHusk_hostMem (s : State) (f : State → State) : (s.withHusk f).hostMem = (f s).hostMem := by
  unfold State.withHusk; simp

@[simp ↓] theorem State.queueRepeat_hostMem (s : State) (l since till : Nat) : (State.queueRepeat s l since till).hostMem = s.hostMem := by
  unfold State.queueRepeat; (try dsimp only); (repeat' split) <;> simp

@[simp ↓] theorem State.bypassSm_hostMem (s : State) (sm : Nat) : (State.bypassSm s sm).hostMem = s.hostMem := by
  unfold State.bypassSm; (try dsimp only); (repeat' split) <;> simp

@[simp ↓] theorem State.afterList_hostMem (s : State) (a : Nat) (cands : List Cand) : (State.afterList s a cands).hostMem = s.hostMem := by
  unfold State.afterList; (try dsimp only); (repeat' split) <;> simp

@[simp ↓] theorem State.dropPart_hostMem (s : State) (a : Nat) : (State.dropPart s a).hostMem = s.hostMem := by
  unfold State.dropPart; (try dsimp only); (repeat' split) <;> simp

@[simp ↓] theorem State.causeSmt_hostMem (s : State) (sm : Nat) (quiet : Bool) (f : Smt → Smt) : (State.causeSmt s sm quiet f).hostMem = s.hostMem := by
  unfold State.causeSmt; (try dsimp only); (repeat' split) <;> simp

@[simp ↓] theorem State.reviewSmt_hostMem (s : State) (sm : Nat) : (State.reviewSmt s sm).hostMem = s.hostMem := by
  unfold State.reviewSmt; (try dsimp only); (repeat' split) <;> simp

@[simp ↓] theorem State.review_hostMem (s : State) : (State.review s).hostMem = s.hostMem := by
  unfold State.review; (try dsimp only); (repeat' split) <;> simp

@[simp ↓] theorem State.reranked_hostMem (s before : State) (a : Nat) : (State.reranked s before a).hostMem = s.hostMem := by
  unfold State.reranked; (try dsimp only); (repeat' split) <;> simp

@[simp ↓] theorem State.openShadow_hostMem (s : State) (k : ShadowKind) : (State.openShadow s k).hostMem = s.hostMem := by
  unfold State.openShadow; (try dsimp only); (repeat' split) <;> simp

@[simp ↓] theorem State.lampReport_hostMem (s : State) (code l mv time : Nat) : (State.lampReport s code l mv time).hostMem = s.hostMem := by
  unfold State.lampReport; (try dsimp only); (repeat' split) <;> simp

@[simp ↓] theorem State.retire_hostMem (s : State) (l : Nat) (c : Cause) (mv : Nat) : (State.retire s l c mv).hostMem = s.hostMem := by
  unfold State.retire; (try dsimp only); (repeat' split) <;> simp

@[simp ↓] theorem State.unjudged_hostMem (s : State) (l code : Nat) (f : PrvCounters → PrvCounters) : (State.unjudged s l code f).hostMem = s.hostMem := by
  unfold State.unjudged; (try dsimp only); (repeat' split) <;> simp

@[simp ↓] theorem State.abortTrickle_hostMem (s : State) (l : Nat) : (State.abortTrickle s l).hostMem = s.hostMem := by
  unfold State.abortTrickle; (try dsimp only); (repeat' split) <;> simp

@[simp ↓] theorem State.takeover_hostMem (s : State) (partner spare : Nat) (since : Nat) : (State.takeover s partner spare since).hostMem = s.hostMem := by
  unfold State.takeover; (try dsimp only); (repeat' split) <;> simp

@[simp ↓] theorem State.applyRetirement_hostMem (s : State) (n : RetireNote) : (State.applyRetirement s n).hostMem = s.hostMem := by
  unfold State.applyRetirement; (try dsimp only); (repeat' split) <;> simp

@[simp ↓] theorem State.reportSm_hostMem (s : State) (code sm : Nat) (e : Smt) : (State.reportSm s code sm e).hostMem = s.hostMem := by
  unfold State.reportSm; (try dsimp only); (repeat' split) <;> simp

@[simp ↓] theorem State.snapshotSm_hostMem (s : State) (limit sm : Nat) : (State.snapshotSm s limit sm).hostMem = s.hostMem := by
  unfold State.snapshotSm; (try dsimp only); (repeat' split) <;> simp

@[simp ↓] theorem State.snapshotArm_hostMem (s : State) (a : Nat) : (State.snapshotArm s a).hostMem = s.hostMem := by
  unfold State.snapshotArm; (try dsimp only); (repeat' split) <;> simp

@[simp ↓] theorem State.change_hostMem (s : State) (a cycle sm : Nat) (asp : Aspect) (pwm : Bool) (frac : Nat) (barred : Bool) : (State.change s a cycle sm asp pwm frac barred).hostMem = s.hostMem := by
  unfold State.change; (try dsimp only); (repeat' split) <;> simp

@[simp ↓] theorem State.shortfall_hostMem (s : State) (a nIns navail : Nat) : (State.shortfall s a nIns navail).hostMem = s.hostMem := by
  unfold State.shortfall; (try dsimp only); (repeat' split) <;> simp

@[simp ↓] theorem State.setShort_hostMem (s : State) (a nIns navail : Nat) : (State.setShort s a nIns navail).hostMem = s.hostMem := by
  unfold State.setShort; (try dsimp only); (repeat' split) <;> simp

@[simp ↓] theorem State.postDecision_hostMem (s : State) (a data : Nat) : (State.postDecision s a data).hostMem = s.hostMem := by
  unfold State.postDecision; (try dsimp only); (repeat' split) <;> first | (simp; done) | (rename_i h; have := State.deposit_hostMem _ _ _ _ _ _ _ _ h; simp_all; done)

@[simp ↓] theorem State.recDecision_hostMem (s : State) (a cycle nIns : Nat) (plan : Option Plan) (changes : Nat) : (State.recDecision s a cycle nIns plan changes).hostMem = s.hostMem := by
  unfold State.recDecision; exact (State.record_hostMem _ _ _ _).trans (State.draw_hostMem s)

@[simp ↓] theorem State.carryOut_hostMem (s : State) (a cycle nIns frac pins : Nat) (p : Plan) (stale : List Nat) : (State.carryOut s a cycle nIns frac pins p stale).hostMem = s.hostMem := by
  unfold State.carryOut; (try dsimp only); (repeat' split) <;> simp

@[simp ↓] theorem State.decideLocal_hostMem (s : State) (a nIns : Nat) (dir : Bool) (cycle frac : Nat) (stale : List Nat) : (State.decideLocal s a nIns dir cycle frac stale).hostMem = s.hostMem := by
  unfold State.decideLocal; (try dsimp only); (repeat' split) <;> simp

@[simp ↓] theorem State.countVerdict_hostMem (s : State) (a : Nat) (v : Verdict) : (State.countVerdict s a v).hostMem = s.hostMem := by
  unfold State.countVerdict; (try dsimp only); (repeat' split) <;> simp

@[simp ↓] theorem State.recordCommit_hostMem (s : State) (vs : List (Nat × Verdict)) : (State.recordCommit s vs).hostMem = s.hostMem := by
  unfold State.recordCommit; (try dsimp only); (repeat' split) <;> simp

@[simp ↓] theorem State.holdArm_hostMem (s : State) (a nIns : Nat) : (State.holdArm s a nIns).hostMem = s.hostMem := by
  unfold State.holdArm; (try dsimp only); (repeat' split) <;> simp

@[simp ↓] theorem State.takeArm_hostMem (s : State) (a nIns : Nat) (dir : Bool) (cycle frac : Nat) : (State.takeArm s a nIns dir cycle frac).hostMem = s.hostMem := by
  unfold State.takeArm; (try dsimp only); (repeat' split) <;> simp

@[simp ↓] theorem State.writeReg_hostMem (s : State) (off : Nat) (v : Word) : (State.writeReg s off v).hostMem = s.hostMem := by
  unfold State.writeReg; (try dsimp only); (repeat' split) <;> simp

@[simp ↓] theorem State.msrFlag_hostMem (s : State) (ad b : Nat) : (State.msrFlag s ad b).hostMem = s.hostMem := by
  unfold State.msrFlag; (try dsimp only); (repeat' split) <;> simp

@[simp ↓] theorem State.storeCal_hostMem (s : State) (ad chan gain : Nat) (v : Int × Nat) : (State.storeCal s ad chan gain v).hostMem = s.hostMem := by
  unfold State.storeCal; (try dsimp only); (repeat' split) <;> simp

@[simp ↓] theorem State.offer_hostMem (s : State) (ad set : Nat) (valid : Bool) (r : Int) (t chan gain : Nat) : (State.offer s ad set valid r t chan gain).hostMem = s.hostMem := by
  unfold State.offer; (try dsimp only); (repeat' split) <;> simp

@[simp ↓] theorem State.beginRun_hostMem (s : State) (ad : Nat) (x : RunSpec) (entry : Option Nat) (cal : Bool) : (State.beginRun s ad x entry cal).hostMem = s.hostMem := by
  unfold State.beginRun; (try dsimp only); (repeat' split) <;> simp

@[simp ↓] theorem State.abortRun_hostMem (s : State) (ad : Nat) : (State.abortRun s ad).hostMem = s.hostMem := by
  unfold State.abortRun; (try dsimp only); (repeat' split) <;> simp

@[simp ↓] theorem State.yieldRun_hostMem (s : State) (ad : Nat) (r : Run) : (State.yieldRun s ad r).hostMem = s.hostMem := by
  unfold State.yieldRun; (try dsimp only); (repeat' split) <;> simp

@[simp ↓] theorem State.startOver_hostMem (s : State) (ad : Nat) : (State.startOver s ad).hostMem = s.hostMem := by
  unfold State.startOver; (try dsimp only); (repeat' split) <;> simp

@[simp ↓] theorem State.nextRun_hostMem (s : State) (ad : Nat) : (State.nextRun s ad).hostMem = s.hostMem := by
  unfold State.nextRun; (try dsimp only); (repeat' split) <;> simp

@[simp ↓] theorem State.recordSequence_hostMem (s : State) (ad : Nat) : (State.recordSequence s ad).hostMem = s.hostMem := by
  unfold State.recordSequence; (try dsimp only); (repeat' split) <;> simp

@[simp ↓] theorem State.takeSequence_hostMem (s : State) (ad : Nat) : (State.takeSequence s ad).hostMem = s.hostMem := by
  unfold State.takeSequence; (try dsimp only); (repeat' split) <;> simp

@[simp ↓] theorem State.queueUrgent_hostMem (s : State) (ad : Nat) (u : Urgent) : (State.queueUrgent s ad u).hostMem = s.hostMem := by
  unfold State.queueUrgent; (try dsimp only); (repeat' split) <;> simp

@[simp ↓] theorem State.refuseUrgent_hostMem (s : State) (ad : Nat) : (State.refuseUrgent s ad).hostMem = s.hostMem := by
  unfold State.refuseUrgent; (try dsimp only); (repeat' split) <;> simp

@[simp] theorem State.endZero_memWf (s : State) (ad : Nat) (x : RunSpec) (p : Packet) (u0 : Int) (clip : Bool) (hm : Memory.wf s.hostMem) : Memory.wf (State.endZero s ad x p u0 clip).hostMem := by
  unfold State.endZero; (try dsimp only); (repeat' split) <;> simp [Memory.wf, hm]

@[simp] theorem State.endSpan_memWf (s : State) (ad : Nat) (x : RunSpec) (p : Packet) (value off u1 : Int) (clip : Bool) (hm : Memory.wf s.hostMem) : Memory.wf (State.endSpan s ad x p value off u1 clip).hostMem := by
  unfold State.endSpan; (try dsimp only); (repeat' split) <;> simp [Memory.wf, hm]

@[simp] theorem State.endUrgent_memWf (s : State) (ad : Nat) (r : Run) (whole : Bool) (hm : Memory.wf s.hostMem) : Memory.wf (State.endUrgent s ad r whole).hostMem := by
  unfold State.endUrgent; (try dsimp only); (repeat' split) <;> simp [Memory.wf, hm]

@[simp] theorem State.endRun_memWf (s : State) (ad : Nat) (r : Run) (whole : Bool) (hm : Memory.wf s.hostMem) : Memory.wf (State.endRun s ad r whole).hostMem := by
  unfold State.endRun; (try dsimp only); (repeat' split) <;> simp [Memory.wf, hm]

@[simp ↓] theorem State.countInvalid_hostMem (s : State) (ad : Nat) (r : Run) : (State.countInvalid s ad r).hostMem = s.hostMem := by
  unfold State.countInvalid; (try dsimp only); (repeat' split) <;> simp

@[simp ↓] theorem State.countConversion_hostMem (s : State) (ad : Nat) (r : Run) (clip : Bool) : (State.countConversion s ad r clip).hostMem = s.hostMem := by
  unfold State.countConversion; (try dsimp only); (repeat' split) <;> simp

@[simp] theorem State.feed_memWf (s : State) (ad : Nat) (r : Run) (x : Int) (hm : Memory.wf s.hostMem) : Memory.wf (State.feed s ad r x).hostMem := by
  unfold State.feed; (try dsimp only); (repeat' split) <;> simp [Memory.wf, hm]

@[simp] theorem State.convert_memWf (s : State) (ad : Nat) (u : Int) (clip : Bool) (hm : Memory.wf s.hostMem) : Memory.wf (State.convert s ad u clip).hostMem := by
  unfold State.convert; (try dsimp only); (repeat' split) <;> simp [Memory.wf, hm]

@[simp ↓] theorem State.vfCapture_hostMem (s : State) (lamp : Nat) : (State.vfCapture s lamp).hostMem = s.hostMem := by
  unfold State.vfCapture; (try dsimp only); (repeat' split) <;> simp (disch := (intros; (repeat' split) <;> simp))

@[simp ↓] theorem State.stopConvs_hostMem (s : State) : (State.stopConvs s).hostMem = s.hostMem := by
  unfold State.stopConvs; (try dsimp only); (repeat' split) <;> simp

@[simp ↓] theorem State.restartConvs_hostMem (s : State) : (State.restartConvs s).hostMem = s.hostMem := by
  unfold State.restartConvs; (try dsimp only); (repeat' split) <;> simp

@[simp ↓] theorem State.writeCvctl_hostMem (s : State) (ad : Nat) (v : Word) : (State.writeCvctl s ad v).hostMem = s.hostMem := by
  unfold State.writeCvctl; (try dsimp only); (repeat' split) <;> simp

@[simp] theorem State.judgeEcho_memWf (s : State) (sm ago : Nat) (hm : Memory.wf s.hostMem) : Memory.wf (State.judgeEcho s sm ago).hostMem := by
  unfold State.judgeEcho; (try dsimp only); (repeat' split) <;> simp [Memory.wf, hm]

@[simp ↓] theorem State.giveLit_hostMem (s : State) (l mv : Nat) (v : LitVerdict) (method : Nat) : (State.giveLit s l mv v method).hostMem = s.hostMem := by
  unfold State.giveLit; (try dsimp only); (repeat' split) <;> simp

@[simp] theorem State.answerTrickle_memWf (s : State) (l : Nat) (own : Option Packet) (v : TrkVerdict) (mv : Nat) (hm : Memory.wf s.hostMem) : Memory.wf (State.answerTrickle s l own v mv).hostMem := by
  unfold State.answerTrickle; (try dsimp only); (repeat' split) <;> simp [Memory.wf, hm]

@[simp] theorem State.giveTrickle_memWf (s : State) (l mv : Nat) (v : TrkVerdict) (hm : Memory.wf s.hostMem) : Memory.wf (State.giveTrickle s l mv v).hostMem := by
  unfold State.giveTrickle; (try dsimp only); (repeat' split) <;> simp [Memory.wf, hm]

@[simp ↓] theorem State.reportStuck_hostMem (s : State) (code inst str stuck : Nat) (sm : Option Nat) : (State.reportStuck s code inst str stuck sm).hostMem = s.hostMem := by
  unfold State.reportStuck; (try dsimp only); (repeat' split) <;> simp

@[simp ↓] theorem State.cutString_hostMem (s : State) (l : Nat) : (State.cutString s l).hostMem = s.hostMem := by
  unfold State.cutString; (try dsimp only); (repeat' split) <;> simp

@[simp ↓] theorem State.endStuck_hostMem (s : State) (str : Nat) : (State.endStuck s str).hostMem = s.hostMem := by
  unfold State.endStuck; (try dsimp only); (repeat' split) <;> simp

@[simp ↓] theorem State.restartLane_hostMem (s : State) (l : Nat) : (State.restartLane s l).hostMem = s.hostMem := by
  unfold State.restartLane; (try dsimp only); (repeat' split) <;> simp

@[simp ↓] theorem State.commitAsp_hostMem (s : State) : s.commitAsp.2.hostMem = s.hostMem := by
  unfold State.commitAsp; split <;> simp

@[simp ↓] theorem State.runAspCommit_hostMem (s : State) : s.runAspCommit.2.hostMem = s.hostMem := by
  unfold State.runAspCommit; simp

@[simp ↓] theorem State.commitAspReg_hostMem (s : State) : (State.commitAspReg s).hostMem = s.hostMem := by
  unfold State.commitAspReg; (try dsimp only); (repeat' split) <;> simp

@[simp ↓] theorem State.writeLcmd_hostMem (s : State) (l : Nat) (v : Word) : (State.writeLcmd s l v).hostMem = s.hostMem := by
  unfold State.writeLcmd; (try dsimp only); (repeat' split) <;> simp

@[simp ↓] theorem State.writeRcfg_hostMem (s : State) (n : Nat) (v : Word) : (State.writeRcfg s n v).hostMem = s.hostMem := by
  unfold State.writeRcfg; (try dsimp only); (repeat' split) <;> simp

@[simp ↓] theorem State.postReturn_hostMem (s : State) (n sm data : Nat) : (State.postReturn s n sm data).hostMem = s.hostMem := by
  unfold State.postReturn; (try dsimp only); (repeat' split) <;> first | (simp; done) | (rename_i h; have := State.deposit_hostMem _ _ _ _ _ _ _ _ h; simp_all; done)

@[simp] theorem State.acceptFrame_memWf (s : State) (n : Nat) (bs : List Nat) (hm : Memory.wf s.hostMem) : Memory.wf (State.acceptFrame s n bs).hostMem := by
  unfold State.acceptFrame; (try dsimp only); (repeat' split) <;> simp [Memory.wf, hm]

@[simp] theorem State.closeFrame_memWf (s : State) (n : Nat) (bs : List Nat) (hm : Memory.wf s.hostMem) : Memory.wf (State.closeFrame s n bs).hostMem := by
  unfold State.closeFrame; (try dsimp only); (repeat' split) <;> simp [Memory.wf, hm]

@[simp ↓] theorem State.loseSync_hostMem (s : State) (n : Nat) : (State.loseSync s n).hostMem = s.hostMem := by
  unfold State.loseSync; (try dsimp only); (repeat' split) <;> simp

@[simp ↓] theorem State.takeBack_hostMem (s : State) (l : Nat) : (State.takeBack s l).hostMem = s.hostMem := by
  unfold State.takeBack; (try dsimp only); (repeat' split) <;> simp

@[simp ↓] theorem State.sampled_hostMem (s : State) (l e : Nat) (next deferred : Option Nat) : (State.sampled s l e next deferred).hostMem = s.hostMem := by
  unfold State.sampled; (try dsimp only); (repeat' split) <;> simp

@[simp ↓] theorem State.endTask_hostMem (s : State) (i : Nat) : (State.endTask s i).hostMem = s.hostMem := by
  unfold State.endTask; (try dsimp only); (repeat' split) <;> simp

@[simp ↓] theorem State.completeTask_hostMem (s : State) (e : Entry) (r : Reply) : (State.completeTask s e r).hostMem = s.hostMem := by
  unfold State.completeTask; (try dsimp only); (repeat' split) <;> simp

@[simp ↓] theorem State.abandonPacket_hostMem (s : State) (e : Entry) (p : Packet) : (State.abandonPacket s e p).hostMem = s.hostMem := by
  unfold State.abandonPacket; (try dsimp only); (repeat' split) <;> simp

@[simp ↓] theorem State.abandonTask_hostMem (s : State) (i : Nat) : (State.abandonTask s i).hostMem = s.hostMem := by
  unfold State.abandonTask; (try dsimp only); (repeat' split) <;> simp

@[simp ↓] theorem State.recoverTask_hostMem (s : State) (i : Nat) : (State.recoverTask s i).hostMem = s.hostMem := by
  unfold State.recoverTask; (try dsimp only); (repeat' split) <;> simp

@[simp ↓] theorem State.bumpRole_hostMem (s : State) (r : Nat) : (State.bumpRole s r).hostMem = s.hostMem := by
  unfold State.bumpRole; (try dsimp only); (repeat' split) <;> simp

@[simp ↓] theorem State.giveRole_hostMem (s : State) (e r : Nat) : (State.giveRole s e r).hostMem = s.hostMem := by
  unfold State.giveRole; (try dsimp only); (repeat' split) <;> simp

@[simp ↓] theorem State.fillRole_hostMem (s : State) (r old : Nat) : (State.fillRole s r old).hostMem = s.hostMem := by
  unfold State.fillRole; (try dsimp only); (repeat' split) <;> simp

@[simp ↓] theorem State.serveRoles_hostMem (s : State) : (State.serveRoles s).hostMem = s.hostMem := by
  unfold State.serveRoles; (try dsimp only); (repeat' split) <;> simp

@[simp ↓] theorem State.engineHandover_hostMem (s : State) (e by_ : Nat) : (State.engineHandover s e by_).hostMem = s.hostMem := by
  unfold State.engineHandover; (try dsimp only); (repeat' split) <;> simp

@[simp ↓] theorem State.engineReturn_hostMem (s : State) (e by_ : Nat) : (State.engineReturn s e by_).hostMem = s.hostMem := by
  unfold State.engineReturn; (try dsimp only); (repeat' split) <;> simp

@[simp ↓] theorem State.giveArm_hostMem (s : State) (u a : Nat) (rebuild : Bool) : (State.giveArm s u a rebuild).hostMem = s.hostMem := by
  unfold State.giveArm; (try dsimp only); (repeat' split) <;> simp

@[simp ↓] theorem State.noSpareArm_hostMem (s : State) (a old : Nat) : (State.noSpareArm s a old).hostMem = s.hostMem := by
  unfold State.noSpareArm; (try dsimp only); (repeat' split) <;> simp

@[simp ↓] theorem State.freeUnit_hostMem (s : State) (u : Nat) : (State.freeUnit s u).hostMem = s.hostMem := by
  unfold State.freeUnit; (try dsimp only); (repeat' split) <;> simp

@[simp ↓] theorem State.unitHandover_hostMem (s : State) (u by_ : Nat) : (State.unitHandover s u by_).hostMem = s.hostMem := by
  unfold State.unitHandover; (try dsimp only); (repeat' split) <;> simp

@[simp ↓] theorem State.unitReturn_hostMem (s : State) (u by_ : Nat) (free : Bool) : (State.unitReturn s u by_ free).hostMem = s.hostMem := by
  unfold State.unitReturn; (try dsimp only); (repeat' split) <;> simp

@[simp ↓] theorem State.startSlice_hostMem (s : State) (id : Nat) (packet : Option Packet) : (State.startSlice s id packet).hostMem = s.hostMem := by
  unfold State.startSlice; (try dsimp only); (repeat' split) <;> simp

@[simp ↓] theorem State.skipBlock_hostMem (s : State) (id : Nat) : (State.skipBlock s id).hostMem = s.hostMem := by
  unfold State.skipBlock; (try dsimp only); (repeat' split) <;> simp

@[simp ↓] theorem State.endRotation_hostMem (s : State) : (State.endRotation s).hostMem = s.hostMem := by
  unfold State.endRotation; (try dsimp only); (repeat' split) <;> simp

@[simp ↓] theorem State.rotate_hostMem (s : State) (ids : List Nat) : (s.rotate ids).hostMem = s.hostMem := by
  induction ids generalizing s with
  | nil => rfl
  | cons i is ih => unfold State.rotate; split
                    · rw [ih]; simp
                    · simp

@[simp ↓] theorem State.slotOther_hostMem (s : State) : (State.slotOther s).hostMem = s.hostMem := by
  unfold State.slotOther; (try dsimp only); (repeat' split) <;> simp

@[simp ↓] theorem State.slotPick_hostMem (s : State) : (State.slotPick s).hostMem = s.hostMem := by
  unfold State.slotPick; (try dsimp only); (repeat' split) <;> simp

@[simp ↓] theorem State.sliceReturn_hostMem (s : State) (x : Slice) : (State.sliceReturn s x).hostMem = s.hostMem := by
  unfold State.sliceReturn; (try dsimp only); (repeat' split) <;> simp

@[simp ↓] theorem State.standInDown_hostMem (s : State) (x : Slice) : (State.standInDown s x).hostMem = s.hostMem := by
  unfold State.standInDown; (try dsimp only); (repeat' split) <;> simp

@[simp ↓] theorem State.failBlock_hostMem (s : State) (id : Nat) (by_ : Option Nat) : (State.failBlock s id by_).hostMem = s.hostMem := by
  unfold State.failBlock; (try dsimp only); (repeat' split) <;> simp

@[simp ↓] theorem State.recoverBlock_hostMem (s : State) (id : Nat) : (State.recoverBlock s id).hostMem = s.hostMem := by
  unfold State.recoverBlock; (try dsimp only); (repeat' split) <;> simp

@[simp] theorem State.giveVerdict_memWf (s : State) (x : Slice) (v0 : RifVerdict) (hm : Memory.wf s.hostMem) : Memory.wf (State.giveVerdict s x v0).hostMem := by
  unfold State.giveVerdict; extract_lets inc v t1 t2 t3 t4 t5
  have h1 : t1.hostMem = s.hostMem := State.setReg_hostMem _ _ _
  have h2 : t2.hostMem = s.hostMem := (State.onBist_hostMem _ _).trans h1
  have h3 : t3.hostMem = s.hostMem := by simp only [t3]; (repeat' split) <;> simp [h2]
  have h4 : t4.hostMem = s.hostMem := by simp only [t4]; split <;> simp [h3]
  have h5 : Memory.wf t5.hostMem := by simp only [t5]; (repeat' split) <;> simp_all [Memory.wf]
  split <;> simp_all [Memory.wf]

@[simp] theorem State.abortSlice_memWf (s : State) (hm : Memory.wf s.hostMem) : Memory.wf (State.abortSlice s).hostMem := by
  unfold State.abortSlice; (try dsimp only); (repeat' split) <;> simp [Memory.wf, hm]

@[simp ↓] theorem State.abortToReinit_hostMem (s : State) : (State.abortToReinit s).hostMem = s.hostMem := by
  unfold State.abortToReinit; (try dsimp only); (repeat' split) <;> simp

@[simp ↓] theorem State.writeLog_hostMem (s : State) (e : LogEntry) : (State.writeLog s e).hostMem = s.hostMem := by
  unfold State.writeLog; (try dsimp only); (repeat' split) <;> simp

@[simp ↓] theorem State.captureFirst_hostMem (s : State) (e : LogEntry) : (State.captureFirst s e).hostMem = s.hostMem := by
  unfold State.captureFirst; (try dsimp only); (repeat' split) <;> simp

@[simp ↓] theorem State.post_hostMem (s : State) (e : LogEntry) : (State.post s e).hostMem = s.hostMem := by
  unfold State.post; (try dsimp only); (repeat' split) <;> first | (simp; done) | (rename_i h; have := State.deposit_hostMem _ _ _ _ _ _ _ _ h; simp_all; done)

@[simp ↓] theorem State.mirrorUnposted_hostMem (s : State) (bad : Bool) : (State.mirrorUnposted s bad).hostMem = s.hostMem := by
  unfold State.mirrorUnposted; (try dsimp only); (repeat' split) <;> simp

@[simp ↓] theorem State.runPost_hostMem (s : State) (seq : Nat) (bad : Bool) : (State.runPost s seq bad).hostMem = s.hostMem := by
  unfold State.runPost; (try dsimp only); (repeat' split) <;> simp

@[simp ↓] theorem State.noteReinit_hostMem (s : State) : (State.noteReinit s).hostMem = s.hostMem := by
  unfold State.noteReinit; (try dsimp only); (repeat' split) <;> simp

@[simp ↓] theorem State.logConsequential_hostMem (s : State) (r : Report) (coinc : Bool) : (State.logConsequential s r coinc).hostMem = s.hostMem := by
  unfold State.logConsequential; (try dsimp only); (repeat' split) <;> simp

@[simp ↓] theorem State.logReport_hostMem (s : State) (r : Report) (coinc : Bool) : (State.logReport s r coinc).hostMem = s.hostMem := by
  unfold State.logReport; (try dsimp only); (repeat' split) <;> simp

@[simp ↓] theorem State.sampleOne_hostMem (s : State) (coinc : Bool) (r : Report) : (State.sampleOne s coinc r).hostMem = s.hostMem := by
  unfold State.sampleOne; (try dsimp only); (repeat' split) <;> simp

@[simp ↓] theorem State.sampleAll_hostMem (s : State) (wires : List Report) : (State.sampleAll s wires).hostMem = s.hostMem := by
  unfold State.sampleAll; (try dsimp only); (repeat' split) <;> simp

@[simp ↓] theorem State.killEngine_hostMem (s : State) (e : Nat) : (State.killEngine s e).hostMem = s.hostMem := by
  unfold State.killEngine; (try dsimp only); (repeat' split) <;> simp

@[simp] theorem State.engineDies_memWf (s : State) (e : Nat) (hm : Memory.wf s.hostMem) : Memory.wf (State.engineDies s e).hostMem := by
  unfold State.engineDies; (try dsimp only); (repeat' split) <;> simp [Memory.wf, hm]

@[simp ↓] theorem State.writeMssel_hostMem (s : State) (v : Word) : (State.writeMssel s v).hostMem = s.hostMem := by
  unfold State.writeMssel; (try dsimp only); (repeat' split) <;> simp

@[simp ↓] theorem State.refuseOpcode_hostMem (s : State) (e : Entry) : (State.refuseOpcode s e).hostMem = s.hostMem := by
  unfold State.refuseOpcode; (try dsimp only); (repeat' split) <;> simp

@[simp ↓] theorem State.fenceAccess_hostMem (s : State) (e : Nat) : (State.fenceAccess s e).hostMem = s.hostMem := by
  unfold State.fenceAccess; (try dsimp only); (repeat' split) <;> simp

@[simp ↓] theorem State.taskDeposit_hostMem (s : State) (d : Deposit) : (State.taskDeposit s d).hostMem = s.hostMem := by
  unfold State.taskDeposit
  cases h : s.deposit .engine d.template (wrap 24 d.key) d.slot (wrap 64 d.data) none with
  | none => simp
  | some t => simpa using State.deposit_hostMem _ _ _ _ _ _ _ _ h

@[simp ↓] theorem State.takeLogPage_hostMem (s : State) : (State.takeLogPage s).hostMem = s.hostMem := by
  unfold State.takeLogPage; split
  · next p t h => simpa using State.allocPage_hostMem _ _ _ _ h
  · simp

@[simp ↓] theorem State.giveLogPages_hostMem (s : State) (n : Nat) : (State.giveLogPages s n).hostMem = s.hostMem := by
  unfold State.giveLogPages; (try dsimp only); (repeat' split) <;> simp

@[simp ↓] theorem State.doWork_hostMem (s : State) (e : Nat) (w : TaskWork) : (State.doWork s e w).hostMem = s.hostMem := by
  unfold State.doWork; (try dsimp only); (repeat' split) <;> simp

@[simp ↓] theorem State.timerDeposit_hostMem (s : State) (t : Nat) (x : FwTimer) (first : Bool) : (State.timerDeposit s t x first).hostMem = s.hostMem := by
  unfold State.timerDeposit; (try dsimp only); (repeat' split) <;> first | (simp; done) | (rename_i h; have := State.deposit_hostMem _ _ _ _ _ _ _ _ h; simp_all; done)

@[simp ↓] theorem State.dropStaged_hostMem (s : State) (struck : List (Fin 16 × Nat)) : (State.dropStaged s struck).hostMem = s.hostMem := by
  unfold State.dropStaged; (try dsimp only); (repeat' split) <;> simp

@[simp ↓] theorem State.failReader_hostMem (s : State) (e : Nat) : (State.failReader s e).hostMem = s.hostMem := by
  unfold State.failReader; (try dsimp only); (repeat' split) <;> simp

@[simp ↓] theorem State.dropRing_hostMem (s : State) (i : Nat) : (State.dropRing s i).hostMem = s.hostMem := by
  unfold State.dropRing; (try dsimp only); (repeat' split) <;> simp

@[simp ↓] theorem State.rearm_hostMem (s : State) (i : Nat) : (State.rearm s i).hostMem = s.hostMem := by
  unfold State.rearm; (try dsimp only); (repeat' split) <;> simp

@[simp ↓] theorem State.disarm_hostMem (s : State) (i : Nat) : (State.disarm s i).hostMem = s.hostMem := by
  unfold State.disarm; (try dsimp only); (repeat' split) <;> simp

@[simp ↓] theorem State.armStream_hostMem (s : State) (i : Nat) : (State.armStream s i).hostMem = s.hostMem := by
  unfold State.armStream; (try dsimp only); (repeat' split) <;> simp

@[simp ↓] theorem State.writeTrig_hostMem (s : State) (v : Word) : (State.writeTrig s v).hostMem = s.hostMem := by
  unfold State.writeTrig; (try dsimp only); (repeat' split) <;> simp

@[simp ↓] theorem State.writeRecCtl_hostMem (s : State) (v : Word) : (State.writeRecCtl s v).hostMem = s.hostMem := by
  unfold State.writeRecCtl; (try dsimp only); (repeat' split) <;> simp

@[simp] theorem State.copyPages_memWf (s : State) (n a : Nat) (ps : List Page) (hm : Memory.wf s.hostMem) : Memory.wf (s.copyPages n a ps).hostMem := by
  induction ps generalizing s a with
  | nil => exact hm
  | cons p ps ih => unfold State.copyPages; exact ih _ _ (State.dmaWrite_memWf _ _ _ hm)

@[simp ↓] theorem State.noteRead_hostMem (s : State) (i : Nat) (p : Packet) (nums : List Nat) : (State.noteRead s i p nums).hostMem = s.hostMem := by
  unfold State.noteRead; (try dsimp only); (repeat' split) <;> simp

@[simp ↓] theorem State.stopRecorder_hostMem (s : State) : (State.stopRecorder s).hostMem = s.hostMem := by
  unfold State.stopRecorder; (try dsimp only); (repeat' split) <;> simp

@[simp ↓] theorem State.restartRecorder_hostMem (s : State) (lost : List (Nat × Nat)) : (State.restartRecorder s lost).hostMem = s.hostMem := by
  unfold State.restartRecorder; (try dsimp only); (repeat' split) <;> simp

@[simp ↓] theorem State.writeUrga_hostMem (s : State) (ad : Nat) (v : Word) : (State.writeUrga s ad v).hostMem = s.hostMem := by
  unfold State.writeUrga; (try dsimp only); (repeat' split) <;> simp

@[simp ↓] theorem State.writeAclr_hostMem (s : State) (v : Word) : (State.writeAclr s v).hostMem = s.hostMem := by
  unfold State.writeAclr; (try dsimp only); (repeat' split) <;> simp

@[simp ↓] theorem State.judgeHeat_hostMem (s : State) (die : Nat) (t : Int) : (State.judgeHeat s die t).hostMem = s.hostMem := by
  unfold State.judgeHeat; (repeat' split) <;> simp

@[simp ↓] theorem State.voidSlices_hostMem (s : State) : (State.voidSlices s).hostMem = s.hostMem := by
  unfold State.voidSlices; (try dsimp only); (repeat' split) <;> simp

@[simp ↓] theorem State.riffleRound_hostMem (s : State) (die : Nat) (dirty : Bool) : (State.riffleRound s die dirty).hostMem = s.hostMem := by
  unfold State.riffleRound; (try dsimp only); (repeat' split) <;> simp

@[simp ↓] theorem State.deliver_hostMem (s : State) (chan : Nat) (r : Int) : (State.deliver s chan r).hostMem = s.hostMem := by
  unfold State.deliver; (try dsimp only); (repeat' split) <;> simp

@[simp ↓] theorem State.takePacket_hostMem (s : State) (p : Packet) (opcode : Nat) : (State.takePacket s p opcode).hostMem = s.hostMem := by
  unfold State.takePacket; (try dsimp only); (repeat' split) <;> first | (simp; done) | (rename_i h; have := State.deposit_hostMem _ _ _ _ _ _ _ _ h; simp_all; done)

@[simp ↓] theorem State.fetchOne_hostMem (s : State) (q : Nat) : (State.fetchOne s q).hostMem = s.hostMem := by
  unfold State.fetchOne; (try dsimp only); (repeat' split) <;> simp

@[simp ↓] theorem State.settleQueue_hostMem (s : State) (q : Nat) : (State.settleQueue s q).hostMem = s.hostMem := by
  unfold State.settleQueue; (try dsimp only); (repeat' split) <;> simp

@[simp ↓] theorem State.signal_hostMem (s : State) (q : Nat) (urgent : Bool) : (State.signal s q urgent).hostMem = s.hostMem := by
  unfold State.signal; (try dsimp only); (repeat' split) <;> simp

@[simp] theorem State.writeCompletion_memWf (s : State) (q : Nat) (r : Reply) (hm : Memory.wf s.hostMem) : Memory.wf (State.writeCompletion s q r).hostMem := by
  unfold State.writeCompletion; (try dsimp only); (repeat' split) <;> simp [Memory.wf, hm]

@[simp ↓] theorem State.completionDone_hostMem (s : State) (q : Nat) : (State.completionDone s q).hostMem = s.hostMem := by
  unfold State.completionDone; (try dsimp only); (repeat' split) <;> simp

@[simp] theorem State.nextCompletion_memWf (s : State) (q : Nat) (hm : Memory.wf s.hostMem) : Memory.wf (State.nextCompletion s q).hostMem := by
  unfold State.nextCompletion; (try dsimp only); (repeat' split) <;> simp [Memory.wf, hm]

@[simp ↓] theorem State.cancelQueue_hostMem (s : State) (q : Nat) : (State.cancelQueue s q).hostMem = s.hostMem := by
  unfold State.cancelQueue; (try dsimp only); (repeat' split) <;> simp

@[simp ↓] theorem State.disableQueue_hostMem (s : State) (q : Nat) : (State.disableQueue s q).hostMem = s.hostMem := by
  unfold State.disableQueue; (try dsimp only); (repeat' split) <;> simp

@[simp ↓] theorem State.writeQctl_hostMem (s : State) (q : Nat) (v : Word) : (State.writeQctl s q v).hostMem = s.hostMem := by
  unfold State.writeQctl; (try dsimp only); (repeat' split) <;> simp

@[simp ↓] theorem State.writeSqTail_hostMem (s : State) (q : Nat) (v : Word) : (State.writeSqTail s q v).hostMem = s.hostMem := by
  unfold State.writeSqTail; (try dsimp only); (repeat' split) <;> simp

@[simp ↓] theorem State.writeCqHead_hostMem (s : State) (q : Nat) (v : Word) : (State.writeCqHead s q v).hostMem = s.hostMem := by
  unfold State.writeCqHead; (try dsimp only); (repeat' split) <;> simp

@[simp ↓] theorem State.orphanQueue_hostMem (s : State) (q : Nat) : (State.orphanQueue s q).hostMem = s.hostMem := by
  unfold State.orphanQueue; (try dsimp only); (repeat' split) <;> simp

@[simp ↓] theorem State.dropQueue_hostMem (s : State) (q : Nat) : (State.dropQueue s q).hostMem = s.hostMem := by
  unfold State.dropQueue; (try dsimp only); (repeat' split) <;> simp

@[simp ↓] theorem State.loseLink_hostMem (s : State) : (State.loseLink s).hostMem = s.hostMem := by
  unfold State.loseLink; (try dsimp only); (repeat' split) <;> simp

@[simp ↓] theorem State.refuseUart_hostMem (s : State) (r : Packet × Nat) : (State.refuseUart s r).hostMem = s.hostMem := by
  unfold State.refuseUart; (try dsimp only); (repeat' split) <;> simp

@[simp ↓] theorem State.takeUart_hostMem (s : State) (r : Packet × Nat) : (State.takeUart s r).hostMem = s.hostMem := by
  unfold State.takeUart; (try dsimp only); (repeat' split) <;> simp

@[simp ↓] theorem State.onFout_hostMem (s : State) (k : Nat) (f : FieldOut → FieldOut) : (State.onFout s k f).hostMem = s.hostMem := by
  unfold State.onFout; (try dsimp only); (repeat' split) <;> simp

@[simp ↓] theorem State.startChatter_hostMem (s : State) (i : Nat) : (State.startChatter s i).hostMem = s.hostMem := by
  unfold State.startChatter; (try dsimp only); (repeat' split) <;> simp

@[simp ↓] theorem State.endStuckIn_hostMem (s : State) (i : Nat) : (State.endStuckIn s i).hostMem = s.hostMem := by
  unfold State.endStuckIn; (try dsimp only); (repeat' split) <;> simp

@[simp ↓] theorem State.disableInput_hostMem (s : State) (i : Nat) : (State.disableInput s i).hostMem = s.hostMem := by
  unfold State.disableInput; (try dsimp only); (repeat' split) <;> simp

@[simp ↓] theorem State.tickInput_hostMem (s : State) (clkB : Bool) (i : Nat) (raw : Bool) : (State.tickInput s clkB i raw).hostMem = s.hostMem := by
  unfold State.tickInput; (try dsimp only); (repeat' split) <;> simp

@[simp ↓] theorem State.endOut_hostMem (s : State) (k : Nat) (was : Bool) (f : FieldOut → FieldOut) : (State.endOut s k was f).hostMem = s.hostMem := by
  unfold State.endOut; (try dsimp only); (repeat' split) <;> simp

@[simp ↓] theorem State.switched_hostMem (s : State) (k : Nat) (on : Bool) : (State.switched s k on).hostMem = s.hostMem := by
  unfold State.switched; (try dsimp only); (repeat' split) <;> simp

@[simp ↓] theorem State.switchOn_hostMem (s : State) (k : Nat) : (State.switchOn s k).hostMem = s.hostMem := by
  unfold State.switchOn; (try dsimp only); (repeat' split) <;> simp

@[simp ↓] theorem State.switchOff_hostMem (s : State) (k : Nat) : (State.switchOff s k).hostMem = s.hostMem := by
  unfold State.switchOff; (try dsimp only); (repeat' split) <;> simp

@[simp ↓] theorem State.followOutput_hostMem (s : State) (k : Nat) : (State.followOutput s k).hostMem = s.hostMem := by
  unfold State.followOutput; (try dsimp only); (repeat' split) <;> simp

@[simp ↓] theorem State.fieldFault_hostMem (s : State) : (State.fieldFault s).hostMem = s.hostMem := by
  unfold State.fieldFault; (try dsimp only); (repeat' split) <;> simp

@[simp ↓] theorem State.fieldRefresh_hostMem (s : State) : (State.fieldRefresh s).hostMem = s.hostMem := by
  unfold State.fieldRefresh; (try dsimp only); (repeat' split) <;> simp

@[simp ↓] theorem State.reacting_hostMem (s : State) (f : State → State) : (s.reacting f).hostMem = (f s).hostMem := by
  unfold State.reacting; simp

@[simp ↓] theorem State.leaveMaint_hostMem (s : State) : (State.leaveMaint s).hostMem = s.hostMem := by
  unfold State.leaveMaint; (try dsimp only); (repeat' split) <;> simp

@[simp ↓] theorem State.onPort_hostMem (s : State) (p : Nat) (f : TribPort → TribPort) : (State.onPort s p f).hostMem = s.hostMem := by
  unfold State.onPort; (try dsimp only); (repeat' split) <;> simp

@[simp ↓] theorem State.putFrame_hostMem (s : State) (p : Nat) (own : Bool) (f : TribFrame) : (State.putFrame s p own f).hostMem = s.hostMem := by
  unfold State.putFrame; (try dsimp only); (repeat' split) <;> simp

@[simp ↓] theorem State.sendHead_hostMem (s : State) (type kind : Nat) (data : List (BitVec 64)) : (State.sendHead s type kind data).hostMem = s.hostMem := by
  unfold State.sendHead; (try dsimp only); (repeat' split) <;> simp

@[simp ↓] theorem State.sendHome_hostMem (s : State) (p type kind : Nat) (data : List (BitVec 64)) : (State.sendHome s p type kind data).hostMem = s.hostMem := by
  unfold State.sendHome; (try dsimp only); (repeat' split) <;> simp

@[simp ↓] theorem State.forward_hostMem (s : State) (p : Nat) (f : TribFrame) (stomped : Bool) : (State.forward s p f stomped).hostMem = s.hostMem := by
  unfold State.forward; (try dsimp only); (repeat' split) <;> simp

@[simp ↓] theorem State.chainReport_hostMem (s : State) (code inst : Nat) : (State.chainReport s code inst).hostMem = s.hostMem := by
  unfold State.chainReport; (try dsimp only); (repeat' split) <;> simp

@[simp ↓] theorem State.setMember_hostMem (s : State) (q : Nat) (m : Member) : (State.setMember s q m).hostMem = s.hostMem := by
  unfold State.setMember; (try dsimp only); (repeat' split) <;> simp

@[simp ↓] theorem State.onMember_hostMem (s : State) (q : Nat) (f : Member → Member) : (State.onMember s q f).hostMem = s.hostMem := by
  unfold State.onMember; (try dsimp only); (repeat' split) <;> simp

@[simp ↓] theorem State.memberReport_hostMem (s : State) (code q epoch : Nat) : (State.memberReport s code q epoch).hostMem = s.hostMem := by
  unfold State.memberReport; (try dsimp only); (repeat' split) <;> simp

@[simp ↓] theorem State.fencedFrame_hostMem (s : State) (q epoch : Nat) : (State.fencedFrame s q epoch).hostMem = s.hostMem := by
  unfold State.fencedFrame; (try dsimp only); (repeat' split) <;> simp

@[simp ↓] theorem State.crcEvent_hostMem (s : State) (p : Nat) : (State.crcEvent s p).hostMem = s.hostMem := by
  unfold State.crcEvent; (try dsimp only); (repeat' split) <;> simp

@[simp ↓] theorem State.countStray_hostMem (s : State) (p : Nat) (f : TribFrame) : (State.countStray s p f).hostMem = s.hostMem := by
  unfold State.countStray; (try dsimp only); (repeat' split) <;> simp

@[simp ↓] theorem State.judgeHeard_hostMem (s : State) (p : Nat) (f : TribFrame) : (s.judgeHeard p f).2.hostMem = s.hostMem := by
  unfold State.judgeHeard; (try dsimp only); (repeat' split) <;> simp

@[simp ↓] theorem State.judgeFrame_hostMem (s : State) (p : Nat) (f : TribFrame) : (s.judgeFrame p f).2.hostMem = s.hostMem := by
  unfold State.judgeFrame; split <;> simp

@[simp ↓] theorem State.contact_hostMem (s : State) (f : TribFrame) : (State.contact s f).hostMem = s.hostMem := by
  unfold State.contact; (try dsimp only); (repeat' split) <;> simp

@[simp ↓] theorem State.noteRef_hostMem (s : State) (f : TribFrame) : (State.noteRef s f).hostMem = s.hostMem := by
  unfold State.noteRef; (try dsimp only); (repeat' split) <;> simp

@[simp ↓] theorem State.receive_hostMem (s : State) (p : Nat) (f : TribFrame) (use : State → State × Option TribFrame)
    (h : ∀ t, (use t).1.hostMem = t.hostMem) : (s.receive p f use).hostMem = s.hostMem := by
  have hj := State.judgeFrame_hostMem s p f
  unfold State.receive
  split <;> rename_i h' <;> rw [h'] at hj <;> dsimp only at hj ⊢ <;> (repeat' split) <;> simp [h, hj]

@[simp ↓] theorem State.chainEvent_hostMem (s : State) : (State.chainEvent s).hostMem = s.hostMem := by
  unfold State.chainEvent; (try dsimp only); (repeat' split) <;> simp

@[simp ↓] theorem State.rebound_hostMem (s : State) : (State.rebound s).hostMem = s.hostMem := by
  unfold State.rebound; (try dsimp only); (repeat' split) <;> simp

@[simp ↓] theorem State.newEpoch_hostMem (s : State) : (State.newEpoch s).hostMem = s.hostMem := by
  unfold State.newEpoch; (try dsimp only); (repeat' split) <;> simp

@[simp ↓] theorem State.newTopology_hostMem (s : State) (linear : Bool) (brk : Nat) : (State.newTopology s linear brk).hostMem = s.hostMem := by
  unfold State.newTopology; (try dsimp only); (repeat' split) <;> simp

@[simp ↓] theorem State.breakAt_hostMem (s : State) (brk : Nat) : (State.breakAt s brk).hostMem = s.hostMem := by
  unfold State.breakAt; (try dsimp only); (repeat' split) <;> simp

@[simp ↓] theorem State.declareDead_hostMem (s : State) (q : Nat) : (State.declareDead s q).hostMem = s.hostMem := by
  unfold State.declareDead; (try dsimp only); (repeat' split) <;> simp

@[simp ↓] theorem State.miss_hostMem (s : State) (q : Nat) : (State.miss s q).hostMem = s.hostMem := by
  unfold State.miss; (try dsimp only); (repeat' split) <;> simp

@[simp ↓] theorem State.admitMember_hostMem (s : State) (q : Nat) : (State.admitMember s q).hostMem = s.hostMem := by
  unfold State.admitMember; (try dsimp only); (repeat' split) <;> simp

@[simp ↓] theorem State.leaveChain_hostMem (s : State) (m : MState) : (State.leaveChain s m).hostMem = s.hostMem := by
  unfold State.leaveChain; (try dsimp only); (repeat' split) <;> simp

@[simp ↓] theorem State.loseContact_hostMem (s : State) : (State.loseContact s).hostMem = s.hostMem := by
  unfold State.loseContact; (try dsimp only); (repeat' split) <;> simp

@[simp ↓] theorem State.showOffset_hostMem (s : State) (o : Int) : (State.showOffset s o).hostMem = s.hostMem := by
  unfold State.showOffset; (try dsimp only); (repeat' split) <;> simp

@[simp ↓] theorem State.joinStep_hostMem (s : State) (o : Int) : (State.joinStep s o).hostMem = s.hostMem := by
  unfold State.joinStep; (try dsimp only); (repeat' split) <;> simp

@[simp ↓] theorem State.measured_hostMem (s : State) (o : Int) : (State.measured s o).hostMem = s.hostMem := by
  unfold State.measured; (try dsimp only); (repeat' split) <;> simp

@[simp ↓] theorem State.startRounds_hostMem (s : State) (refs : List ArmRef) : (State.startRounds s refs).hostMem = s.hostMem := by
  unfold State.startRounds; (try dsimp only); (repeat' split) <;> simp

@[simp ↓] theorem State.joinRound_hostMem (s : State) (r : ArmRef) (v : Verdict) : (State.joinRound s r v).hostMem = s.hostMem := by
  unfold State.joinRound; (try dsimp only); (repeat' split) <;> simp

@[simp ↓] theorem State.decidePart_hostMem (s : State) (r : Round) (t : Thr) (pre frac : Nat) (short : Bool) : (State.decidePart s r t pre frac short).hostMem = s.hostMem := by
  unfold State.decidePart; (try dsimp only); (repeat' split) <;> simp

@[simp ↓] theorem State.hearHist_hostMem (s : State) (b a : Nat) (h : HistData) (hr : HeadRound) : (State.hearHist s b a h hr).hostMem = s.hostMem := by
  unfold State.hearHist; (try dsimp only); (repeat' split) <;> simp

@[simp ↓] theorem State.mergeRound_hostMem (s : State) (a : Nat) (hr : HeadRound) : (State.mergeRound s a hr).hostMem = s.hostMem := by
  unfold State.mergeRound; extract_lets e w contrib peers stalePos tot r hnm hs stale d t pp noPwm s1 s2
  have h1 : s1.hostMem = s.hostMem := by simp only [s1, d]; simp
  have h2 : s2.hostMem = s.hostMem := by simp only [s2]; simp [h1]
  simp [h2]

@[simp ↓] theorem State.setRole_hostMem (s : State) (role : Role) (pos : Nat) (fromCmd : Bool) (ndev : Nat) : (State.setRole s role pos fromCmd ndev).hostMem = s.hostMem := by
  unfold State.setRole; (try dsimp only); (repeat' split) <;> simp

@[simp] theorem State.applyRole_memWf (s : State) (p : Packet) (hm : Memory.wf s.hostMem) : Memory.wf (State.applyRole s p).hostMem := by
  unfold State.applyRole; (try dsimp only); (repeat' split) <;> simp [Memory.wf, hm]

@[simp] theorem State.roleAfterRounds_memWf (s : State) (hm : Memory.wf s.hostMem) : Memory.wf (State.roleAfterRounds s).hostMem := by
  unfold State.roleAfterRounds; (try dsimp only); (repeat' split) <;> simp [Memory.wf, hm]

@[simp ↓] theorem State.mergeReady_hostMem (s : State) (a : Nat) : (State.mergeReady s a).hostMem = s.hostMem := by
  unfold State.mergeReady; (try dsimp only); (repeat' split) <;> simp

@[simp] theorem State.keepRound_memWf (s : State) (a : Nat) (hr : HeadRound) (hm : Memory.wf s.hostMem) : Memory.wf (State.keepRound s a hr).hostMem := by
  unfold State.keepRound; (try dsimp only); (repeat' split) <;> simp [Memory.wf, hm]

@[simp ↓] theorem State.sendFsum_hostMem (s : State) (p kind : Nat) : (State.sendFsum s p kind).hostMem = s.hostMem := by
  unfold State.sendFsum; (try dsimp only); (repeat' split) <;> simp

@[simp ↓] theorem State.portDown_hostMem (s : State) (p : Nat) (los : Bool) : (State.portDown s p los).hostMem = s.hostMem := by
  unfold State.portDown; (try dsimp only); (repeat' split) <;> simp

@[simp ↓] theorem State.hearFsum_hostMem (s : State) (f : TribFrame) : (State.hearFsum s f).hostMem = s.hostMem := by
  unfold State.hearFsum; (try dsimp only); (repeat' split) <;> simp

@[simp ↓] theorem State.judgeNbr_hostMem (s : State) (p q : Nat) : (State.judgeNbr s p q).hostMem = s.hostMem := by
  unfold State.judgeNbr; (try dsimp only); (repeat' split) <;> simp

@[simp ↓] theorem State.adoptNotice_hostMem (s : State) (f : TribFrame) : (State.adoptNotice s f).hostMem = s.hostMem := by
  unfold State.adoptNotice; (try dsimp only); (repeat' split) <;> simp

@[simp] theorem State.admitWaiting_memWf (s : State) (q : Nat) (hm : Memory.wf s.hostMem) : Memory.wf (State.admitWaiting s q).hostMem := by
  unfold State.admitWaiting; (try dsimp only); (repeat' split) <;> simp [Memory.wf, hm]

@[simp ↓] theorem State.oneGen_hostMem (s before : State) (sm : Nat) : (State.oneGen s before sm).hostMem = s.hostMem := by
  unfold State.oneGen; (try dsimp only); (repeat' split) <;> simp

@[simp ↓] theorem State.dropSpare_hostMem (s : State) (old new : Smt) : (State.dropSpare s old new).hostMem = s.hostMem := by
  unfold State.dropSpare; (try dsimp only); (repeat' split) <;> simp

@[simp ↓] theorem State.writeEntry_hostMem (s : State) (sm : Nat) (w : List Word) : (State.writeEntry s sm w).hostMem = s.hostMem := by
  unfold State.writeEntry; (try dsimp only); (repeat' split) <;> simp

@[simp ↓] theorem State.tryEntry_hostMem (s : State) (sm : Nat) (w : List Word) : (s.tryEntry sm w).2.hostMem = s.hostMem := by
  unfold State.tryEntry; split <;> simp

@[simp] theorem State.endLmp_memWf (s : State) (packet : Option Packet) (est status detail index : Nat) (hm : Memory.wf s.hostMem) : Memory.wf (State.endLmp s packet est status detail index).hostMem := by
  unfold State.endLmp; (try dsimp only); (repeat' split) <;> simp [Memory.wf, hm]

@[simp] theorem State.startLmp_memWf (s : State) (packet : Option Packet) (hm : Memory.wf s.hostMem) : Memory.wf (State.startLmp s packet).hostMem := by
  unfold State.startLmp; (try dsimp only); (repeat' split) <;> simp [Memory.wf, hm]

@[simp ↓] theorem State.measure_hostMem (s : State) (g mv : Nat) : (State.measure s g mv).hostMem = s.hostMem := by
  unfold State.measure; (try dsimp only); (repeat' split) <;> simp

@[simp ↓] theorem State.railReport_hostMem (s : State) (code g : Nat) : (State.railReport s code g).hostMem = s.hostMem := by
  unfold State.railReport; (try dsimp only); (repeat' split) <;> simp

@[simp ↓] theorem State.endRail_hostMem (s : State) (g : Nat) : (State.endRail s g).hostMem = s.hostMem := by
  unfold State.endRail; (try dsimp only); (repeat' split) <;> simp

@[simp ↓] theorem State.resumeRail_hostMem (s : State) (g : Nat) : (State.resumeRail s g).hostMem = s.hostMem := by
  unfold State.resumeRail; (try dsimp only); (repeat' split) <;> simp

@[simp] theorem State.applyLmp_memWf (s : State) (c : LmpCommit) (hm : Memory.wf s.hostMem) : Memory.wf (State.applyLmp s c).hostMem := by
  unfold State.applyLmp; (try dsimp only); (repeat' split) <;> simp [Memory.wf, hm]

@[simp] theorem State.abandonLmp_memWf (s : State) (c : LmpCommit) (status detail index : Nat) (hm : Memory.wf s.hostMem) : Memory.wf (State.abandonLmp s c status detail index).hostMem := by
  unfold State.abandonLmp; (try dsimp only); (repeat' split) <;> simp [Memory.wf, hm]

@[simp ↓] theorem State.takeForced_hostMem (s : State) : (State.takeForced s).hostMem = s.hostMem := by
  unfold State.takeForced; (try dsimp only); (repeat' split) <;> simp

@[simp ↓] theorem State.conditionOver_hostMem (s : State) (code inst : Nat) : (State.conditionOver s code inst).hostMem = s.hostMem := by
  unfold State.conditionOver; (try dsimp only); (repeat' split) <;> simp

@[simp ↓] theorem State.recover_hostMem (s : State) (code : Nat) : (State.recover s code).hostMem = s.hostMem := by
  unfold State.recover; (try dsimp only); (repeat' split) <;> simp

@[simp ↓] theorem State.escalate_hostMem (s : State) (code : Nat) : (State.escalate s code).hostMem = s.hostMem := by
  unfold State.escalate; (try dsimp only); (repeat' split) <;> simp

@[simp ↓] theorem State.retryPins_hostMem (s : State) (healthy : Bool) : (State.retryPins s healthy).hostMem = s.hostMem := by
  unfold State.retryPins; (try dsimp only); (repeat' split) <;> simp

@[simp ↓] theorem State.clearCode_hostMem (s : State) (code : Nat) : (State.clearCode s code).hostMem = s.hostMem := by
  unfold State.clearCode; (try dsimp only); (repeat' split) <;> simp

@[simp ↓] theorem State.clearCodes_hostMem (s : State) (codes : List Nat) : (s.clearCodes codes).2.2.hostMem = s.hostMem := by
  unfold State.clearCodes
  have h : ∀ (l : List Nat) (a : Nat × Nat × State), (l.foldl (fun a code =>
      let s := a.2.2
      if !s.held code && (codes.length > 1 || !s.flt.asserted.any (fun r => r.code == code)) then a
      else if s.causeNow code then
        (a.1, if a.2.1 = 0 then code else a.2.1, s.onCode code (fun c => { c with refusals := satAdd 32 c.refusals 1 }))
      else (a.1 + 1, a.2.1, s.clearCode code)) a).2.2.hostMem = a.2.2.hostMem := by
    intro l
    induction l with
    | nil => intro a; rfl
    | cons x l ih => intro a; rw [List.foldl_cons, ih]; dsimp only; (repeat' split) <;> simp
  exact h codes (0, 0, s)

@[simp ↓] theorem State.clearFirst_hostMem (s : State) : (State.clearFirst s).hostMem = s.hostMem := by
  unfold State.clearFirst; (try dsimp only); (repeat' split) <;> simp

@[simp ↓] theorem State.writeHold_hostMem (s : State) (v : Word) : (State.writeHold s v).hostMem = s.hostMem := by
  unfold State.writeHold; (try dsimp only); (repeat' split) <;> simp

@[simp ↓] theorem State.setShadow_hostMem (s : State) (port : Port) (off : Nat) (v : Option Word) : (State.setShadow s port off v).hostMem = s.hostMem := by
  unfold State.setShadow; (try dsimp only); (repeat' split) <;> simp

@[simp ↓] theorem State.gives_hostMem (s : State) (v : Word) : (State.gives s v).hostMem = s.hostMem := by
  unfold State.gives; (try dsimp only); (repeat' split) <;> simp

@[simp ↓] theorem State.fpTouch_hostMem (s : State) : (State.fpTouch s).hostMem = s.hostMem := by
  unfold State.fpTouch; (try dsimp only); (repeat' split) <;> simp

@[simp ↓] theorem State.touch_hostMem (s : State) (port : Port) : (State.touch s port).hostMem = s.hostMem := by
  unfold State.touch; (try dsimp only); (repeat' split) <;> simp

@[simp ↓] theorem State.tear_hostMem (s : State) (port : Port) (off : Nat) : (State.tear s port off).hostMem = s.hostMem := by
  unfold State.tear; (try dsimp only); (repeat' split) <;> simp

@[simp ↓] theorem State.readSumLo_hostMem (s : State) (port : Port) (off : Nat) : (State.readSumLo s port off).hostMem = s.hostMem := by
  unfold State.readSumLo; (try dsimp only); (repeat' split) <;> simp

@[simp ↓] theorem State.readLow_hostMem (s : State) (port : Port) (off : Nat) : (State.readLow s port off).hostMem = s.hostMem := by
  unfold State.readLow; (try dsimp only); (repeat' split) <;> simp

@[simp ↓] theorem State.readHigh_hostMem (s : State) (port : Port) (off : Nat) : (State.readHigh s port off).hostMem = s.hostMem := by
  unfold State.readHigh; (try dsimp only); (repeat' split) <;> simp

@[simp ↓] theorem State.portRead_hostMem (s : State) (port : Port) (a : Nat) (admits : Nat → Bool) (f : State → Nat → State)
    (h : ∀ t o, (f t o).hostMem = t.hostMem) : (s.portRead port a admits f).hostMem = s.hostMem := by
  unfold State.portRead; (repeat' split) <;> simp [h]

@[simp] theorem State.commitLmp_memWf (s : State) (hm : Memory.wf s.hostMem) : Memory.wf (State.commitLmp s).hostMem := by
  unfold State.commitLmp; (try dsimp only); (repeat' split) <;> simp [Memory.wf, hm]

@[simp ↓] theorem State.restoreStr_hostMem (s : State) (str : Nat) : (State.restoreStr s str).hostMem = s.hostMem := by
  unfold State.restoreStr; (try dsimp only); (repeat' split) <;> simp

@[simp ↓] theorem State.writeSen_hostMem (s : State) (n : Nat) (v : Word) : (State.writeSen s n v).hostMem = s.hostMem := by
  unfold State.writeSen; (try dsimp only); (repeat' split) <;> simp

@[simp ↓] theorem State.redirect_hostMem (s : State) (str : Nat) : (State.redirect s str).hostMem = s.hostMem := by
  unfold State.redirect; (try dsimp only); (repeat' split) <;> simp

@[simp ↓] theorem State.snapForRound_hostMem (s : State) (a : Nat) : (State.snapForRound s a).hostMem = s.hostMem := by
  unfold State.snapForRound; (try dsimp only); (repeat' split) <;> simp

@[simp ↓] theorem State.actOn_hostMem (s : State) (a : Nat) (v : Verdict) : (State.actOn s a v).hostMem = s.hostMem := by
  unfold State.actOn; (try dsimp only); (repeat' split) <;> simp

@[simp ↓] theorem State.commitArms_hostMem (s : State) (mask : Nat) : (State.commitArms s mask).hostMem = s.hostMem := by
  unfold State.commitArms; (try dsimp only); (repeat' split) <;> simp

@[simp ↓] theorem State.writeAcommit_hostMem (s : State) (v : Word) : (State.writeAcommit s v).hostMem = s.hostMem := by
  unfold State.writeAcommit; (try dsimp only); (repeat' split) <;> simp

@[simp ↓] theorem State.writeSnapsel_hostMem (s : State) (v : Word) : (State.writeSnapsel s v).hostMem = s.hostMem := by
  unfold State.writeSnapsel; (try dsimp only); (repeat' split) <;> simp

@[simp ↓] theorem State.writeWrsel_hostMem (s : State) (v : Word) : (State.writeWrsel s v).hostMem = s.hostMem := by
  unfold State.writeWrsel; (try dsimp only); (repeat' split) <;> simp

@[simp ↓] theorem State.loadEntries_hostMem (at_ k sm n : Nat) (s : State) : (State.loadEntries at_ k sm n s).2.2.hostMem = s.hostMem := by
  induction k generalizing sm n s with
  | zero => rfl
  | succ k ih => unfold State.loadEntries; dsimp only; split
                 · rfl
                 · rw [ih]; simp

@[simp ↓] theorem State.dropUnit_hostMem (s : State) (u : Nat) : (State.dropUnit s u).hostMem = s.hostMem := by
  unfold State.dropUnit; (try dsimp only); (repeat' split) <;> simp

@[simp] theorem State.unitFails_memWf (s : State) (u : Nat) (hm : Memory.wf s.hostMem) : Memory.wf (State.unitFails s u).hostMem := by
  unfold State.unitFails; (try dsimp only); (repeat' split) <;> simp [Memory.wf, hm]

@[simp] theorem State.standInFails_memWf (s : State) (u : Nat) (x : Slice) (hm : Memory.wf s.hostMem) : Memory.wf (State.standInFails s u x).hostMem := by
  unfold State.standInFails; (try dsimp only); (repeat' split) <;> simp [Memory.wf, hm]

@[simp ↓] theorem State.reportUnit_hostMem (s : State) (code a old : Nat) : (State.reportUnit s code a old).hostMem = s.hostMem := by
  unfold State.reportUnit; (try dsimp only); (repeat' split) <;> simp

@[simp ↓] theorem State.clearLatched_hostMem (s : State) : (State.clearLatched s).hostMem = s.hostMem := by
  unfold State.clearLatched; (try dsimp only); (repeat' split) <;> simp

@[simp ↓] theorem State.endSilence_hostMem (s : State) : (State.endSilence s).hostMem = s.hostMem := by
  unfold State.endSilence; (try dsimp only); (repeat' split) <;> simp

@[simp ↓] theorem State.writeKick_hostMem (s : State) (v : Word) : (State.writeKick s v).hostMem = s.hostMem := by
  unfold State.writeKick; (try dsimp only); (repeat' split) <;> simp

@[simp ↓] theorem State.writeKcfg_hostMem (s : State) (v : Word) : (State.writeKcfg s v).hostMem = s.hostMem := by
  unfold State.writeKcfg; (try dsimp only); (repeat' split) <;> simp

@[simp ↓] theorem State.writeFcfg_hostMem (s : State) (i : Nat) (v : Word) : (State.writeFcfg s i v).hostMem = s.hostMem := by
  unfold State.writeFcfg; (try dsimp only); (repeat' split) <;> simp

@[simp ↓] theorem State.writeOcmd_hostMem (s : State) (v : Word) : (State.writeOcmd s v).hostMem = s.hostMem := by
  unfold State.writeOcmd; (try dsimp only); (repeat' split) <;> simp

@[simp ↓] theorem State.writeFltcfg_hostMem (s : State) (v : Word) : (State.writeFltcfg s v).hostMem = s.hostMem := by
  unfold State.writeFltcfg; (try dsimp only); (repeat' split) <;> simp

@[simp ↓] theorem State.writeOcfg_hostMem (s : State) (k : Nat) (v : Word) : (State.writeOcfg s k v).hostMem = s.hostMem := by
  unfold State.writeOcfg; (try dsimp only); (repeat' split) <;> simp

@[simp ↓] theorem State.partLoad_hostMem (s : State) (e : Entry) (p : Packet) (bytes : Nat) : (s.partLoad e p bytes).1.hostMem = s.hostMem := by
  unfold State.partLoad; (try dsimp only); (repeat' split) <;> simp

@[simp ↓] theorem State.failPtr_hostMem (s : State) (q bytes : Nat) : (State.failPtr s q bytes).hostMem = s.hostMem := by
  unfold State.failPtr; (try dsimp only); (repeat' split) <;> simp

@[simp ↓] theorem State.stopQueue_hostMem (s : State) (q : Nat) : (State.stopQueue s q).hostMem = s.hostMem := by
  unfold State.stopQueue; (try dsimp only); (repeat' split) <;> simp

@[simp ↓] theorem State.writeBase_hostMem (s : State) (q off : Nat) (v : Word) : (State.writeBase s q off v).hostMem = s.hostMem := by
  unfold State.writeBase; (try dsimp only); (repeat' split) <;> simp

@[simp ↓] theorem State.writeNtccfg_hostMem (s : State) (v : Word) : (State.writeNtccfg s v).hostMem = s.hostMem := by
  unfold State.writeNtccfg; (try dsimp only); (repeat' split) <;> simp

@[simp ↓] theorem State.writeFltCtl_hostMem (s : State) (v : Word) : (State.writeFltCtl s v).hostMem = s.hostMem := by
  unfold State.writeFltCtl; (try dsimp only); (repeat' split) <;> simp

@[simp ↓] theorem State.writeClkstat_hostMem (s : State) (v : Word) : (State.writeClkstat s v).hostMem = s.hostMem := by
  unfold State.writeClkstat; (try dsimp only); (repeat' split) <;> simp

@[simp ↓] theorem State.writeSetStatus_hostMem (s : State) (set : Nat) (v : Word) : (State.writeSetStatus s set v).hostMem = s.hostMem := by
  unfold State.writeSetStatus; (try dsimp only); (repeat' split) <;> simp

@[simp] theorem State.writeLower_memWf (s : State) (base i off : Nat) (v : Word) (hm : Memory.wf s.hostMem) : Memory.wf (State.writeLower s base i off v).hostMem := by
  unfold State.writeLower; (try dsimp only); (repeat' split) <;> simp (disch := (first | assumption | (intros; (repeat' split) <;> simp_all [Memory.wf]))) [Memory.wf, hm]

@[simp ↓] theorem State.writeUpper_hostMem (s : State) (base i off : Nat) (v : Word) : (State.writeUpper s base i off v).hostMem = s.hostMem := by
  unfold State.writeUpper; (try dsimp only); (repeat' split) <;> (try simp (disch := (intros; (try dsimp only); (repeat' split) <;> simp))) <;> (repeat' split) <;> simp

@[simp] theorem State.hostWrite_memWf (s : State) (off : Nat) (v : Word) (hm : Memory.wf s.hostMem) : Memory.wf (State.hostWrite s off v).hostMem := by
  unfold State.hostWrite; (try dsimp only); (repeat' split) <;> simp [Memory.wf, hm]

@[simp] theorem State.fastWrite_memWf (s : State) (a : Nat) (v : Word) (hm : Memory.wf s.hostMem) : Memory.wf (State.fastWrite s a v).hostMem := by
  unfold State.fastWrite; (try dsimp only); (repeat' split) <;> simp [Memory.wf, hm]

@[simp] theorem State.bar0Write_memWf (s : State) (off : Nat) (data : List Word) (full : Bool) (hm : Memory.wf s.hostMem) : Memory.wf (State.bar0Write s off data full).hostMem := by
  unfold State.bar0Write; (try dsimp only); (repeat' split) <;> simp (disch := (first | assumption | (intros; (repeat' split) <;> simp_all [Memory.wf]))) [Memory.wf, hm]

@[simp ↓] theorem State.sendPending_hostMem (s : State) : (State.sendPending s).hostMem = s.hostMem := by
  unfold State.sendPending; (try dsimp only); (repeat' split) <;> simp

@[simp ↓] theorem State.msixDword_hostMem (s : State) (off : Nat) (v : Word) : (State.msixDword s off v).hostMem = s.hostMem := by
  unfold State.msixDword; dsimp only; split <;> rfl

@[simp ↓] theorem State.bar4Write_hostMem (s : State) (off : Nat) (data : List Word) (full : Bool) : (State.bar4Write s off data full).hostMem = s.hostMem := by
  unfold State.bar4Write; (try dsimp only); (repeat' split) <;> simp

@[simp ↓] theorem State.settingRefused_hostMem (s : State) : (State.settingRefused s).hostMem = s.hostMem := by
  unfold State.settingRefused; (try dsimp only); (repeat' split) <;> simp

@[simp ↓] theorem State.applyEntries_hostMem (s : State) (n : Nat) (ws : List Word) : (s.applyEntries n ws).hostMem = s.hostMem := by
  induction n generalizing s ws with
  | zero => rfl
  | succ n ih => unfold State.applyEntries; split
                 · rw [ih]; split <;> simp
                 · rfl

@[simp ↓] theorem State.applySequence_hostMem (s : State) (ad : Nat) : (State.applySequence s ad).hostMem = s.hostMem := by
  unfold State.applySequence; (try dsimp only); (repeat' split) <;> simp

@[simp] theorem State.applyRecord_memWf (s : State) (tag : Nat) (ws : List Word) (hm : Memory.wf s.hostMem) : Memory.wf (State.applyRecord s tag ws).hostMem := by
  unfold State.applyRecord; (try dsimp only); (repeat' split) <;> simp (disch := (first | assumption | (intros; (repeat' split) <;> simp_all [Memory.wf]))) [Memory.wf, hm]

@[simp] theorem applyRecords_memWf (rs : List (Nat × List Word)) (s : State) (hm : Memory.wf s.hostMem) : Memory.wf (applyRecords rs s).hostMem := by
  induction rs generalizing s with
  | nil => unfold applyRecords; simp [Memory.wf, hm]
  | cons r rs ih => unfold applyRecords; dsimp only; split
                    · simp [Memory.wf, hm]
                    · exact ih _ (State.applyRecord_memWf _ _ _ hm)

@[simp] theorem State.applySettings_memWf (s : State) (h : SetHalf) (hm : Memory.wf s.hostMem) : Memory.wf (State.applySettings s h).hostMem := by
  unfold State.applySettings; (try dsimp only); (repeat' split) <;> simp [Memory.wf, hm]

@[simp] theorem State.goOn_memWf (s : State) (hm : Memory.wf s.hostMem) : Memory.wf (State.goOn s).hostMem := by
  unfold State.goOn; (try dsimp only); (repeat' split) <;> simp [Memory.wf, hm]

@[simp ↓] theorem State.resetTo_hostMem (s : State) (c : ResetCause) : (State.resetTo s c).hostMem = s.hostMem := by
  unfold State.resetTo; (try dsimp only); (repeat' split) <;> simp

@[simp ↓] theorem State.authFails_hostMem (s : State) : (State.authFails s).hostMem = s.hostMem := by
  unfold State.authFails; (try dsimp only); (repeat' split) <;> simp

@[simp ↓] theorem State.takeLcs_hostMem (s : State) (target : Nat) : (State.takeLcs s target).hostMem = s.hostMem := by
  unfold State.takeLcs; simp (disch := (intros; (repeat' split) <;> simp))

@[simp ↓] theorem State.handOver_hostMem (s : State) (x : Slice) : (State.handOver s x).hostMem = s.hostMem := by
  unfold State.handOver; (try dsimp only); (repeat' split) <;> simp

@[simp ↓] theorem State.onSlice_hostMem (s : State) (f : Slice → Slice) : (State.onSlice s f).hostMem = s.hostMem := by
  unfold State.onSlice; (try dsimp only); (repeat' split) <;> simp

@[simp ↓] theorem State.endFull_hostMem (s : State) (fails : List (Fin 512)) (aborted : Bool) : (State.endFull s fails aborted).hostMem = s.hostMem := by
  unfold State.endFull; (try dsimp only); (repeat' split) <;> simp (disch := (intros; (repeat' split) <;> simp))

@[simp ↓] theorem State.holdDie_hostMem (s : State) (d : Nat) : (State.holdDie s d).hostMem = s.hostMem := by
  unfold State.holdDie; (try dsimp only); (repeat' split) <;> simp

@[simp ↓] theorem State.releaseStr_hostMem (s : State) (str : Nat) : (State.releaseStr s str).hostMem = s.hostMem := by
  unfold State.releaseStr; (try dsimp only); (repeat' split) <;> simp

@[simp ↓] theorem State.releaseDie_hostMem (s : State) (d : Nat) (rails : List Nat) : (State.releaseDie s d rails).hostMem = s.hostMem := by
  unfold State.releaseDie; (try dsimp only); (repeat' split) <;> simp

@[simp ↓] theorem State.heldLocks_hostMem (s : State) : (State.heldLocks s).hostMem = s.hostMem := by
  unfold State.heldLocks; (try dsimp only); (repeat' split) <;> simp

@[simp ↓] theorem State.reportDie_hostMem (s : State) (d : Nat) : (State.reportDie s d).hostMem = s.hostMem := by
  unfold State.reportDie; (try dsimp only); (repeat' split) <;> simp

@[simp ↓] theorem State.huskDie_hostMem (s : State) (d : Nat) : (State.huskDie s d).hostMem = s.hostMem := by
  unfold State.huskDie; (try dsimp only); (repeat' split) <;> simp

@[simp ↓] theorem State.parityError_hostMem (s : State) (d : Nat) (fresh : Bool) : (State.parityError s d fresh).hostMem = s.hostMem := by
  unfold State.parityError; (try dsimp only); (repeat' split) <;> simp

@[simp ↓] theorem State.writeRec_hostMem (s : State) (f : BootRec → BootRec) : (State.writeRec s f).hostMem = s.hostMem := by
  unfold State.writeRec; (try dsimp only); (repeat' split) <;> simp

@[simp ↓] theorem State.onDev_hostMem (s : State) (n : Nat) (f : FlashDev → FlashDev) : (State.onDev s n f).hostMem = s.hostMem := by
  unfold State.onDev; (try dsimp only); (repeat' split) <;> simp

@[simp ↓] theorem State.wear_hostMem (s : State) (n : Nat) : (State.wear s n).hostMem = s.hostMem := by
  unfold State.wear; (try dsimp only); (repeat' split) <;> simp

@[simp ↓] theorem State.dirtySlot_hostMem (s : State) (n : Nat) : (State.dirtySlot s n).hostMem = s.hostMem := by
  unfold State.dirtySlot; (try dsimp only); (repeat' split) <;> simp

@[simp ↓] theorem State.putImage_hostMem (s : State) (n : Nat) (g : Image) : (State.putImage s n g).hostMem = s.hostMem := by
  unfold State.putImage; (try dsimp only); (repeat' split) <;> simp

@[simp ↓] theorem State.fallBack_hostMem (s : State) (bad cause : Nat) : (State.fallBack s bad cause).hostMem = s.hostMem := by
  unfold State.fallBack; (try dsimp only); (repeat' split) <;> simp

@[simp ↓] theorem State.dropStaging_hostMem (s : State) : (State.dropStaging s).hostMem = s.hostMem := by
  unfold State.dropStaging; (try dsimp only); (repeat' split) <;> simp

theorem State.takeStaging_hostMem (n : Nat) (s t : State) (h : s.takeStaging n = some t) : t.hostMem = s.hostMem := by
  induction n generalizing s with
  | zero => simp [State.takeStaging] at h; rw [h]
  | succ n ih =>
    unfold State.takeStaging at h
    split at h
    · next p u hp => rw [ih _ h]; simp [State.allocPage_hostMem _ _ _ _ hp]
    · simp at h

@[simp ↓] theorem State.toStage_hostMem (s : State) (g : Stage) : (State.toStage s g).hostMem = s.hostMem := by
  unfold State.toStage; (try dsimp only); (repeat' split) <;> simp

@[simp ↓] theorem State.storeChunk_hostMem (s : State) (k : Nat) (bs : List Byte) : (s.storeChunk k bs).state.hostMem = s.hostMem := by
  unfold State.storeChunk; (try dsimp only); (repeat' split) <;> simp [State.reply]

@[simp ↓] theorem State.takePiece_hostMem (s : State) (k len crc off : Nat) (bs : List Byte) : (s.takePiece k len crc off bs).state.hostMem = s.hostMem := by
  unfold State.takePiece; (try dsimp only); (repeat' split) <;> simp [State.reply]

@[simp] theorem State.endUpd_memWf (s : State) (op : Op) (g : Stage) (status detail : Nat) (data : List Word) (hm : Memory.wf s.hostMem) : Memory.wf (State.endUpd s op g status detail data).hostMem := by
  unfold State.endUpd; (try dsimp only); (repeat' split) <;> simp [Memory.wf, hm]

@[simp ↓] theorem State.updAtSag_hostMem (s : State) : (State.updAtSag s).hostMem = s.hostMem := by
  unfold State.updAtSag; (try dsimp only); (repeat' split) <;> simp

@[simp ↓] theorem State.finishKeep_hostMem (s : State) : (State.finishKeep s).hostMem = s.hostMem := by
  unfold State.finishKeep; (try dsimp only); (repeat' split) <;> simp

@[simp ↓] theorem State.restoreRetired_hostMem (s : State) : (State.restoreRetired s).hostMem = s.hostMem := by
  unfold State.restoreRetired; (try dsimp only); (repeat' split) <;> simp

@[simp] theorem State.sagCommit_memWf (s : State) (hm : Memory.wf s.hostMem) : Memory.wf (State.sagCommit s).hostMem := by
  unfold State.sagCommit; (try dsimp only); (repeat' split) <;> simp [Memory.wf, hm]

@[simp] theorem State.sagUpdate_memWf (s : State) (hm : Memory.wf s.hostMem) : Memory.wf (State.sagUpdate s).hostMem := by
  unfold State.sagUpdate; (try dsimp only); (repeat' split) <;> simp [Memory.wf, hm]

@[simp] theorem State.beginSave_memWf (s : State) (vin hold : Nat) (test : Option SaveTest) (hm : Memory.wf s.hostMem) : Memory.wf (State.beginSave s vin hold test).hostMem := by
  unfold State.beginSave
  rw [State.reacting_hostMem]
  extract_lets t u
  have ht : t.hostMem = s.hostMem := State.onPwr_hostMem _ _
  have hu : u.hostMem = s.hostMem := by simp [u, ht]
  refine State.sagUpdate_memWf _ (State.sagCommit_memWf _ (State.when_memWf _ _ _ (fun s hs => ?_) (State.abortSlice_memWf _ ?_)))
  · simpa [Memory.wf] using hs
  · simpa [Memory.wf, hu] using hm

@[simp] theorem State.busyFor_memWf (s : State) (op : Op) (p : Option Packet) (hm : Memory.wf s.hostMem) : Memory.wf (State.busyFor s op p).hostMem := by
  unfold State.busyFor; (try dsimp only); (repeat' split) <;> simp [Memory.wf, hm]

@[simp] theorem State.dropProving_memWf (s : State) (hm : Memory.wf s.hostMem) : Memory.wf (State.dropProving s).hostMem := by
  unfold State.dropProving; (try dsimp only); (repeat' split) <;> simp (disch := (first | assumption | (intros; (repeat' split) <;> simp_all [Memory.wf]))) [Memory.wf, hm]

@[simp] theorem State.dropCals_memWf (s : State) (hm : Memory.wf s.hostMem) : Memory.wf (State.dropCals s).hostMem := by
  unfold State.dropCals
  refine State.each_memWf _ _ _ (fun s ad hs => ?_) hm
  dsimp only
  refine State.each_memWf _ _ _ (fun t u ht => ?_) ?_
  · split <;> simp_all [Memory.wf]
  · split <;> simp_all [Memory.wf]

@[simp] theorem State.dropChain_memWf (s : State) (hm : Memory.wf s.hostMem) : Memory.wf (State.dropChain s).hostMem := by
  unfold State.dropChain; (try dsimp only); (repeat' split) <;> simp (disch := (first | assumption | (intros; (repeat' split) <;> simp_all [Memory.wf]))) [Memory.wf, hm]

@[simp] theorem State.dropSlices_memWf (s : State) (hm : Memory.wf s.hostMem) : Memory.wf (State.dropSlices s).hostMem := by
  unfold State.dropSlices; (try dsimp only); (repeat' split) <;> simp (disch := (first | assumption | (intros; (repeat' split) <;> simp_all [Memory.wf]))) [Memory.wf, hm]

@[simp ↓] theorem State.endPacket_hostMem (s : State) (i : Nat) : (State.endPacket s i).hostMem = s.hostMem := by
  unfold State.endPacket; (try dsimp only); (repeat' split) <;> simp

@[simp] theorem State.dropPackets_memWf (s : State) (hm : Memory.wf s.hostMem) : Memory.wf (State.dropPackets s).hostMem := by
  unfold State.dropPackets; dsimp only
  exact State.each_memWf _ _ _ (fun t a ht => by simpa using ht) (State.dropSlices_memWf _ (State.dropChain_memWf _ (State.dropCals_memWf _ (State.dropProving_memWf _ hm))))

@[simp ↓] theorem State.sagCut_hostMem (s : State) : (State.sagCut s).hostMem = s.hostMem := by
  unfold State.sagCut; (try dsimp only); (repeat' split) <;> simp

@[simp ↓] theorem State.enterSaved_hostMem (s : State) (back mirrorBad : Bool) : (State.enterSaved s back mirrorBad).hostMem = s.hostMem := by
  unfold State.enterSaved; (try dsimp only); (repeat' split) <;> simp

@[simp] theorem State.endTest_memWf (s : State) (us hold : Nat) (above : Bool) (hm : Memory.wf s.hostMem) : Memory.wf (State.endTest s us hold above).hostMem := by
  unfold State.endTest; (try dsimp only); (repeat' split) <;> simp [Memory.wf, hm]

@[simp ↓] theorem State.leaveSagCut_hostMem (s : State) (str : Nat) : (State.leaveSagCut s str).hostMem = s.hostMem := by
  unfold State.leaveSagCut; (try dsimp only); (repeat' split) <;> simp

@[simp ↓] theorem State.resumeStrings_hostMem (s : State) (rails : List Nat) : (State.resumeStrings s rails).hostMem = s.hostMem := by
  unfold State.resumeStrings; (try dsimp only); (repeat' split) <;> simp

@[simp ↓] theorem State.huskStreams_hostMem (s : State) : (State.huskStreams s).hostMem = s.hostMem := by
  unfold State.huskStreams; (try dsimp only); (repeat' split) <;> simp

@[simp ↓] theorem State.warmRestart_hostMem (s : State) (lost : List (Nat × Nat)) (rails : List Nat) : (State.warmRestart s lost rails).hostMem = s.hostMem := by
  unfold State.warmRestart; (try dsimp only); (repeat' split) <;> simp

@[simp ↓] theorem State.readStores_hostMem (s : State) (o : BootObs) : (State.readStores s o).hostMem = s.hostMem := by
  unfold State.readStores; (try dsimp only); (repeat' split) <;> simp

@[simp ↓] theorem State.trainDram_hostMem (s : State) (pages : Nat) : (State.trainDram s pages).hostMem = s.hostMem := by
  unfold State.trainDram; (try dsimp only); (repeat' split) <;> simp

@[simp ↓] theorem State.countTrial_hostMem (s : State) : (State.countTrial s).hostMem = s.hostMem := by
  unfold State.countTrial; (try dsimp only); (repeat' split) <;> simp

@[simp ↓] theorem State.chooseImage_hostMem (s : State) (b : Bool) : (s.chooseImage b).1.hostMem = s.hostMem := by
  unfold State.chooseImage; (try dsimp only); (repeat' split) <;> simp

@[simp ↓] theorem State.migrateSettings_hostMem (s : State) (n : Nat) : (State.migrateSettings s n).hostMem = s.hostMem := by
  unfold State.migrateSettings; (try dsimp only); (repeat' split) <;> simp

@[simp ↓] theorem State.loadTrim_hostMem (s : State) (g : Option Image) : (State.loadTrim s g).hostMem = s.hostMem := by
  unfold State.loadTrim; (try dsimp only); (repeat' split) <;> simp

@[simp ↓] theorem State.loadCode_hostMem (s : State) (g : Option Image) : (State.loadCode s g).hostMem = s.hostMem := by
  unfold State.loadCode; (try dsimp only); (repeat' split) <;> simp

@[simp ↓] theorem State.useFullBist_hostMem (s : State) : (State.useFullBist s).hostMem = s.hostMem := by
  unfold State.useFullBist; (try dsimp only); (repeat' split) <;> simp

@[simp ↓] theorem State.startPeriods_hostMem (s : State) : (State.startPeriods s).hostMem = s.hostMem := by
  unfold State.startPeriods; (try dsimp only); (repeat' split) <;> simp

@[simp] theorem State.bootSettings_memWf (s : State) (hm : Memory.wf s.hostMem) : Memory.wf (State.bootSettings s).hostMem := by
  unfold State.bootSettings; (try dsimp only); (repeat' split) <;> simp [Memory.wf, hm]

@[simp] theorem State.runReady_memWf (s : State) (n : Nat) (o : BootObs) (hm : Memory.wf s.hostMem) : Memory.wf (State.runReady s n o).hostMem := by
  unfold State.runReady; extract_lets a b trial c d e f g
  have hb : b.hostMem = s.hostMem := by simp only [b]; split <;> simp [a]
  have hd : d.hostMem = s.hostMem := by simp only [d]; split <;> simp [c, hb]
  have hf : f.hostMem = s.hostMem := by simp only [f]; split <;> simp [e, hd]
  have hg : g.hostMem = s.hostMem := by simp [g, hf]
  rw [State.reacting_hostMem]
  exact State.bootSettings_memWf _ (by rw [hg]; exact hm)

@[simp] theorem State.endBoot_memWf (s : State) (o : BootObs) (hm : Memory.wf s.hostMem) : Memory.wf (State.endBoot s o).hostMem := by
  unfold State.endBoot; dsimp only
  split
  · simpa [Memory.wf] using hm
  · split
    · simpa [Memory.wf] using hm
    · have hc := State.chooseImage_hostMem ((s.readStores o).trainDram o.dramPages) (((s.readStores o).trainDram o.dramPages).fld Reg.pwrReset 4 2 == 1)
      split <;> rename_i h <;> rw [h] at hc <;> simp_all [Memory.wf]

@[simp ↓] theorem State.vinLow_hostMem (s : State) : (State.vinLow s).hostMem = s.hostMem := by
  unfold State.vinLow; (try dsimp only); (repeat' split) <;> simp

@[simp ↓] theorem State.tick_hostMem (s : State) : (State.tick s).hostMem = s.hostMem := by
  unfold State.tick; (try dsimp only); (repeat' split) <;> simp

@[simp ↓] theorem State.withFetchWord_hostMem (s : State) (nbits w : Nat) : (State.withFetchWord s nbits w).hostMem = s.hostMem := by
  unfold State.withFetchWord; rfl

end Sys2Proof.Machine
end

