-- ==== Sys2Proof/Laws/Queue.lean ====
section
/-! SUPPORT. No operation touches the queue of the commands that wait: one law for each operation. -/

namespace Sys2Proof.Machine

@[simp ↓] theorem ite_pending (c : Prop) [Decidable c] (a b : State) : (if c then a else b).pending = if c then a.pending else b.pending := by split <;> rfl

@[simp ↓] theorem State.when_pending (s : State) (c : Bool) (f : State → State) (h : ∀ s, (f s).pending = s.pending) : (s.when c f).pending = s.pending := by
  unfold State.when; split <;> simp [h]

@[simp ↓] theorem State.each_pending {α : Type} (s : State) (l : List α) (f : State → α → State) (h : ∀ s a, (f s a).pending = s.pending) : (s.each l f).pending = s.pending := by
  unfold State.each; induction l generalizing s with
  | nil => rfl
  | cons a l ih => simp [ih, h]

@[simp ↓] theorem State.foldl_pending {α : Type} (s : State) (l : List α) (f : State → α → State) (h : ∀ s a, (f s a).pending = s.pending) : (l.foldl f s).pending = s.pending := s.each_pending l f h

@[simp ↓] theorem State.draw_pending (s : State) : s.draw.2.pending = s.pending := id rfl

@[simp ↓] theorem State.incFld_pending (s : State) (off lo n : Nat) : (State.incFld s off lo n).pending = s.pending := by
  unfold State.incFld; (try dsimp only); (repeat' split) <;> simp

@[simp ↓] theorem State.onStr_pending (s : State) (i : Nat) (f : Str → Str) : (State.onStr s i f).pending = s.pending := by
  unfold State.onStr; (try dsimp only); (repeat' split) <;> simp

@[simp ↓] theorem State.onGroup_pending (s : State) (g : Nat) (f : Group → Group) : (State.onGroup s g f).pending = s.pending := by
  unfold State.onGroup; (try dsimp only); (repeat' split) <;> simp

@[simp ↓] theorem State.onStream_pending (s : State) (i : Nat) (f : Stream → Stream) : (State.onStream s i f).pending = s.pending := by
  unfold State.onStream; (try dsimp only); (repeat' split) <;> simp

@[simp ↓] theorem State.onRet_pending (s : State) (i : Nat) (f : RetIn → RetIn) : (State.onRet s i f).pending = s.pending := by
  unfold State.onRet; (try dsimp only); (repeat' split) <;> simp

@[simp ↓] theorem State.onPrv_pending (s : State) (i : Nat) (f : Prove → Prove) : (State.onPrv s i f).pending = s.pending := by
  unfold State.onPrv; (try dsimp only); (repeat' split) <;> simp

@[simp ↓] theorem State.onSmt_pending (s : State) (i : Nat) (f : Smt → Smt) : (State.onSmt s i f).pending = s.pending := by
  unfold State.onSmt; (try dsimp only); (repeat' split) <;> simp

@[simp ↓] theorem State.onArm_pending (s : State) (a : Nat) (f : Arm → Arm) : (State.onArm s a f).pending = s.pending := by
  unfold State.onArm; (try dsimp only); (repeat' split) <;> simp

@[simp ↓] theorem State.onUnit_pending (s : State) (u : Nat) (f : ArmUnit → ArmUnit) : (State.onUnit s u f).pending = s.pending := by
  unfold State.onUnit; (try dsimp only); (repeat' split) <;> simp

@[simp ↓] theorem State.onEngine_pending (s : State) (e : Nat) (f : Engine → Engine) : (State.onEngine s e f).pending = s.pending := by
  unfold State.onEngine; (try dsimp only); (repeat' split) <;> simp

@[simp ↓] theorem State.onEntry_pending (s : State) (i : Nat) (f : Entry → Entry) : (State.onEntry s i f).pending = s.pending := by
  unfold State.onEntry; (try dsimp only); (repeat' split) <;> simp

@[simp ↓] theorem State.onRlist_pending (s : State) (i : Nat) (f : ReadyList → ReadyList) : (State.onRlist s i f).pending = s.pending := by
  unfold State.onRlist; (try dsimp only); (repeat' split) <;> simp

@[simp ↓] theorem State.onProducer_pending (s : State) (i : Nat) (f : Producer → Producer) : (State.onProducer s i f).pending = s.pending := by
  unfold State.onProducer; (try dsimp only); (repeat' split) <;> simp

@[simp ↓] theorem State.onStrm_pending (s : State) (i : Nat) (f : Strm → Strm) : (State.onStrm s i f).pending = s.pending := by
  unfold State.onStrm; (try dsimp only); (repeat' split) <;> simp

@[simp ↓] theorem State.onQueue_pending (s : State) (q : Nat) (f : Queue → Queue) : (State.onQueue s q f).pending = s.pending := by
  unfold State.onQueue; (try dsimp only); (repeat' split) <;> simp

@[simp ↓] theorem State.onCode_pending (s : State) (c : Nat) (f : CodeSt → CodeSt) : (State.onCode s c f).pending = s.pending := by
  unfold State.onCode; (try dsimp only); (repeat' split) <;> simp

@[simp ↓] theorem State.onConv_pending (s : State) (ad : Nat) (f : Conv → Conv) : (State.onConv s ad f).pending = s.pending := by
  unfold State.onConv; (try dsimp only); (repeat' split) <;> simp

@[simp ↓] theorem State.onAcc_pending (s : State) (i : Nat) (f : AccSet → AccSet) : (State.onAcc s i f).pending = s.pending := by
  unfold State.onAcc; (try dsimp only); (repeat' split) <;> simp

@[simp ↓] theorem State.onDie_pending (s : State) (d : Nat) (f : DieLink → DieLink) : (State.onDie s d f).pending = s.pending := by
  unfold State.onDie; (try dsimp only); (repeat' split) <;> simp

@[simp ↓] theorem State.dmaWrite_pending (s : State) (a : Nat) (bs : List Byte) : (s.dmaWrite a bs).pending = s.pending := by
  induction bs generalizing s a with
  | nil => rfl
  | cons b bs ih => unfold State.dmaWrite; rw [ih]; simp

@[simp ↓] theorem State.triggerVector_pending (s : State) (v : Nat) : (State.triggerVector s v).pending = s.pending := by
  unfold State.triggerVector; (try dsimp only); (repeat' split) <;> simp

@[simp ↓] theorem State.irq_pending (s : State) (src : Nat) : (State.irq s src).pending = s.pending := by
  unfold State.irq; (try dsimp only); (repeat' split) <;> simp

@[simp ↓] theorem State.addCause_pending (s : State) (code inst : Nat) : (State.addCause s code inst).pending = s.pending := by
  unfold State.addCause; (try dsimp only); (repeat' split) <;> simp

@[simp ↓] theorem State.report_pending (s : State) (r : Report) : (State.report s r).pending = s.pending := by
  unfold State.report; (try dsimp only); (repeat' split) <;> simp

@[simp ↓] theorem State.reportNow_pending (s : State) (code inst : Nat) : (State.reportNow s code inst).pending = s.pending := by
  unfold State.reportNow; (try dsimp only); (repeat' split) <;> simp

@[simp ↓] theorem State.leaveActive_pending (s : State) (code : Nat) : (State.leaveActive s code).pending = s.pending := by
  unfold State.leaveActive; (try dsimp only); (repeat' split) <;> simp

@[simp ↓] theorem State.endCause_pending (s : State) (code inst : Nat) : (State.endCause s code inst).pending = s.pending := by
  unfold State.endCause; (try dsimp only); (repeat' split) <;> simp

@[simp ↓] theorem State.endCauses_pending (s : State) (code : Nat) : (State.endCauses s code).pending = s.pending := by
  unfold State.endCauses; (try dsimp only); (repeat' split) <;> simp

@[simp ↓] theorem State.endInjection_pending (s : State) : (State.endInjection s).pending = s.pending := by
  unfold State.endInjection; (try dsimp only); (repeat' split) <;> simp

@[simp ↓] theorem State.takeInjection_pending (s : State) : (State.takeInjection s).pending = s.pending := by
  unfold State.takeInjection; (try dsimp only); (repeat' split) <;> simp

@[simp ↓] theorem State.injecting_pending (s : State) (checker kind : Nat) (f : State → State) (hf : ∀ s, (f s).pending = s.pending) : (State.injecting s checker kind f).pending = s.pending := by
  unfold State.injecting; (try dsimp only); (repeat' split) <;> simp_all

@[simp ↓] theorem State.record_pending (s : State) (source : Nat) (pass : Word → Bool) (r : Rec) : (State.record s source pass r).pending = s.pending := by
  unfold State.record; (try dsimp only); (repeat' split) <;> simp

@[simp ↓] theorem State.recEdge_pending (s : State) (lamp time : Nat) (lit own : Bool) : (State.recEdge s lamp time lit own).pending = s.pending := by
  unfold State.recEdge; (try dsimp only); (repeat' split) <;> simp

@[simp ↓] theorem State.recProve_pending (s : State) (lamp method verdict mv : Nat) (epoch : Nat) (retired : Bool) : (State.recProve s lamp method verdict mv epoch retired).pending = s.pending := by
  unfold State.recProve; (try dsimp only); (repeat' split) <;> simp

@[simp ↓] theorem State.recDisturb_pending (s : State) (str start len : Nat) (retired : Bool) : (State.recDisturb s str start len retired).pending = s.pending := by
  unfold State.recDisturb; (try dsimp only); (repeat' split) <;> simp

@[simp ↓] theorem State.recChange_pending (s : State) (sm : Nat) (aspect : Nat) (pwm : Bool) (duty arm : Nat) : (State.recChange s sm aspect pwm duty arm).pending = s.pending := by
  unfold State.recChange; (try dsimp only); (repeat' split) <;> simp

@[simp ↓] theorem State.recFio_pending (s : State) (kind channel : Nat) (state : Bool) (event : Nat) : (State.recFio s kind channel state event).pending = s.pending := by
  unfold State.recFio; (try dsimp only); (repeat' split) <;> simp

@[simp ↓] theorem State.recReturn_pending (s : State) (sm rxl status vcap temp echo time : Nat) : (State.recReturn s sm rxl status vcap temp echo time).pending = s.pending := by
  unfold State.recReturn; (try dsimp only); (repeat' split) <;> simp

theorem State.allocPage_pending (s t : State) (u p : Nat) (h : s.allocPage u = some (p, t)) : t.pending = s.pending := by
  unfold State.allocPage at h
  (repeat' split at h) <;> simp_all <;> obtain ⟨_, rfl⟩ := h <;> simp

@[simp ↓] theorem State.freePagesBack_pending (s : State) (ps : List Nat) : (State.freePagesBack s ps).pending = s.pending := by
  unfold State.freePagesBack; (try dsimp only); (repeat' split) <;> simp

@[simp ↓] theorem State.countRefusal_pending (s : State) (u : Nat) : (State.countRefusal s u).pending = s.pending := by
  unfold State.countRefusal; (try dsimp only); (repeat' split) <;> simp

@[simp ↓] theorem State.openNext_pending (s : State) (i : Nat) : (State.openNext s i).pending = s.pending := by
  unfold State.openNext; dsimp only
  split
  · split <;> simp
  · split
    · next p t h => simp [State.allocPage_pending _ _ _ _ h]
    · simp

@[simp ↓] theorem State.triggerOne_pending (s : State) (i time cause code sev : Nat) : (State.triggerOne s i time cause code sev).pending = s.pending := by
  unfold State.triggerOne; (try dsimp only); (repeat' split) <;> simp

@[simp ↓] theorem State.trigger_pending (s : State) (streams : List Nat) (time cause code sev : Nat) : (State.trigger s streams time cause code sev).pending = s.pending := by
  unfold State.trigger; (try dsimp only); (repeat' split) <;> simp

@[simp ↓] theorem State.triggerFault_pending (s : State) (code sev time : Nat) : (State.triggerFault s code sev time).pending = s.pending := by
  unfold State.triggerFault; (try dsimp only); (repeat' split) <;> simp

@[simp ↓] theorem State.triggerHost_pending (s : State) (mask : Nat) : (State.triggerHost s mask).pending = s.pending := by
  unfold State.triggerHost; (try dsimp only); (repeat' split) <;> simp

@[simp ↓] theorem State.sealRecords_pending (s : State) : (State.sealRecords s).pending = s.pending := by
  unfold State.sealRecords; (try dsimp only); (repeat' split) <;> simp

@[simp ↓] theorem State.makeReady_pending (s : State) (i : Nat) : (State.makeReady s i).pending = s.pending := by
  unfold State.makeReady; (try dsimp only); (repeat' split) <;> simp

@[simp ↓] theorem State.promote_pending (s : State) : (State.promote s).pending = s.pending := by
  unfold State.promote; (try dsimp only); (repeat' split) <;> simp

@[simp ↓] theorem State.refuseDeposit_pending (s : State) (k : Producing) : (State.refuseDeposit s k).pending = s.pending := by
  unfold State.refuseDeposit; (try dsimp only); (repeat' split) <;> simp

@[simp ↓] theorem State.readyWhenFull_pending (s : State) (i : Nat) : (State.readyWhenFull s i).pending = s.pending := by
  unfold State.readyWhenFull; (try dsimp only); (repeat' split) <;> simp

@[simp ↓] theorem State.countDeposit_pending (s : State) (k : Producing) (again : Bool) : (State.countDeposit s k again).pending = s.pending := by
  unfold State.countDeposit; (try dsimp only); (repeat' split) <;> simp

theorem State.deposit_pending (s t : State) (k : Producing) (template key slot data : Nat) (packet : Option (Packet × Nat))
    (h : s.deposit k template key slot data packet = some t) : t.pending = s.pending := by
  unfold State.deposit at h
  dsimp only at h
  split at h
  · split at h
    · cases h
    · simp only [Option.some.injEq] at h; rw [← h]; simp
  · split at h
    · split at h <;> split at h <;> split at h <;> first | (simp at h; done) | (simp only [Option.some.injEq] at h; rw [← h]; simp)
    · simp at h

@[simp ↓] theorem State.freeTask_pending (s : State) (i : Nat) : (State.freeTask s i).pending = s.pending := by
  unfold State.freeTask; (try dsimp only); (repeat' split) <;> simp

@[simp ↓] theorem State.cancelTask_pending (s : State) (i : Nat) : (State.cancelTask s i).pending = s.pending := by
  unfold State.cancelTask; (try dsimp only); (repeat' split) <;> simp

@[simp ↓] theorem State.cancelKey_pending (s : State) (template key : Nat) : (State.cancelKey s template key).pending = s.pending := by
  unfold State.cancelKey; (try dsimp only); (repeat' split) <;> simp

@[simp ↓] theorem State.complete_pending (s : State) (r : Reply) : (State.complete s r).pending = s.pending := by
  unfold State.complete; (try dsimp only); (repeat' split) <;> simp

@[simp ↓] theorem State.begin_pending (s : State) (p : Packet) : (State.begin s p).pending = s.pending := by
  unfold State.begin; (try dsimp only); (repeat' split) <;> simp

@[simp ↓] theorem State.answer_pending (s : State) (op : Op) (p : Packet) (status detail : Nat) (data : List Word) : (State.answer s op p status detail data).pending = s.pending := by
  unfold State.answer; dsimp only; (repeat' split) <;> simp

@[simp ↓] theorem State.command_pending (s : State) (op : Op) (p : Packet) (own : State → Result)
    (h : (own s).state.pending = s.pending) : (s.command op p own).pending = s.pending := by
  unfold State.command; (repeat' split) <;> simp [h]

@[simp ↓] theorem State.setTarget_pending (s : State) (g mv : Nat) : (State.setTarget s g mv).pending = s.pending := by
  unfold State.setTarget; (try dsimp only); (repeat' split) <;> simp

@[simp ↓] theorem State.retarget_pending (s : State) (gs : List Nat) : (State.retarget s gs).pending = s.pending := by
  unfold State.retarget; (try dsimp only); (repeat' split) <;> simp

@[simp ↓] theorem State.leaveSteady_pending (s : State) (str : Nat) : (State.leaveSteady s str).pending = s.pending := by
  unfold State.leaveSteady; (try dsimp only); (repeat' split) <;> simp

@[simp ↓] theorem State.driveStr_pending (s : State) (str : Nat) : (State.driveStr s str).pending = s.pending := by
  unfold State.driveStr; (try dsimp only); (repeat' split) <;> simp

@[simp ↓] theorem State.startWaiting_pending (s : State) (g : Nat) : (State.startWaiting s g).pending = s.pending := by
  unfold State.startWaiting; (try dsimp only); (repeat' split) <;> simp

@[simp ↓] theorem State.follow_pending (s : State) (l : Nat) : (State.follow s l).pending = s.pending := by
  unfold State.follow; (try dsimp only); (repeat' split) <;> simp

@[simp ↓] theorem State.show_pending (s : State) (src : AspSrc) (l : Nat) (c : Content) (fadeUs : Nat) : (State.show s src l c fadeUs).pending = s.pending := by
  unfold State.show; (try dsimp only); (repeat' split) <;> simp

@[simp ↓] theorem State.endFade_pending (s : State) (l : Nat) : (State.endFade s l).pending = s.pending := by
  unfold State.endFade; (try dsimp only); (repeat' split) <;> simp

@[simp ↓] theorem State.preloadDie_pending (s : State) (d : Nat) (record : Bool) : (State.preloadDie s d record).pending = s.pending := by
  unfold State.preloadDie; (try dsimp only); (repeat' split) <;> simp

@[simp ↓] theorem State.followDie_pending (s : State) (d : Nat) : (State.followDie s d).pending = s.pending := by
  unfold State.followDie; (try dsimp only); (repeat' split) <;> simp

@[simp ↓] theorem State.commandStream_pending (s : State) (src : AspSrc) (l : Nat) (c : Content) : (State.commandStream s src l c).pending = s.pending := by
  unfold State.commandStream; (try dsimp only); (repeat' split) <;> simp

@[simp ↓] theorem State.huskEntry_pending (before s : State) : (State.huskEntry before s).pending = s.pending := by
  unfold State.huskEntry; (try dsimp only); (repeat' split) <;> simp

@[simp ↓] theorem State.huskFlags_pending (s : State) : (State.huskFlags s).pending = s.pending := by
  unfold State.huskFlags; (try dsimp only); (repeat' split) <;> simp

@[simp ↓] theorem State.withHusk_pending (s : State) (f : State → State) : (s.withHusk f).pending = (f s).pending := by
  unfold State.withHusk; simp

@[simp ↓] theorem State.queueRepeat_pending (s : State) (l since till : Nat) : (State.queueRepeat s l since till).pending = s.pending := by
  unfold State.queueRepeat; (try dsimp only); (repeat' split) <;> simp

@[simp ↓] theorem State.bypassSm_pending (s : State) (sm : Nat) : (State.bypassSm s sm).pending = s.pending := by
  unfold State.bypassSm; (try dsimp only); (repeat' split) <;> simp

@[simp ↓] theorem State.afterList_pending (s : State) (a : Nat) (cands : List Cand) : (State.afterList s a cands).pending = s.pending := by
  unfold State.afterList; (try dsimp only); (repeat' split) <;> simp

@[simp ↓] theorem State.dropPart_pending (s : State) (a : Nat) : (State.dropPart s a).pending = s.pending := by
  unfold State.dropPart; (try dsimp only); (repeat' split) <;> simp

@[simp ↓] theorem State.causeSmt_pending (s : State) (sm : Nat) (quiet : Bool) (f : Smt → Smt) : (State.causeSmt s sm quiet f).pending = s.pending := by
  unfold State.causeSmt; (try dsimp only); (repeat' split) <;> simp

@[simp ↓] theorem State.reviewSmt_pending (s : State) (sm : Nat) : (State.reviewSmt s sm).pending = s.pending := by
  unfold State.reviewSmt; (try dsimp only); (repeat' split) <;> simp

@[simp ↓] theorem State.review_pending (s : State) : (State.review s).pending = s.pending := by
  unfold State.review; (try dsimp only); (repeat' split) <;> simp

@[simp ↓] theorem State.reranked_pending (s before : State) (a : Nat) : (State.reranked s before a).pending = s.pending := by
  unfold State.reranked; (try dsimp only); (repeat' split) <;> simp

@[simp ↓] theorem State.openShadow_pending (s : State) (k : ShadowKind) : (State.openShadow s k).pending = s.pending := by
  unfold State.openShadow; (try dsimp only); (repeat' split) <;> simp

@[simp ↓] theorem State.lampReport_pending (s : State) (code l mv time : Nat) : (State.lampReport s code l mv time).pending = s.pending := by
  unfold State.lampReport; (try dsimp only); (repeat' split) <;> simp

@[simp ↓] theorem State.retire_pending (s : State) (l : Nat) (c : Cause) (mv : Nat) : (State.retire s l c mv).pending = s.pending := by
  unfold State.retire; (try dsimp only); (repeat' split) <;> simp

@[simp ↓] theorem State.unjudged_pending (s : State) (l code : Nat) (f : PrvCounters → PrvCounters) : (State.unjudged s l code f).pending = s.pending := by
  unfold State.unjudged; (try dsimp only); (repeat' split) <;> simp

@[simp ↓] theorem State.abortTrickle_pending (s : State) (l : Nat) : (State.abortTrickle s l).pending = s.pending := by
  unfold State.abortTrickle; (try dsimp only); (repeat' split) <;> simp

@[simp ↓] theorem State.takeover_pending (s : State) (partner spare : Nat) (since : Nat) : (State.takeover s partner spare since).pending = s.pending := by
  unfold State.takeover; (try dsimp only); (repeat' split) <;> simp

@[simp ↓] theorem State.applyRetirement_pending (s : State) (n : RetireNote) : (State.applyRetirement s n).pending = s.pending := by
  unfold State.applyRetirement; (try dsimp only); (repeat' split) <;> simp

@[simp ↓] theorem State.reportSm_pending (s : State) (code sm : Nat) (e : Smt) : (State.reportSm s code sm e).pending = s.pending := by
  unfold State.reportSm; (try dsimp only); (repeat' split) <;> simp

@[simp ↓] theorem State.snapshotSm_pending (s : State) (limit sm : Nat) : (State.snapshotSm s limit sm).pending = s.pending := by
  unfold State.snapshotSm; (try dsimp only); (repeat' split) <;> simp

@[simp ↓] theorem State.snapshotArm_pending (s : State) (a : Nat) : (State.snapshotArm s a).pending = s.pending := by
  unfold State.snapshotArm; (try dsimp only); (repeat' split) <;> simp

@[simp ↓] theorem State.change_pending (s : State) (a cycle sm : Nat) (asp : Aspect) (pwm : Bool) (frac : Nat) (barred : Bool) : (State.change s a cycle sm asp pwm frac barred).pending = s.pending := by
  unfold State.change; (try dsimp only); (repeat' split) <;> simp

@[simp ↓] theorem State.shortfall_pending (s : State) (a nIns navail : Nat) : (State.shortfall s a nIns navail).pending = s.pending := by
  unfold State.shortfall; (try dsimp only); (repeat' split) <;> simp

@[simp ↓] theorem State.setShort_pending (s : State) (a nIns navail : Nat) : (State.setShort s a nIns navail).pending = s.pending := by
  unfold State.setShort; (try dsimp only); (repeat' split) <;> simp

@[simp ↓] theorem State.postDecision_pending (s : State) (a data : Nat) : (State.postDecision s a data).pending = s.pending := by
  unfold State.postDecision; (try dsimp only); (repeat' split) <;> first | (simp; done) | (rename_i h; have := State.deposit_pending _ _ _ _ _ _ _ _ h; simp_all; done)

@[simp ↓] theorem State.recDecision_pending (s : State) (a cycle nIns : Nat) (plan : Option Plan) (changes : Nat) : (State.recDecision s a cycle nIns plan changes).pending = s.pending := by
  unfold State.recDecision; exact (State.record_pending _ _ _ _).trans (State.draw_pending s)

@[simp ↓] theorem State.carryOut_pending (s : State) (a cycle nIns frac pins : Nat) (p : Plan) (stale : List Nat) : (State.carryOut s a cycle nIns frac pins p stale).pending = s.pending := by
  unfold State.carryOut; (try dsimp only); (repeat' split) <;> simp

@[simp ↓] theorem State.decideLocal_pending (s : State) (a nIns : Nat) (dir : Bool) (cycle frac : Nat) (stale : List Nat) : (State.decideLocal s a nIns dir cycle frac stale).pending = s.pending := by
  unfold State.decideLocal; (try dsimp only); (repeat' split) <;> simp

@[simp ↓] theorem State.countVerdict_pending (s : State) (a : Nat) (v : Verdict) : (State.countVerdict s a v).pending = s.pending := by
  unfold State.countVerdict; (try dsimp only); (repeat' split) <;> simp

@[simp ↓] theorem State.recordCommit_pending (s : State) (vs : List (Nat × Verdict)) : (State.recordCommit s vs).pending = s.pending := by
  unfold State.recordCommit; (try dsimp only); (repeat' split) <;> simp

@[simp ↓] theorem State.holdArm_pending (s : State) (a nIns : Nat) : (State.holdArm s a nIns).pending = s.pending := by
  unfold State.holdArm; (try dsimp only); (repeat' split) <;> simp

@[simp ↓] theorem State.takeArm_pending (s : State) (a nIns : Nat) (dir : Bool) (cycle frac : Nat) : (State.takeArm s a nIns dir cycle frac).pending = s.pending := by
  unfold State.takeArm; (try dsimp only); (repeat' split) <;> simp

@[simp ↓] theorem State.writeReg_pending (s : State) (off : Nat) (v : Word) : (State.writeReg s off v).pending = s.pending := by
  unfold State.writeReg; (try dsimp only); (repeat' split) <;> simp

@[simp ↓] theorem State.msrFlag_pending (s : State) (ad b : Nat) : (State.msrFlag s ad b).pending = s.pending := by
  unfold State.msrFlag; (try dsimp only); (repeat' split) <;> simp

@[simp ↓] theorem State.storeCal_pending (s : State) (ad chan gain : Nat) (v : Int × Nat) : (State.storeCal s ad chan gain v).pending = s.pending := by
  unfold State.storeCal; (try dsimp only); (repeat' split) <;> simp

@[simp ↓] theorem State.offer_pending (s : State) (ad set : Nat) (valid : Bool) (r : Int) (t chan gain : Nat) : (State.offer s ad set valid r t chan gain).pending = s.pending := by
  unfold State.offer; (try dsimp only); (repeat' split) <;> simp

@[simp ↓] theorem State.beginRun_pending (s : State) (ad : Nat) (x : RunSpec) (entry : Option Nat) (cal : Bool) : (State.beginRun s ad x entry cal).pending = s.pending := by
  unfold State.beginRun; (try dsimp only); (repeat' split) <;> simp

@[simp ↓] theorem State.abortRun_pending (s : State) (ad : Nat) : (State.abortRun s ad).pending = s.pending := by
  unfold State.abortRun; (try dsimp only); (repeat' split) <;> simp

@[simp ↓] theorem State.yieldRun_pending (s : State) (ad : Nat) (r : Run) : (State.yieldRun s ad r).pending = s.pending := by
  unfold State.yieldRun; (try dsimp only); (repeat' split) <;> simp

@[simp ↓] theorem State.startOver_pending (s : State) (ad : Nat) : (State.startOver s ad).pending = s.pending := by
  unfold State.startOver; (try dsimp only); (repeat' split) <;> simp

@[simp ↓] theorem State.nextRun_pending (s : State) (ad : Nat) : (State.nextRun s ad).pending = s.pending := by
  unfold State.nextRun; (try dsimp only); (repeat' split) <;> simp

@[simp ↓] theorem State.recordSequence_pending (s : State) (ad : Nat) : (State.recordSequence s ad).pending = s.pending := by
  unfold State.recordSequence; (try dsimp only); (repeat' split) <;> simp

@[simp ↓] theorem State.takeSequence_pending (s : State) (ad : Nat) : (State.takeSequence s ad).pending = s.pending := by
  unfold State.takeSequence; (try dsimp only); (repeat' split) <;> simp

@[simp ↓] theorem State.queueUrgent_pending (s : State) (ad : Nat) (u : Urgent) : (State.queueUrgent s ad u).pending = s.pending := by
  unfold State.queueUrgent; (try dsimp only); (repeat' split) <;> simp

@[simp ↓] theorem State.refuseUrgent_pending (s : State) (ad : Nat) : (State.refuseUrgent s ad).pending = s.pending := by
  unfold State.refuseUrgent; (try dsimp only); (repeat' split) <;> simp

@[simp ↓] theorem State.endZero_pending (s : State) (ad : Nat) (x : RunSpec) (p : Packet) (u0 : Int) (clip : Bool) : (State.endZero s ad x p u0 clip).pending = s.pending := by
  unfold State.endZero; (try dsimp only); (repeat' split) <;> simp

@[simp ↓] theorem State.endSpan_pending (s : State) (ad : Nat) (x : RunSpec) (p : Packet) (value off u1 : Int) (clip : Bool) : (State.endSpan s ad x p value off u1 clip).pending = s.pending := by
  unfold State.endSpan; (try dsimp only); (repeat' split) <;> simp

@[simp ↓] theorem State.endUrgent_pending (s : State) (ad : Nat) (r : Run) (whole : Bool) : (State.endUrgent s ad r whole).pending = s.pending := by
  unfold State.endUrgent; (try dsimp only); (repeat' split) <;> simp

@[simp ↓] theorem State.endRun_pending (s : State) (ad : Nat) (r : Run) (whole : Bool) : (State.endRun s ad r whole).pending = s.pending := by
  unfold State.endRun; (try dsimp only); (repeat' split) <;> simp

@[simp ↓] theorem State.countInvalid_pending (s : State) (ad : Nat) (r : Run) : (State.countInvalid s ad r).pending = s.pending := by
  unfold State.countInvalid; (try dsimp only); (repeat' split) <;> simp

@[simp ↓] theorem State.countConversion_pending (s : State) (ad : Nat) (r : Run) (clip : Bool) : (State.countConversion s ad r clip).pending = s.pending := by
  unfold State.countConversion; (try dsimp only); (repeat' split) <;> simp

@[simp ↓] theorem State.feed_pending (s : State) (ad : Nat) (r : Run) (x : Int) : (State.feed s ad r x).pending = s.pending := by
  unfold State.feed; (try dsimp only); (repeat' split) <;> simp

@[simp ↓] theorem State.convert_pending (s : State) (ad : Nat) (u : Int) (clip : Bool) : (State.convert s ad u clip).pending = s.pending := by
  unfold State.convert; (try dsimp only); (repeat' split) <;> simp

@[simp ↓] theorem State.vfCapture_pending (s : State) (lamp : Nat) : (State.vfCapture s lamp).pending = s.pending := by
  unfold State.vfCapture; (try dsimp only); (repeat' split) <;> simp (disch := (intros; (repeat' split) <;> simp))

@[simp ↓] theorem State.stopConvs_pending (s : State) : (State.stopConvs s).pending = s.pending := by
  unfold State.stopConvs; (try dsimp only); (repeat' split) <;> simp

@[simp ↓] theorem State.restartConvs_pending (s : State) : (State.restartConvs s).pending = s.pending := by
  unfold State.restartConvs; (try dsimp only); (repeat' split) <;> simp

@[simp ↓] theorem State.writeCvctl_pending (s : State) (ad : Nat) (v : Word) : (State.writeCvctl s ad v).pending = s.pending := by
  unfold State.writeCvctl; (try dsimp only); (repeat' split) <;> simp

@[simp ↓] theorem State.judgeEcho_pending (s : State) (sm ago : Nat) : (State.judgeEcho s sm ago).pending = s.pending := by
  unfold State.judgeEcho; (try dsimp only); (repeat' split) <;> simp

@[simp ↓] theorem State.giveLit_pending (s : State) (l mv : Nat) (v : LitVerdict) (method : Nat) : (State.giveLit s l mv v method).pending = s.pending := by
  unfold State.giveLit; (try dsimp only); (repeat' split) <;> simp

@[simp ↓] theorem State.answerTrickle_pending (s : State) (l : Nat) (own : Option Packet) (v : TrkVerdict) (mv : Nat) : (State.answerTrickle s l own v mv).pending = s.pending := by
  unfold State.answerTrickle; (try dsimp only); (repeat' split) <;> simp

@[simp ↓] theorem State.giveTrickle_pending (s : State) (l mv : Nat) (v : TrkVerdict) : (State.giveTrickle s l mv v).pending = s.pending := by
  unfold State.giveTrickle; (try dsimp only); (repeat' split) <;> simp

@[simp ↓] theorem State.reportStuck_pending (s : State) (code inst str stuck : Nat) (sm : Option Nat) : (State.reportStuck s code inst str stuck sm).pending = s.pending := by
  unfold State.reportStuck; (try dsimp only); (repeat' split) <;> simp

@[simp ↓] theorem State.cutString_pending (s : State) (l : Nat) : (State.cutString s l).pending = s.pending := by
  unfold State.cutString; (try dsimp only); (repeat' split) <;> simp

@[simp ↓] theorem State.endStuck_pending (s : State) (str : Nat) : (State.endStuck s str).pending = s.pending := by
  unfold State.endStuck; (try dsimp only); (repeat' split) <;> simp

@[simp ↓] theorem State.restartLane_pending (s : State) (l : Nat) : (State.restartLane s l).pending = s.pending := by
  unfold State.restartLane; (try dsimp only); (repeat' split) <;> simp

@[simp ↓] theorem State.commitAsp_pending (s : State) : s.commitAsp.2.pending = s.pending := by
  unfold State.commitAsp; split <;> simp

@[simp ↓] theorem State.runAspCommit_pending (s : State) : s.runAspCommit.2.pending = s.pending := by
  unfold State.runAspCommit; simp

@[simp ↓] theorem State.commitAspReg_pending (s : State) : (State.commitAspReg s).pending = s.pending := by
  unfold State.commitAspReg; (try dsimp only); (repeat' split) <;> simp

@[simp ↓] theorem State.writeLcmd_pending (s : State) (l : Nat) (v : Word) : (State.writeLcmd s l v).pending = s.pending := by
  unfold State.writeLcmd; (try dsimp only); (repeat' split) <;> simp

@[simp ↓] theorem State.writeRcfg_pending (s : State) (n : Nat) (v : Word) : (State.writeRcfg s n v).pending = s.pending := by
  unfold State.writeRcfg; (try dsimp only); (repeat' split) <;> simp

@[simp ↓] theorem State.postReturn_pending (s : State) (n sm data : Nat) : (State.postReturn s n sm data).pending = s.pending := by
  unfold State.postReturn; (try dsimp only); (repeat' split) <;> first | (simp; done) | (rename_i h; have := State.deposit_pending _ _ _ _ _ _ _ _ h; simp_all; done)

@[simp ↓] theorem State.acceptFrame_pending (s : State) (n : Nat) (bs : List Nat) : (State.acceptFrame s n bs).pending = s.pending := by
  unfold State.acceptFrame; (try dsimp only); (repeat' split) <;> simp

@[simp ↓] theorem State.closeFrame_pending (s : State) (n : Nat) (bs : List Nat) : (State.closeFrame s n bs).pending = s.pending := by
  unfold State.closeFrame; (try dsimp only); (repeat' split) <;> simp

@[simp ↓] theorem State.loseSync_pending (s : State) (n : Nat) : (State.loseSync s n).pending = s.pending := by
  unfold State.loseSync; (try dsimp only); (repeat' split) <;> simp

@[simp ↓] theorem State.takeBack_pending (s : State) (l : Nat) : (State.takeBack s l).pending = s.pending := by
  unfold State.takeBack; (try dsimp only); (repeat' split) <;> simp

@[simp ↓] theorem State.sampled_pending (s : State) (l e : Nat) (next deferred : Option Nat) : (State.sampled s l e next deferred).pending = s.pending := by
  unfold State.sampled; (try dsimp only); (repeat' split) <;> simp

@[simp ↓] theorem State.endTask_pending (s : State) (i : Nat) : (State.endTask s i).pending = s.pending := by
  unfold State.endTask; (try dsimp only); (repeat' split) <;> simp

@[simp ↓] theorem State.completeTask_pending (s : State) (e : Entry) (r : Reply) : (State.completeTask s e r).pending = s.pending := by
  unfold State.completeTask; (try dsimp only); (repeat' split) <;> simp

@[simp ↓] theorem State.abandonPacket_pending (s : State) (e : Entry) (p : Packet) : (State.abandonPacket s e p).pending = s.pending := by
  unfold State.abandonPacket; (try dsimp only); (repeat' split) <;> simp

@[simp ↓] theorem State.abandonTask_pending (s : State) (i : Nat) : (State.abandonTask s i).pending = s.pending := by
  unfold State.abandonTask; (try dsimp only); (repeat' split) <;> simp

@[simp ↓] theorem State.recoverTask_pending (s : State) (i : Nat) : (State.recoverTask s i).pending = s.pending := by
  unfold State.recoverTask; (try dsimp only); (repeat' split) <;> simp

@[simp ↓] theorem State.bumpRole_pending (s : State) (r : Nat) : (State.bumpRole s r).pending = s.pending := by
  unfold State.bumpRole; (try dsimp only); (repeat' split) <;> simp

@[simp ↓] theorem State.giveRole_pending (s : State) (e r : Nat) : (State.giveRole s e r).pending = s.pending := by
  unfold State.giveRole; (try dsimp only); (repeat' split) <;> simp

@[simp ↓] theorem State.fillRole_pending (s : State) (r old : Nat) : (State.fillRole s r old).pending = s.pending := by
  unfold State.fillRole; (try dsimp only); (repeat' split) <;> simp

@[simp ↓] theorem State.serveRoles_pending (s : State) : (State.serveRoles s).pending = s.pending := by
  unfold State.serveRoles; (try dsimp only); (repeat' split) <;> simp

@[simp ↓] theorem State.engineHandover_pending (s : State) (e by_ : Nat) : (State.engineHandover s e by_).pending = s.pending := by
  unfold State.engineHandover; (try dsimp only); (repeat' split) <;> simp

@[simp ↓] theorem State.engineReturn_pending (s : State) (e by_ : Nat) : (State.engineReturn s e by_).pending = s.pending := by
  unfold State.engineReturn; (try dsimp only); (repeat' split) <;> simp

@[simp ↓] theorem State.giveArm_pending (s : State) (u a : Nat) (rebuild : Bool) : (State.giveArm s u a rebuild).pending = s.pending := by
  unfold State.giveArm; (try dsimp only); (repeat' split) <;> simp

@[simp ↓] theorem State.noSpareArm_pending (s : State) (a old : Nat) : (State.noSpareArm s a old).pending = s.pending := by
  unfold State.noSpareArm; (try dsimp only); (repeat' split) <;> simp

@[simp ↓] theorem State.freeUnit_pending (s : State) (u : Nat) : (State.freeUnit s u).pending = s.pending := by
  unfold State.freeUnit; (try dsimp only); (repeat' split) <;> simp

@[simp ↓] theorem State.unitHandover_pending (s : State) (u by_ : Nat) : (State.unitHandover s u by_).pending = s.pending := by
  unfold State.unitHandover; (try dsimp only); (repeat' split) <;> simp

@[simp ↓] theorem State.unitReturn_pending (s : State) (u by_ : Nat) (free : Bool) : (State.unitReturn s u by_ free).pending = s.pending := by
  unfold State.unitReturn; (try dsimp only); (repeat' split) <;> simp

@[simp ↓] theorem State.startSlice_pending (s : State) (id : Nat) (packet : Option Packet) : (State.startSlice s id packet).pending = s.pending := by
  unfold State.startSlice; (try dsimp only); (repeat' split) <;> simp

@[simp ↓] theorem State.skipBlock_pending (s : State) (id : Nat) : (State.skipBlock s id).pending = s.pending := by
  unfold State.skipBlock; (try dsimp only); (repeat' split) <;> simp

@[simp ↓] theorem State.endRotation_pending (s : State) : (State.endRotation s).pending = s.pending := by
  unfold State.endRotation; (try dsimp only); (repeat' split) <;> simp

@[simp ↓] theorem State.rotate_pending (s : State) (ids : List Nat) : (s.rotate ids).pending = s.pending := by
  induction ids generalizing s with
  | nil => rfl
  | cons i is ih => unfold State.rotate; split
                    · rw [ih]; simp
                    · simp

@[simp ↓] theorem State.slotOther_pending (s : State) : (State.slotOther s).pending = s.pending := by
  unfold State.slotOther; (try dsimp only); (repeat' split) <;> simp

@[simp ↓] theorem State.slotPick_pending (s : State) : (State.slotPick s).pending = s.pending := by
  unfold State.slotPick; (try dsimp only); (repeat' split) <;> simp

@[simp ↓] theorem State.sliceReturn_pending (s : State) (x : Slice) : (State.sliceReturn s x).pending = s.pending := by
  unfold State.sliceReturn; (try dsimp only); (repeat' split) <;> simp

@[simp ↓] theorem State.standInDown_pending (s : State) (x : Slice) : (State.standInDown s x).pending = s.pending := by
  unfold State.standInDown; (try dsimp only); (repeat' split) <;> simp

@[simp ↓] theorem State.failBlock_pending (s : State) (id : Nat) (by_ : Option Nat) : (State.failBlock s id by_).pending = s.pending := by
  unfold State.failBlock; (try dsimp only); (repeat' split) <;> simp

@[simp ↓] theorem State.recoverBlock_pending (s : State) (id : Nat) : (State.recoverBlock s id).pending = s.pending := by
  unfold State.recoverBlock; (try dsimp only); (repeat' split) <;> simp

@[simp ↓] theorem State.giveVerdict_pending (s : State) (x : Slice) (v0 : RifVerdict) : (State.giveVerdict s x v0).pending = s.pending := by
  unfold State.giveVerdict; extract_lets inc v t1 t2 t3 t4 t5
  have h1 : t1.pending = s.pending := State.setReg_pending _ _ _
  have h2 : t2.pending = s.pending := (State.onBist_pending _ _).trans h1
  have h3 : t3.pending = s.pending := by simp only [t3]; (repeat' split) <;> simp [h2]
  have h4 : t4.pending = s.pending := by simp only [t4]; split <;> simp [h3]
  have h5 : t5.pending = s.pending := by simp only [t5]; (repeat' split) <;> simp [h4]
  split <;> simp [h5]

@[simp ↓] theorem State.abortSlice_pending (s : State) : (State.abortSlice s).pending = s.pending := by
  unfold State.abortSlice; (try dsimp only); (repeat' split) <;> simp

@[simp ↓] theorem State.abortToReinit_pending (s : State) : (State.abortToReinit s).pending = s.pending := by
  unfold State.abortToReinit; (try dsimp only); (repeat' split) <;> simp

@[simp ↓] theorem State.writeLog_pending (s : State) (e : LogEntry) : (State.writeLog s e).pending = s.pending := by
  unfold State.writeLog; (try dsimp only); (repeat' split) <;> simp

@[simp ↓] theorem State.captureFirst_pending (s : State) (e : LogEntry) : (State.captureFirst s e).pending = s.pending := by
  unfold State.captureFirst; (try dsimp only); (repeat' split) <;> simp

@[simp ↓] theorem State.post_pending (s : State) (e : LogEntry) : (State.post s e).pending = s.pending := by
  unfold State.post; (try dsimp only); (repeat' split) <;> first | (simp; done) | (rename_i h; have := State.deposit_pending _ _ _ _ _ _ _ _ h; simp_all; done)

@[simp ↓] theorem State.mirrorUnposted_pending (s : State) (bad : Bool) : (State.mirrorUnposted s bad).pending = s.pending := by
  unfold State.mirrorUnposted; (try dsimp only); (repeat' split) <;> simp

@[simp ↓] theorem State.runPost_pending (s : State) (seq : Nat) (bad : Bool) : (State.runPost s seq bad).pending = s.pending := by
  unfold State.runPost; (try dsimp only); (repeat' split) <;> simp

@[simp ↓] theorem State.noteReinit_pending (s : State) : (State.noteReinit s).pending = s.pending := by
  unfold State.noteReinit; (try dsimp only); (repeat' split) <;> simp

@[simp ↓] theorem State.logConsequential_pending (s : State) (r : Report) (coinc : Bool) : (State.logConsequential s r coinc).pending = s.pending := by
  unfold State.logConsequential; (try dsimp only); (repeat' split) <;> simp

@[simp ↓] theorem State.logReport_pending (s : State) (r : Report) (coinc : Bool) : (State.logReport s r coinc).pending = s.pending := by
  unfold State.logReport; (try dsimp only); (repeat' split) <;> simp

@[simp ↓] theorem State.sampleOne_pending (s : State) (coinc : Bool) (r : Report) : (State.sampleOne s coinc r).pending = s.pending := by
  unfold State.sampleOne; (try dsimp only); (repeat' split) <;> simp

@[simp ↓] theorem State.sampleAll_pending (s : State) (wires : List Report) : (State.sampleAll s wires).pending = s.pending := by
  unfold State.sampleAll; (try dsimp only); (repeat' split) <;> simp

@[simp ↓] theorem State.killEngine_pending (s : State) (e : Nat) : (State.killEngine s e).pending = s.pending := by
  unfold State.killEngine; (try dsimp only); (repeat' split) <;> simp

@[simp ↓] theorem State.engineDies_pending (s : State) (e : Nat) : (State.engineDies s e).pending = s.pending := by
  unfold State.engineDies; (try dsimp only); (repeat' split) <;> simp

@[simp ↓] theorem State.writeMssel_pending (s : State) (v : Word) : (State.writeMssel s v).pending = s.pending := by
  unfold State.writeMssel; (try dsimp only); (repeat' split) <;> simp

@[simp ↓] theorem State.refuseOpcode_pending (s : State) (e : Entry) : (State.refuseOpcode s e).pending = s.pending := by
  unfold State.refuseOpcode; (try dsimp only); (repeat' split) <;> simp

@[simp ↓] theorem State.fenceAccess_pending (s : State) (e : Nat) : (State.fenceAccess s e).pending = s.pending := by
  unfold State.fenceAccess; (try dsimp only); (repeat' split) <;> simp

@[simp ↓] theorem State.taskDeposit_pending (s : State) (d : Deposit) : (State.taskDeposit s d).pending = s.pending := by
  unfold State.taskDeposit
  cases h : s.deposit .engine d.template (wrap 24 d.key) d.slot (wrap 64 d.data) none with
  | none => simp
  | some t => simpa using State.deposit_pending _ _ _ _ _ _ _ _ h

@[simp ↓] theorem State.takeLogPage_pending (s : State) : (State.takeLogPage s).pending = s.pending := by
  unfold State.takeLogPage; split
  · next p t h => simpa using State.allocPage_pending _ _ _ _ h
  · simp

@[simp ↓] theorem State.giveLogPages_pending (s : State) (n : Nat) : (State.giveLogPages s n).pending = s.pending := by
  unfold State.giveLogPages; (try dsimp only); (repeat' split) <;> simp

@[simp ↓] theorem State.doWork_pending (s : State) (e : Nat) (w : TaskWork) : (State.doWork s e w).pending = s.pending := by
  unfold State.doWork; (try dsimp only); (repeat' split) <;> simp

@[simp ↓] theorem State.timerDeposit_pending (s : State) (t : Nat) (x : FwTimer) (first : Bool) : (State.timerDeposit s t x first).pending = s.pending := by
  unfold State.timerDeposit; (try dsimp only); (repeat' split) <;> first | (simp; done) | (rename_i h; have := State.deposit_pending _ _ _ _ _ _ _ _ h; simp_all; done)

@[simp ↓] theorem State.dropStaged_pending (s : State) (struck : List (Fin 16 × Nat)) : (State.dropStaged s struck).pending = s.pending := by
  unfold State.dropStaged; (try dsimp only); (repeat' split) <;> simp

@[simp ↓] theorem State.failReader_pending (s : State) (e : Nat) : (State.failReader s e).pending = s.pending := by
  unfold State.failReader; (try dsimp only); (repeat' split) <;> simp

@[simp ↓] theorem State.dropRing_pending (s : State) (i : Nat) : (State.dropRing s i).pending = s.pending := by
  unfold State.dropRing; (try dsimp only); (repeat' split) <;> simp

@[simp ↓] theorem State.rearm_pending (s : State) (i : Nat) : (State.rearm s i).pending = s.pending := by
  unfold State.rearm; (try dsimp only); (repeat' split) <;> simp

@[simp ↓] theorem State.disarm_pending (s : State) (i : Nat) : (State.disarm s i).pending = s.pending := by
  unfold State.disarm; (try dsimp only); (repeat' split) <;> simp

@[simp ↓] theorem State.armStream_pending (s : State) (i : Nat) : (State.armStream s i).pending = s.pending := by
  unfold State.armStream; (try dsimp only); (repeat' split) <;> simp

@[simp ↓] theorem State.writeTrig_pending (s : State) (v : Word) : (State.writeTrig s v).pending = s.pending := by
  unfold State.writeTrig; (try dsimp only); (repeat' split) <;> simp

@[simp ↓] theorem State.writeRecCtl_pending (s : State) (v : Word) : (State.writeRecCtl s v).pending = s.pending := by
  unfold State.writeRecCtl; (try dsimp only); (repeat' split) <;> simp

@[simp ↓] theorem State.copyPages_pending (s : State) (n a : Nat) (ps : List Page) : (s.copyPages n a ps).pending = s.pending := by
  induction ps generalizing s a with
  | nil => rfl
  | cons p ps ih => unfold State.copyPages; rw [ih]; simp

@[simp ↓] theorem State.noteRead_pending (s : State) (i : Nat) (p : Packet) (nums : List Nat) : (State.noteRead s i p nums).pending = s.pending := by
  unfold State.noteRead; (try dsimp only); (repeat' split) <;> simp

@[simp ↓] theorem State.stopRecorder_pending (s : State) : (State.stopRecorder s).pending = s.pending := by
  unfold State.stopRecorder; (try dsimp only); (repeat' split) <;> simp

@[simp ↓] theorem State.restartRecorder_pending (s : State) (lost : List (Nat × Nat)) : (State.restartRecorder s lost).pending = s.pending := by
  unfold State.restartRecorder; (try dsimp only); (repeat' split) <;> simp

@[simp ↓] theorem State.writeUrga_pending (s : State) (ad : Nat) (v : Word) : (State.writeUrga s ad v).pending = s.pending := by
  unfold State.writeUrga; (try dsimp only); (repeat' split) <;> simp

@[simp ↓] theorem State.writeAclr_pending (s : State) (v : Word) : (State.writeAclr s v).pending = s.pending := by
  unfold State.writeAclr; (try dsimp only); (repeat' split) <;> simp

@[simp ↓] theorem State.judgeHeat_pending (s : State) (die : Nat) (t : Int) : (State.judgeHeat s die t).pending = s.pending := by
  unfold State.judgeHeat; (repeat' split) <;> simp

@[simp ↓] theorem State.voidSlices_pending (s : State) : (State.voidSlices s).pending = s.pending := by
  unfold State.voidSlices; (try dsimp only); (repeat' split) <;> simp

@[simp ↓] theorem State.riffleRound_pending (s : State) (die : Nat) (dirty : Bool) : (State.riffleRound s die dirty).pending = s.pending := by
  unfold State.riffleRound; (try dsimp only); (repeat' split) <;> simp

@[simp ↓] theorem State.deliver_pending (s : State) (chan : Nat) (r : Int) : (State.deliver s chan r).pending = s.pending := by
  unfold State.deliver; (try dsimp only); (repeat' split) <;> simp

@[simp ↓] theorem State.takePacket_pending (s : State) (p : Packet) (opcode : Nat) : (State.takePacket s p opcode).pending = s.pending := by
  unfold State.takePacket; (try dsimp only); (repeat' split) <;> first | (simp; done) | (rename_i h; have := State.deposit_pending _ _ _ _ _ _ _ _ h; simp_all; done)

@[simp ↓] theorem State.fetchOne_pending (s : State) (q : Nat) : (State.fetchOne s q).pending = s.pending := by
  unfold State.fetchOne; (try dsimp only); (repeat' split) <;> simp

@[simp ↓] theorem State.settleQueue_pending (s : State) (q : Nat) : (State.settleQueue s q).pending = s.pending := by
  unfold State.settleQueue; (try dsimp only); (repeat' split) <;> simp

@[simp ↓] theorem State.signal_pending (s : State) (q : Nat) (urgent : Bool) : (State.signal s q urgent).pending = s.pending := by
  unfold State.signal; (try dsimp only); (repeat' split) <;> simp

@[simp ↓] theorem State.writeCompletion_pending (s : State) (q : Nat) (r : Reply) : (State.writeCompletion s q r).pending = s.pending := by
  unfold State.writeCompletion; simp

@[simp ↓] theorem State.completionDone_pending (s : State) (q : Nat) : (State.completionDone s q).pending = s.pending := by
  unfold State.completionDone; (try dsimp only); (repeat' split) <;> simp

@[simp ↓] theorem State.nextCompletion_pending (s : State) (q : Nat) : (State.nextCompletion s q).pending = s.pending := by
  unfold State.nextCompletion; (try dsimp only); (repeat' split) <;> simp

@[simp ↓] theorem State.cancelQueue_pending (s : State) (q : Nat) : (State.cancelQueue s q).pending = s.pending := by
  unfold State.cancelQueue; (try dsimp only); (repeat' split) <;> simp

@[simp ↓] theorem State.disableQueue_pending (s : State) (q : Nat) : (State.disableQueue s q).pending = s.pending := by
  unfold State.disableQueue; (try dsimp only); (repeat' split) <;> simp

@[simp ↓] theorem State.writeQctl_pending (s : State) (q : Nat) (v : Word) : (State.writeQctl s q v).pending = s.pending := by
  unfold State.writeQctl; (try dsimp only); (repeat' split) <;> simp

@[simp ↓] theorem State.writeSqTail_pending (s : State) (q : Nat) (v : Word) : (State.writeSqTail s q v).pending = s.pending := by
  unfold State.writeSqTail; (try dsimp only); (repeat' split) <;> simp

@[simp ↓] theorem State.writeCqHead_pending (s : State) (q : Nat) (v : Word) : (State.writeCqHead s q v).pending = s.pending := by
  unfold State.writeCqHead; (try dsimp only); (repeat' split) <;> simp

@[simp ↓] theorem State.orphanQueue_pending (s : State) (q : Nat) : (State.orphanQueue s q).pending = s.pending := by
  unfold State.orphanQueue; (try dsimp only); (repeat' split) <;> simp

@[simp ↓] theorem State.dropQueue_pending (s : State) (q : Nat) : (State.dropQueue s q).pending = s.pending := by
  unfold State.dropQueue; (try dsimp only); (repeat' split) <;> simp

@[simp ↓] theorem State.loseLink_pending (s : State) : (State.loseLink s).pending = s.pending := by
  unfold State.loseLink; (try dsimp only); (repeat' split) <;> simp

@[simp ↓] theorem State.refuseUart_pending (s : State) (r : Packet × Nat) : (State.refuseUart s r).pending = s.pending := by
  unfold State.refuseUart; (try dsimp only); (repeat' split) <;> simp

@[simp ↓] theorem State.takeUart_pending (s : State) (r : Packet × Nat) : (State.takeUart s r).pending = s.pending := by
  unfold State.takeUart; (try dsimp only); (repeat' split) <;> simp

@[simp ↓] theorem State.onFout_pending (s : State) (k : Nat) (f : FieldOut → FieldOut) : (State.onFout s k f).pending = s.pending := by
  unfold State.onFout; (try dsimp only); (repeat' split) <;> simp

@[simp ↓] theorem State.startChatter_pending (s : State) (i : Nat) : (State.startChatter s i).pending = s.pending := by
  unfold State.startChatter; (try dsimp only); (repeat' split) <;> simp

@[simp ↓] theorem State.endStuckIn_pending (s : State) (i : Nat) : (State.endStuckIn s i).pending = s.pending := by
  unfold State.endStuckIn; (try dsimp only); (repeat' split) <;> simp

@[simp ↓] theorem State.disableInput_pending (s : State) (i : Nat) : (State.disableInput s i).pending = s.pending := by
  unfold State.disableInput; (try dsimp only); (repeat' split) <;> simp

@[simp ↓] theorem State.tickInput_pending (s : State) (clkB : Bool) (i : Nat) (raw : Bool) : (State.tickInput s clkB i raw).pending = s.pending := by
  unfold State.tickInput; (try dsimp only); (repeat' split) <;> simp

@[simp ↓] theorem State.endOut_pending (s : State) (k : Nat) (was : Bool) (f : FieldOut → FieldOut) : (State.endOut s k was f).pending = s.pending := by
  unfold State.endOut; (try dsimp only); (repeat' split) <;> simp

@[simp ↓] theorem State.switched_pending (s : State) (k : Nat) (on : Bool) : (State.switched s k on).pending = s.pending := by
  unfold State.switched; (try dsimp only); (repeat' split) <;> simp

@[simp ↓] theorem State.switchOn_pending (s : State) (k : Nat) : (State.switchOn s k).pending = s.pending := by
  unfold State.switchOn; (try dsimp only); (repeat' split) <;> simp

@[simp ↓] theorem State.switchOff_pending (s : State) (k : Nat) : (State.switchOff s k).pending = s.pending := by
  unfold State.switchOff; (try dsimp only); (repeat' split) <;> simp

@[simp ↓] theorem State.followOutput_pending (s : State) (k : Nat) : (State.followOutput s k).pending = s.pending := by
  unfold State.followOutput; (try dsimp only); (repeat' split) <;> simp

@[simp ↓] theorem State.fieldFault_pending (s : State) : (State.fieldFault s).pending = s.pending := by
  unfold State.fieldFault; (try dsimp only); (repeat' split) <;> simp

@[simp ↓] theorem State.fieldRefresh_pending (s : State) : (State.fieldRefresh s).pending = s.pending := by
  unfold State.fieldRefresh; (try dsimp only); (repeat' split) <;> simp

@[simp ↓] theorem State.reacting_pending (s : State) (f : State → State) : (s.reacting f).pending = (f s).pending := by
  unfold State.reacting; simp

@[simp ↓] theorem State.leaveMaint_pending (s : State) : (State.leaveMaint s).pending = s.pending := by
  unfold State.leaveMaint; (try dsimp only); (repeat' split) <;> simp

@[simp ↓] theorem State.onPort_pending (s : State) (p : Nat) (f : TribPort → TribPort) : (State.onPort s p f).pending = s.pending := by
  unfold State.onPort; (try dsimp only); (repeat' split) <;> simp

@[simp ↓] theorem State.putFrame_pending (s : State) (p : Nat) (own : Bool) (f : TribFrame) : (State.putFrame s p own f).pending = s.pending := by
  unfold State.putFrame; (try dsimp only); (repeat' split) <;> simp

@[simp ↓] theorem State.sendHead_pending (s : State) (type kind : Nat) (data : List (BitVec 64)) : (State.sendHead s type kind data).pending = s.pending := by
  unfold State.sendHead; (try dsimp only); (repeat' split) <;> simp

@[simp ↓] theorem State.sendHome_pending (s : State) (p type kind : Nat) (data : List (BitVec 64)) : (State.sendHome s p type kind data).pending = s.pending := by
  unfold State.sendHome; (try dsimp only); (repeat' split) <;> simp

@[simp ↓] theorem State.forward_pending (s : State) (p : Nat) (f : TribFrame) (stomped : Bool) : (State.forward s p f stomped).pending = s.pending := by
  unfold State.forward; (try dsimp only); (repeat' split) <;> simp

@[simp ↓] theorem State.chainReport_pending (s : State) (code inst : Nat) : (State.chainReport s code inst).pending = s.pending := by
  unfold State.chainReport; (try dsimp only); (repeat' split) <;> simp

@[simp ↓] theorem State.setMember_pending (s : State) (q : Nat) (m : Member) : (State.setMember s q m).pending = s.pending := by
  unfold State.setMember; (try dsimp only); (repeat' split) <;> simp

@[simp ↓] theorem State.onMember_pending (s : State) (q : Nat) (f : Member → Member) : (State.onMember s q f).pending = s.pending := by
  unfold State.onMember; (try dsimp only); (repeat' split) <;> simp

@[simp ↓] theorem State.memberReport_pending (s : State) (code q epoch : Nat) : (State.memberReport s code q epoch).pending = s.pending := by
  unfold State.memberReport; (try dsimp only); (repeat' split) <;> simp

@[simp ↓] theorem State.fencedFrame_pending (s : State) (q epoch : Nat) : (State.fencedFrame s q epoch).pending = s.pending := by
  unfold State.fencedFrame; (try dsimp only); (repeat' split) <;> simp

@[simp ↓] theorem State.crcEvent_pending (s : State) (p : Nat) : (State.crcEvent s p).pending = s.pending := by
  unfold State.crcEvent; (try dsimp only); (repeat' split) <;> simp

@[simp ↓] theorem State.countStray_pending (s : State) (p : Nat) (f : TribFrame) : (State.countStray s p f).pending = s.pending := by
  unfold State.countStray; (try dsimp only); (repeat' split) <;> simp

@[simp ↓] theorem State.judgeHeard_pending (s : State) (p : Nat) (f : TribFrame) : (s.judgeHeard p f).2.pending = s.pending := by
  unfold State.judgeHeard; (try dsimp only); (repeat' split) <;> simp

@[simp ↓] theorem State.judgeFrame_pending (s : State) (p : Nat) (f : TribFrame) : (s.judgeFrame p f).2.pending = s.pending := by
  unfold State.judgeFrame; split <;> simp

@[simp ↓] theorem State.contact_pending (s : State) (f : TribFrame) : (State.contact s f).pending = s.pending := by
  unfold State.contact; (try dsimp only); (repeat' split) <;> simp

@[simp ↓] theorem State.noteRef_pending (s : State) (f : TribFrame) : (State.noteRef s f).pending = s.pending := by
  unfold State.noteRef; (try dsimp only); (repeat' split) <;> simp

@[simp ↓] theorem State.receive_pending (s : State) (p : Nat) (f : TribFrame) (use : State → State × Option TribFrame)
    (h : ∀ t, (use t).1.pending = t.pending) : (s.receive p f use).pending = s.pending := by
  have hj := State.judgeFrame_pending s p f
  unfold State.receive
  split <;> rename_i h' <;> rw [h'] at hj <;> dsimp only at hj ⊢ <;> (repeat' split) <;> simp [h, hj]

@[simp ↓] theorem State.chainEvent_pending (s : State) : (State.chainEvent s).pending = s.pending := by
  unfold State.chainEvent; (try dsimp only); (repeat' split) <;> simp

@[simp ↓] theorem State.rebound_pending (s : State) : (State.rebound s).pending = s.pending := by
  unfold State.rebound; (try dsimp only); (repeat' split) <;> simp

@[simp ↓] theorem State.newEpoch_pending (s : State) : (State.newEpoch s).pending = s.pending := by
  unfold State.newEpoch; (try dsimp only); (repeat' split) <;> simp

@[simp ↓] theorem State.newTopology_pending (s : State) (linear : Bool) (brk : Nat) : (State.newTopology s linear brk).pending = s.pending := by
  unfold State.newTopology; (try dsimp only); (repeat' split) <;> simp

@[simp ↓] theorem State.breakAt_pending (s : State) (brk : Nat) : (State.breakAt s brk).pending = s.pending := by
  unfold State.breakAt; (try dsimp only); (repeat' split) <;> simp

@[simp ↓] theorem State.declareDead_pending (s : State) (q : Nat) : (State.declareDead s q).pending = s.pending := by
  unfold State.declareDead; (try dsimp only); (repeat' split) <;> simp

@[simp ↓] theorem State.miss_pending (s : State) (q : Nat) : (State.miss s q).pending = s.pending := by
  unfold State.miss; (try dsimp only); (repeat' split) <;> simp

@[simp ↓] theorem State.admitMember_pending (s : State) (q : Nat) : (State.admitMember s q).pending = s.pending := by
  unfold State.admitMember; (try dsimp only); (repeat' split) <;> simp

@[simp ↓] theorem State.leaveChain_pending (s : State) (m : MState) : (State.leaveChain s m).pending = s.pending := by
  unfold State.leaveChain; (try dsimp only); (repeat' split) <;> simp

@[simp ↓] theorem State.loseContact_pending (s : State) : (State.loseContact s).pending = s.pending := by
  unfold State.loseContact; (try dsimp only); (repeat' split) <;> simp

@[simp ↓] theorem State.showOffset_pending (s : State) (o : Int) : (State.showOffset s o).pending = s.pending := by
  unfold State.showOffset; (try dsimp only); (repeat' split) <;> simp

@[simp ↓] theorem State.joinStep_pending (s : State) (o : Int) : (State.joinStep s o).pending = s.pending := by
  unfold State.joinStep; (try dsimp only); (repeat' split) <;> simp

@[simp ↓] theorem State.measured_pending (s : State) (o : Int) : (State.measured s o).pending = s.pending := by
  unfold State.measured; (try dsimp only); (repeat' split) <;> simp

@[simp ↓] theorem State.startRounds_pending (s : State) (refs : List ArmRef) : (State.startRounds s refs).pending = s.pending := by
  unfold State.startRounds; (try dsimp only); (repeat' split) <;> simp

@[simp ↓] theorem State.joinRound_pending (s : State) (r : ArmRef) (v : Verdict) : (State.joinRound s r v).pending = s.pending := by
  unfold State.joinRound; (try dsimp only); (repeat' split) <;> simp

@[simp ↓] theorem State.decidePart_pending (s : State) (r : Round) (t : Thr) (pre frac : Nat) (short : Bool) : (State.decidePart s r t pre frac short).pending = s.pending := by
  unfold State.decidePart; (try dsimp only); (repeat' split) <;> simp

@[simp ↓] theorem State.hearHist_pending (s : State) (b a : Nat) (h : HistData) (hr : HeadRound) : (State.hearHist s b a h hr).pending = s.pending := by
  unfold State.hearHist; (try dsimp only); (repeat' split) <;> simp

@[simp ↓] theorem State.mergeRound_pending (s : State) (a : Nat) (hr : HeadRound) : (State.mergeRound s a hr).pending = s.pending := by
  unfold State.mergeRound; extract_lets e w contrib peers stalePos tot r hnm hs stale d t pp noPwm s1 s2
  have h1 : s1.pending = s.pending := by simp only [s1, d]; simp
  have h2 : s2.pending = s.pending := by simp only [s2]; simp [h1]
  simp [h2]

@[simp ↓] theorem State.setRole_pending (s : State) (role : Role) (pos : Nat) (fromCmd : Bool) (ndev : Nat) : (State.setRole s role pos fromCmd ndev).pending = s.pending := by
  unfold State.setRole; (try dsimp only); (repeat' split) <;> simp

@[simp ↓] theorem State.applyRole_pending (s : State) (p : Packet) : (State.applyRole s p).pending = s.pending := by
  unfold State.applyRole; (try dsimp only); (repeat' split) <;> simp

@[simp ↓] theorem State.roleAfterRounds_pending (s : State) : (State.roleAfterRounds s).pending = s.pending := by
  unfold State.roleAfterRounds; (try dsimp only); (repeat' split) <;> simp

@[simp ↓] theorem State.mergeReady_pending (s : State) (a : Nat) : (State.mergeReady s a).pending = s.pending := by
  unfold State.mergeReady; (try dsimp only); (repeat' split) <;> simp

@[simp ↓] theorem State.keepRound_pending (s : State) (a : Nat) (hr : HeadRound) : (State.keepRound s a hr).pending = s.pending := by
  unfold State.keepRound; (try dsimp only); (repeat' split) <;> simp

@[simp ↓] theorem State.sendFsum_pending (s : State) (p kind : Nat) : (State.sendFsum s p kind).pending = s.pending := by
  unfold State.sendFsum; (try dsimp only); (repeat' split) <;> simp

@[simp ↓] theorem State.portDown_pending (s : State) (p : Nat) (los : Bool) : (State.portDown s p los).pending = s.pending := by
  unfold State.portDown; (try dsimp only); (repeat' split) <;> simp

@[simp ↓] theorem State.hearFsum_pending (s : State) (f : TribFrame) : (State.hearFsum s f).pending = s.pending := by
  unfold State.hearFsum; (try dsimp only); (repeat' split) <;> simp

@[simp ↓] theorem State.judgeNbr_pending (s : State) (p q : Nat) : (State.judgeNbr s p q).pending = s.pending := by
  unfold State.judgeNbr; (try dsimp only); (repeat' split) <;> simp

@[simp ↓] theorem State.adoptNotice_pending (s : State) (f : TribFrame) : (State.adoptNotice s f).pending = s.pending := by
  unfold State.adoptNotice; (try dsimp only); (repeat' split) <;> simp

@[simp ↓] theorem State.admitWaiting_pending (s : State) (q : Nat) : (State.admitWaiting s q).pending = s.pending := by
  unfold State.admitWaiting; (try dsimp only); (repeat' split) <;> simp

@[simp ↓] theorem State.oneGen_pending (s before : State) (sm : Nat) : (State.oneGen s before sm).pending = s.pending := by
  unfold State.oneGen; (try dsimp only); (repeat' split) <;> simp

@[simp ↓] theorem State.dropSpare_pending (s : State) (old new : Smt) : (State.dropSpare s old new).pending = s.pending := by
  unfold State.dropSpare; (try dsimp only); (repeat' split) <;> simp

@[simp ↓] theorem State.writeEntry_pending (s : State) (sm : Nat) (w : List Word) : (State.writeEntry s sm w).pending = s.pending := by
  unfold State.writeEntry; (try dsimp only); (repeat' split) <;> simp

@[simp ↓] theorem State.tryEntry_pending (s : State) (sm : Nat) (w : List Word) : (s.tryEntry sm w).2.pending = s.pending := by
  unfold State.tryEntry; split <;> simp

@[simp ↓] theorem State.endLmp_pending (s : State) (packet : Option Packet) (est status detail index : Nat) : (State.endLmp s packet est status detail index).pending = s.pending := by
  unfold State.endLmp; (try dsimp only); (repeat' split) <;> simp

@[simp ↓] theorem State.startLmp_pending (s : State) (packet : Option Packet) : (State.startLmp s packet).pending = s.pending := by
  unfold State.startLmp; (try dsimp only); (repeat' split) <;> simp

@[simp ↓] theorem State.measure_pending (s : State) (g mv : Nat) : (State.measure s g mv).pending = s.pending := by
  unfold State.measure; (try dsimp only); (repeat' split) <;> simp

@[simp ↓] theorem State.railReport_pending (s : State) (code g : Nat) : (State.railReport s code g).pending = s.pending := by
  unfold State.railReport; (try dsimp only); (repeat' split) <;> simp

@[simp ↓] theorem State.endRail_pending (s : State) (g : Nat) : (State.endRail s g).pending = s.pending := by
  unfold State.endRail; (try dsimp only); (repeat' split) <;> simp

@[simp ↓] theorem State.resumeRail_pending (s : State) (g : Nat) : (State.resumeRail s g).pending = s.pending := by
  unfold State.resumeRail; (try dsimp only); (repeat' split) <;> simp

@[simp ↓] theorem State.applyLmp_pending (s : State) (c : LmpCommit) : (State.applyLmp s c).pending = s.pending := by
  unfold State.applyLmp; (try dsimp only); (repeat' split) <;> simp

@[simp ↓] theorem State.abandonLmp_pending (s : State) (c : LmpCommit) (status detail index : Nat) : (State.abandonLmp s c status detail index).pending = s.pending := by
  unfold State.abandonLmp; (try dsimp only); (repeat' split) <;> simp

@[simp ↓] theorem State.takeForced_pending (s : State) : (State.takeForced s).pending = s.pending := by
  unfold State.takeForced; (try dsimp only); (repeat' split) <;> simp

@[simp ↓] theorem State.conditionOver_pending (s : State) (code inst : Nat) : (State.conditionOver s code inst).pending = s.pending := by
  unfold State.conditionOver; (try dsimp only); (repeat' split) <;> simp

@[simp ↓] theorem State.recover_pending (s : State) (code : Nat) : (State.recover s code).pending = s.pending := by
  unfold State.recover; (try dsimp only); (repeat' split) <;> simp

@[simp ↓] theorem State.escalate_pending (s : State) (code : Nat) : (State.escalate s code).pending = s.pending := by
  unfold State.escalate; (try dsimp only); (repeat' split) <;> simp

@[simp ↓] theorem State.retryPins_pending (s : State) (healthy : Bool) : (State.retryPins s healthy).pending = s.pending := by
  unfold State.retryPins; (try dsimp only); (repeat' split) <;> simp

@[simp ↓] theorem State.clearCode_pending (s : State) (code : Nat) : (State.clearCode s code).pending = s.pending := by
  unfold State.clearCode; (try dsimp only); (repeat' split) <;> simp

@[simp ↓] theorem State.clearCodes_pending (s : State) (codes : List Nat) : (s.clearCodes codes).2.2.pending = s.pending := by
  unfold State.clearCodes
  have h : ∀ (l : List Nat) (a : Nat × Nat × State), (l.foldl (fun a code =>
      let s := a.2.2
      if !s.held code && (codes.length > 1 || !s.flt.asserted.any (fun r => r.code == code)) then a
      else if s.causeNow code then
        (a.1, if a.2.1 = 0 then code else a.2.1, s.onCode code (fun c => { c with refusals := satAdd 32 c.refusals 1 }))
      else (a.1 + 1, a.2.1, s.clearCode code)) a).2.2.pending = a.2.2.pending := by
    intro l
    induction l with
    | nil => intro a; rfl
    | cons x l ih => intro a; rw [List.foldl_cons, ih]; dsimp only; (repeat' split) <;> simp
  exact h codes (0, 0, s)

@[simp ↓] theorem State.clearFirst_pending (s : State) : (State.clearFirst s).pending = s.pending := by
  unfold State.clearFirst; (try dsimp only); (repeat' split) <;> simp

@[simp ↓] theorem State.writeHold_pending (s : State) (v : Word) : (State.writeHold s v).pending = s.pending := by
  unfold State.writeHold; (try dsimp only); (repeat' split) <;> simp

@[simp ↓] theorem State.setShadow_pending (s : State) (port : Port) (off : Nat) (v : Option Word) : (State.setShadow s port off v).pending = s.pending := by
  unfold State.setShadow; (try dsimp only); (repeat' split) <;> simp

@[simp ↓] theorem State.gives_pending (s : State) (v : Word) : (State.gives s v).pending = s.pending := by
  unfold State.gives; (try dsimp only); (repeat' split) <;> simp

@[simp ↓] theorem State.fpTouch_pending (s : State) : (State.fpTouch s).pending = s.pending := by
  unfold State.fpTouch; (try dsimp only); (repeat' split) <;> simp

@[simp ↓] theorem State.touch_pending (s : State) (port : Port) : (State.touch s port).pending = s.pending := by
  unfold State.touch; (try dsimp only); (repeat' split) <;> simp

@[simp ↓] theorem State.tear_pending (s : State) (port : Port) (off : Nat) : (State.tear s port off).pending = s.pending := by
  unfold State.tear; (try dsimp only); (repeat' split) <;> simp

@[simp ↓] theorem State.readSumLo_pending (s : State) (port : Port) (off : Nat) : (State.readSumLo s port off).pending = s.pending := by
  unfold State.readSumLo; (try dsimp only); (repeat' split) <;> simp

@[simp ↓] theorem State.readLow_pending (s : State) (port : Port) (off : Nat) : (State.readLow s port off).pending = s.pending := by
  unfold State.readLow; (try dsimp only); (repeat' split) <;> simp

@[simp ↓] theorem State.readHigh_pending (s : State) (port : Port) (off : Nat) : (State.readHigh s port off).pending = s.pending := by
  unfold State.readHigh; (try dsimp only); (repeat' split) <;> simp

@[simp ↓] theorem State.portRead_pending (s : State) (port : Port) (a : Nat) (admits : Nat → Bool) (f : State → Nat → State)
    (h : ∀ t o, (f t o).pending = t.pending) : (s.portRead port a admits f).pending = s.pending := by
  unfold State.portRead; (repeat' split) <;> simp [h]

@[simp ↓] theorem State.commitLmp_pending (s : State) : (State.commitLmp s).pending = s.pending := by
  unfold State.commitLmp; (try dsimp only); (repeat' split) <;> simp

@[simp ↓] theorem State.restoreStr_pending (s : State) (str : Nat) : (State.restoreStr s str).pending = s.pending := by
  unfold State.restoreStr; (try dsimp only); (repeat' split) <;> simp

@[simp ↓] theorem State.writeSen_pending (s : State) (n : Nat) (v : Word) : (State.writeSen s n v).pending = s.pending := by
  unfold State.writeSen; (try dsimp only); (repeat' split) <;> simp

@[simp ↓] theorem State.redirect_pending (s : State) (str : Nat) : (State.redirect s str).pending = s.pending := by
  unfold State.redirect; (try dsimp only); (repeat' split) <;> simp

@[simp ↓] theorem State.snapForRound_pending (s : State) (a : Nat) : (State.snapForRound s a).pending = s.pending := by
  unfold State.snapForRound; (try dsimp only); (repeat' split) <;> simp

@[simp ↓] theorem State.actOn_pending (s : State) (a : Nat) (v : Verdict) : (State.actOn s a v).pending = s.pending := by
  unfold State.actOn; (try dsimp only); (repeat' split) <;> simp

@[simp ↓] theorem State.commitArms_pending (s : State) (mask : Nat) : (State.commitArms s mask).pending = s.pending := by
  unfold State.commitArms; (try dsimp only); (repeat' split) <;> simp

@[simp ↓] theorem State.writeAcommit_pending (s : State) (v : Word) : (State.writeAcommit s v).pending = s.pending := by
  unfold State.writeAcommit; (try dsimp only); (repeat' split) <;> simp

@[simp ↓] theorem State.writeSnapsel_pending (s : State) (v : Word) : (State.writeSnapsel s v).pending = s.pending := by
  unfold State.writeSnapsel; (try dsimp only); (repeat' split) <;> simp

@[simp ↓] theorem State.writeWrsel_pending (s : State) (v : Word) : (State.writeWrsel s v).pending = s.pending := by
  unfold State.writeWrsel; (try dsimp only); (repeat' split) <;> simp

@[simp ↓] theorem State.loadEntries_pending (at_ k sm n : Nat) (s : State) : (State.loadEntries at_ k sm n s).2.2.pending = s.pending := by
  induction k generalizing sm n s with
  | zero => rfl
  | succ k ih => unfold State.loadEntries; dsimp only; split
                 · rfl
                 · rw [ih]; simp

@[simp ↓] theorem State.dropUnit_pending (s : State) (u : Nat) : (State.dropUnit s u).pending = s.pending := by
  unfold State.dropUnit; (try dsimp only); (repeat' split) <;> simp

@[simp ↓] theorem State.unitFails_pending (s : State) (u : Nat) : (State.unitFails s u).pending = s.pending := by
  unfold State.unitFails; (try dsimp only); (repeat' split) <;> simp

@[simp ↓] theorem State.standInFails_pending (s : State) (u : Nat) (x : Slice) : (State.standInFails s u x).pending = s.pending := by
  unfold State.standInFails; (try dsimp only); (repeat' split) <;> simp

@[simp ↓] theorem State.reportUnit_pending (s : State) (code a old : Nat) : (State.reportUnit s code a old).pending = s.pending := by
  unfold State.reportUnit; (try dsimp only); (repeat' split) <;> simp

@[simp ↓] theorem State.clearLatched_pending (s : State) : (State.clearLatched s).pending = s.pending := by
  unfold State.clearLatched; (try dsimp only); (repeat' split) <;> simp

@[simp ↓] theorem State.endSilence_pending (s : State) : (State.endSilence s).pending = s.pending := by
  unfold State.endSilence; (try dsimp only); (repeat' split) <;> simp

@[simp ↓] theorem State.writeKick_pending (s : State) (v : Word) : (State.writeKick s v).pending = s.pending := by
  unfold State.writeKick; (try dsimp only); (repeat' split) <;> simp

@[simp ↓] theorem State.writeKcfg_pending (s : State) (v : Word) : (State.writeKcfg s v).pending = s.pending := by
  unfold State.writeKcfg; (try dsimp only); (repeat' split) <;> simp

@[simp ↓] theorem State.writeFcfg_pending (s : State) (i : Nat) (v : Word) : (State.writeFcfg s i v).pending = s.pending := by
  unfold State.writeFcfg; (try dsimp only); (repeat' split) <;> simp

@[simp ↓] theorem State.writeOcmd_pending (s : State) (v : Word) : (State.writeOcmd s v).pending = s.pending := by
  unfold State.writeOcmd; (try dsimp only); (repeat' split) <;> simp

@[simp ↓] theorem State.writeFltcfg_pending (s : State) (v : Word) : (State.writeFltcfg s v).pending = s.pending := by
  unfold State.writeFltcfg; (try dsimp only); (repeat' split) <;> simp

@[simp ↓] theorem State.writeOcfg_pending (s : State) (k : Nat) (v : Word) : (State.writeOcfg s k v).pending = s.pending := by
  unfold State.writeOcfg; (try dsimp only); (repeat' split) <;> simp

@[simp ↓] theorem State.partLoad_pending (s : State) (e : Entry) (p : Packet) (bytes : Nat) : (s.partLoad e p bytes).1.pending = s.pending := by
  unfold State.partLoad; (try dsimp only); (repeat' split) <;> simp

@[simp ↓] theorem State.failPtr_pending (s : State) (q bytes : Nat) : (State.failPtr s q bytes).pending = s.pending := by
  unfold State.failPtr; (try dsimp only); (repeat' split) <;> simp

@[simp ↓] theorem State.stopQueue_pending (s : State) (q : Nat) : (State.stopQueue s q).pending = s.pending := by
  unfold State.stopQueue; (try dsimp only); (repeat' split) <;> simp

@[simp ↓] theorem State.writeBase_pending (s : State) (q off : Nat) (v : Word) : (State.writeBase s q off v).pending = s.pending := by
  unfold State.writeBase; (try dsimp only); (repeat' split) <;> simp

@[simp ↓] theorem State.writeNtccfg_pending (s : State) (v : Word) : (State.writeNtccfg s v).pending = s.pending := by
  unfold State.writeNtccfg; (try dsimp only); (repeat' split) <;> simp

@[simp ↓] theorem State.writeFltCtl_pending (s : State) (v : Word) : (State.writeFltCtl s v).pending = s.pending := by
  unfold State.writeFltCtl; (try dsimp only); (repeat' split) <;> simp

@[simp ↓] theorem State.writeClkstat_pending (s : State) (v : Word) : (State.writeClkstat s v).pending = s.pending := by
  unfold State.writeClkstat; (try dsimp only); (repeat' split) <;> simp

@[simp ↓] theorem State.writeSetStatus_pending (s : State) (set : Nat) (v : Word) : (State.writeSetStatus s set v).pending = s.pending := by
  unfold State.writeSetStatus; (try dsimp only); (repeat' split) <;> simp

@[simp ↓] theorem State.writeLower_pending (s : State) (base i off : Nat) (v : Word) : (State.writeLower s base i off v).pending = s.pending := by
  unfold State.writeLower; (try dsimp only); (repeat' split) <;> simp

@[simp ↓] theorem State.writeUpper_pending (s : State) (base i off : Nat) (v : Word) : (State.writeUpper s base i off v).pending = s.pending := by
  unfold State.writeUpper; (try dsimp only); (repeat' split) <;> (try simp (disch := (intros; (try dsimp only); (repeat' split) <;> simp))) <;> (repeat' split) <;> simp

@[simp ↓] theorem State.hostWrite_pending (s : State) (off : Nat) (v : Word) : (State.hostWrite s off v).pending = s.pending := by
  unfold State.hostWrite; (try dsimp only); (repeat' split) <;> simp

@[simp ↓] theorem State.fastWrite_pending (s : State) (a : Nat) (v : Word) : (State.fastWrite s a v).pending = s.pending := by
  unfold State.fastWrite; (try dsimp only); (repeat' split) <;> simp

@[simp ↓] theorem State.bar0Write_pending (s : State) (off : Nat) (data : List Word) (full : Bool) : (State.bar0Write s off data full).pending = s.pending := by
  unfold State.bar0Write; (try dsimp only); (repeat' split) <;> simp (disch := (intros; (repeat' split) <;> simp))

@[simp ↓] theorem State.sendPending_pending (s : State) : (State.sendPending s).pending = s.pending := by
  unfold State.sendPending; (try dsimp only); (repeat' split) <;> simp

@[simp ↓] theorem State.msixDword_pending (s : State) (off : Nat) (v : Word) : (State.msixDword s off v).pending = s.pending := by
  unfold State.msixDword; dsimp only; split <;> rfl

@[simp ↓] theorem State.bar4Write_pending (s : State) (off : Nat) (data : List Word) (full : Bool) : (State.bar4Write s off data full).pending = s.pending := by
  unfold State.bar4Write; (try dsimp only); (repeat' split) <;> simp

@[simp ↓] theorem State.settingRefused_pending (s : State) : (State.settingRefused s).pending = s.pending := by
  unfold State.settingRefused; (try dsimp only); (repeat' split) <;> simp

@[simp ↓] theorem State.applyEntries_pending (s : State) (n : Nat) (ws : List Word) : (s.applyEntries n ws).pending = s.pending := by
  induction n generalizing s ws with
  | zero => rfl
  | succ n ih => unfold State.applyEntries; split
                 · rw [ih]; split <;> simp
                 · rfl

@[simp ↓] theorem State.applySequence_pending (s : State) (ad : Nat) : (State.applySequence s ad).pending = s.pending := by
  unfold State.applySequence; (try dsimp only); (repeat' split) <;> simp

@[simp ↓] theorem State.applyRecord_pending (s : State) (tag : Nat) (ws : List Word) : (State.applyRecord s tag ws).pending = s.pending := by
  unfold State.applyRecord; (try dsimp only); (repeat' split) <;> simp

@[simp ↓] theorem applyRecords_pending (rs : List (Nat × List Word)) (s : State) : (applyRecords rs s).pending = s.pending := by
  induction rs generalizing s with
  | nil => unfold applyRecords; simp
  | cons r rs ih => unfold applyRecords; dsimp only; split
                    · simp
                    · rw [ih]; simp

@[simp ↓] theorem State.applySettings_pending (s : State) (h : SetHalf) : (State.applySettings s h).pending = s.pending := by
  unfold State.applySettings; simp

@[simp ↓] theorem State.goOn_pending (s : State) : (State.goOn s).pending = s.pending := by
  unfold State.goOn; split <;> simp

@[simp ↓] theorem State.resetTo_pending (s : State) (c : ResetCause) : (State.resetTo s c).pending = s.pending := by
  unfold State.resetTo; (try dsimp only); (repeat' split) <;> simp

@[simp ↓] theorem State.authFails_pending (s : State) : (State.authFails s).pending = s.pending := by
  unfold State.authFails; (try dsimp only); (repeat' split) <;> simp

@[simp ↓] theorem State.takeLcs_pending (s : State) (target : Nat) : (State.takeLcs s target).pending = s.pending := by
  unfold State.takeLcs; simp (disch := (intros; (repeat' split) <;> simp))

@[simp ↓] theorem State.handOver_pending (s : State) (x : Slice) : (State.handOver s x).pending = s.pending := by
  unfold State.handOver; (try dsimp only); (repeat' split) <;> simp

@[simp ↓] theorem State.onSlice_pending (s : State) (f : Slice → Slice) : (State.onSlice s f).pending = s.pending := by
  unfold State.onSlice; (try dsimp only); (repeat' split) <;> simp

@[simp ↓] theorem State.endFull_pending (s : State) (fails : List (Fin 512)) (aborted : Bool) : (State.endFull s fails aborted).pending = s.pending := by
  unfold State.endFull; (try dsimp only); (repeat' split) <;> simp (disch := (intros; (repeat' split) <;> simp))

@[simp ↓] theorem State.holdDie_pending (s : State) (d : Nat) : (State.holdDie s d).pending = s.pending := by
  unfold State.holdDie; (try dsimp only); (repeat' split) <;> simp

@[simp ↓] theorem State.releaseStr_pending (s : State) (str : Nat) : (State.releaseStr s str).pending = s.pending := by
  unfold State.releaseStr; (try dsimp only); (repeat' split) <;> simp

@[simp ↓] theorem State.releaseDie_pending (s : State) (d : Nat) (rails : List Nat) : (State.releaseDie s d rails).pending = s.pending := by
  unfold State.releaseDie; (try dsimp only); (repeat' split) <;> simp

@[simp ↓] theorem State.heldLocks_pending (s : State) : (State.heldLocks s).pending = s.pending := by
  unfold State.heldLocks; (try dsimp only); (repeat' split) <;> simp

@[simp ↓] theorem State.reportDie_pending (s : State) (d : Nat) : (State.reportDie s d).pending = s.pending := by
  unfold State.reportDie; (try dsimp only); (repeat' split) <;> simp

@[simp ↓] theorem State.huskDie_pending (s : State) (d : Nat) : (State.huskDie s d).pending = s.pending := by
  unfold State.huskDie; (try dsimp only); (repeat' split) <;> simp

@[simp ↓] theorem State.parityError_pending (s : State) (d : Nat) (fresh : Bool) : (State.parityError s d fresh).pending = s.pending := by
  unfold State.parityError; (try dsimp only); (repeat' split) <;> simp

@[simp ↓] theorem State.writeRec_pending (s : State) (f : BootRec → BootRec) : (State.writeRec s f).pending = s.pending := by
  unfold State.writeRec; (try dsimp only); (repeat' split) <;> simp

@[simp ↓] theorem State.onDev_pending (s : State) (n : Nat) (f : FlashDev → FlashDev) : (State.onDev s n f).pending = s.pending := by
  unfold State.onDev; (try dsimp only); (repeat' split) <;> simp

@[simp ↓] theorem State.wear_pending (s : State) (n : Nat) : (State.wear s n).pending = s.pending := by
  unfold State.wear; (try dsimp only); (repeat' split) <;> simp

@[simp ↓] theorem State.dirtySlot_pending (s : State) (n : Nat) : (State.dirtySlot s n).pending = s.pending := by
  unfold State.dirtySlot; (try dsimp only); (repeat' split) <;> simp

@[simp ↓] theorem State.putImage_pending (s : State) (n : Nat) (g : Image) : (State.putImage s n g).pending = s.pending := by
  unfold State.putImage; (try dsimp only); (repeat' split) <;> simp

@[simp ↓] theorem State.fallBack_pending (s : State) (bad cause : Nat) : (State.fallBack s bad cause).pending = s.pending := by
  unfold State.fallBack; (try dsimp only); (repeat' split) <;> simp

@[simp ↓] theorem State.dropStaging_pending (s : State) : (State.dropStaging s).pending = s.pending := by
  unfold State.dropStaging; (try dsimp only); (repeat' split) <;> simp

theorem State.takeStaging_pending (n : Nat) (s t : State) (h : s.takeStaging n = some t) : t.pending = s.pending := by
  induction n generalizing s with
  | zero => simp [State.takeStaging] at h; rw [h]
  | succ n ih =>
    unfold State.takeStaging at h
    split at h
    · next p u hp => rw [ih _ h]; simp [State.allocPage_pending _ _ _ _ hp]
    · simp at h

@[simp ↓] theorem State.toStage_pending (s : State) (g : Stage) : (State.toStage s g).pending = s.pending := by
  unfold State.toStage; (try dsimp only); (repeat' split) <;> simp

@[simp ↓] theorem State.storeChunk_pending (s : State) (k : Nat) (bs : List Byte) : (s.storeChunk k bs).state.pending = s.pending := by
  unfold State.storeChunk; (try dsimp only); (repeat' split) <;> simp [State.reply]

@[simp ↓] theorem State.takePiece_pending (s : State) (k len crc off : Nat) (bs : List Byte) : (s.takePiece k len crc off bs).state.pending = s.pending := by
  unfold State.takePiece; (try dsimp only); (repeat' split) <;> simp [State.reply]

@[simp ↓] theorem State.endUpd_pending (s : State) (op : Op) (g : Stage) (status detail : Nat) (data : List Word) : (State.endUpd s op g status detail data).pending = s.pending := by
  unfold State.endUpd; (try dsimp only); (repeat' split) <;> simp

@[simp ↓] theorem State.updAtSag_pending (s : State) : (State.updAtSag s).pending = s.pending := by
  unfold State.updAtSag; (try dsimp only); (repeat' split) <;> simp

@[simp ↓] theorem State.finishKeep_pending (s : State) : (State.finishKeep s).pending = s.pending := by
  unfold State.finishKeep; (try dsimp only); (repeat' split) <;> simp

@[simp ↓] theorem State.restoreRetired_pending (s : State) : (State.restoreRetired s).pending = s.pending := by
  unfold State.restoreRetired; (try dsimp only); (repeat' split) <;> simp

@[simp ↓] theorem State.sagCommit_pending (s : State) : (State.sagCommit s).pending = s.pending := by
  unfold State.sagCommit; (try dsimp only); (repeat' split) <;> simp

@[simp ↓] theorem State.sagUpdate_pending (s : State) : (State.sagUpdate s).pending = s.pending := by
  unfold State.sagUpdate; (try dsimp only); (repeat' split) <;> simp

@[simp ↓] theorem State.beginSave_pending (s : State) (vin hold : Nat) (test : Option SaveTest) : (State.beginSave s vin hold test).pending = s.pending := by
  unfold State.beginSave; (try dsimp only); (repeat' split) <;> simp

@[simp ↓] theorem State.busyFor_pending (s : State) (op : Op) (p : Option Packet) : (State.busyFor s op p).pending = s.pending := by
  unfold State.busyFor; (try dsimp only); (repeat' split) <;> simp

@[simp ↓] theorem State.dropProving_pending (s : State) : (State.dropProving s).pending = s.pending := by
  unfold State.dropProving; (try dsimp only); (repeat' split) <;> simp

@[simp ↓] theorem State.dropCals_pending (s : State) : (State.dropCals s).pending = s.pending := by
  unfold State.dropCals
  refine State.each_pending _ _ _ (fun s ad => ?_)
  dsimp only
  refine (State.each_pending _ _ _ (fun t u => ?_)).trans ?_
  · split <;> simp
  · split <;> simp

@[simp ↓] theorem State.dropChain_pending (s : State) : (State.dropChain s).pending = s.pending := by
  unfold State.dropChain; (try dsimp only); (repeat' split) <;> simp

@[simp ↓] theorem State.dropSlices_pending (s : State) : (State.dropSlices s).pending = s.pending := by
  unfold State.dropSlices; (try dsimp only); (repeat' split) <;> simp

@[simp ↓] theorem State.endPacket_pending (s : State) (i : Nat) : (State.endPacket s i).pending = s.pending := by
  unfold State.endPacket; (try dsimp only); (repeat' split) <;> simp

@[simp ↓] theorem State.dropPackets_pending (s : State) : (State.dropPackets s).pending = s.pending := by
  unfold State.dropPackets; (try dsimp only); (repeat' split) <;> simp

@[simp ↓] theorem State.sagCut_pending (s : State) : (State.sagCut s).pending = s.pending := by
  unfold State.sagCut; (try dsimp only); (repeat' split) <;> simp

@[simp ↓] theorem State.enterSaved_pending (s : State) (back mirrorBad : Bool) : (State.enterSaved s back mirrorBad).pending = s.pending := by
  unfold State.enterSaved; (try dsimp only); (repeat' split) <;> simp

@[simp ↓] theorem State.endTest_pending (s : State) (us hold : Nat) (above : Bool) : (State.endTest s us hold above).pending = s.pending := by
  unfold State.endTest; (try dsimp only); (repeat' split) <;> simp

@[simp ↓] theorem State.leaveSagCut_pending (s : State) (str : Nat) : (State.leaveSagCut s str).pending = s.pending := by
  unfold State.leaveSagCut; (try dsimp only); (repeat' split) <;> simp

@[simp ↓] theorem State.resumeStrings_pending (s : State) (rails : List Nat) : (State.resumeStrings s rails).pending = s.pending := by
  unfold State.resumeStrings; (try dsimp only); (repeat' split) <;> simp

@[simp ↓] theorem State.huskStreams_pending (s : State) : (State.huskStreams s).pending = s.pending := by
  unfold State.huskStreams; (try dsimp only); (repeat' split) <;> simp

@[simp ↓] theorem State.warmRestart_pending (s : State) (lost : List (Nat × Nat)) (rails : List Nat) : (State.warmRestart s lost rails).pending = s.pending := by
  unfold State.warmRestart; (try dsimp only); (repeat' split) <;> simp

@[simp ↓] theorem State.readStores_pending (s : State) (o : BootObs) : (State.readStores s o).pending = s.pending := by
  unfold State.readStores; (try dsimp only); (repeat' split) <;> simp

@[simp ↓] theorem State.trainDram_pending (s : State) (pages : Nat) : (State.trainDram s pages).pending = s.pending := by
  unfold State.trainDram; (try dsimp only); (repeat' split) <;> simp

@[simp ↓] theorem State.countTrial_pending (s : State) : (State.countTrial s).pending = s.pending := by
  unfold State.countTrial; (try dsimp only); (repeat' split) <;> simp

@[simp ↓] theorem State.chooseImage_pending (s : State) (b : Bool) : (s.chooseImage b).1.pending = s.pending := by
  unfold State.chooseImage; (try dsimp only); (repeat' split) <;> simp

@[simp ↓] theorem State.migrateSettings_pending (s : State) (n : Nat) : (State.migrateSettings s n).pending = s.pending := by
  unfold State.migrateSettings; (try dsimp only); (repeat' split) <;> simp

@[simp ↓] theorem State.loadTrim_pending (s : State) (g : Option Image) : (State.loadTrim s g).pending = s.pending := by
  unfold State.loadTrim; (try dsimp only); (repeat' split) <;> simp

@[simp ↓] theorem State.loadCode_pending (s : State) (g : Option Image) : (State.loadCode s g).pending = s.pending := by
  unfold State.loadCode; (try dsimp only); (repeat' split) <;> simp

@[simp ↓] theorem State.useFullBist_pending (s : State) : (State.useFullBist s).pending = s.pending := by
  unfold State.useFullBist; (try dsimp only); (repeat' split) <;> simp

@[simp ↓] theorem State.startPeriods_pending (s : State) : (State.startPeriods s).pending = s.pending := by
  unfold State.startPeriods; (try dsimp only); (repeat' split) <;> simp

@[simp ↓] theorem State.bootSettings_pending (s : State) : (State.bootSettings s).pending = s.pending := by
  unfold State.bootSettings; (try dsimp only); (repeat' split) <;> simp

@[simp ↓] theorem State.runReady_pending (s : State) (n : Nat) (o : BootObs) : (State.runReady s n o).pending = s.pending := by
  unfold State.runReady; (try dsimp only); (repeat' split) <;> simp

@[simp ↓] theorem State.endBoot_pending (s : State) (o : BootObs) : (State.endBoot s o).pending = s.pending := by
  unfold State.endBoot; (try dsimp only)
  split
  · simp
  · split
    · simp
    · have hc := State.chooseImage_pending ((s.readStores o).trainDram o.dramPages) (((s.readStores o).trainDram o.dramPages).fld Reg.pwrReset 4 2 == 1)
      split <;> rename_i h <;> rw [h] at hc <;> simp_all

@[simp ↓] theorem State.vinLow_pending (s : State) : (State.vinLow s).pending = s.pending := by
  unfold State.vinLow; (try dsimp only); (repeat' split) <;> simp

@[simp ↓] theorem State.tick_pending (s : State) : (State.tick s).pending = s.pending := by
  unfold State.tick; (try dsimp only); (repeat' split) <;> simp

@[simp ↓] theorem State.withFetchWord_pending (s : State) (nbits w : Nat) : (State.withFetchWord s nbits w).pending = s.pending := by
  unfold State.withFetchWord; rfl

end Sys2Proof.Machine
end

