-- ==== Sys2Proof/Laws/Word.lean ====
section
/-! SUPPORT. The laws of words and fields: a field that was replaced reads the value put there, every other field what it read. -/

namespace Sys2Proof

theorem field_lt (w : Word) (lo n : Nat) : field w lo n < 2 ^ n := Nat.mod_lt _ (Nat.two_pow_pos n)

theorem testBit_field (w : Word) (lo n i : Nat) : (field w lo n).testBit i = (decide (i < n) && w.toNat.testBit (lo + i)) := by
  unfold field
  rw [Nat.testBit_mod_two_pow, Nat.testBit_div_two_pow, Nat.add_comm]

/-- The bits of a word with a field replaced. -/
theorem testBit_setField (w : Word) (lo n v i : Nat) (h : lo + n ≤ 32) :
    (setField w lo n v).toNat.testBit i =
      if lo ≤ i ∧ i < lo + n then v.testBit (i - lo) else w.toNat.testBit i := by
  have hw : w.toNat < 2 ^ 32 := w.isLt
  have key : w.toNat - field w lo n * 2 ^ lo + v % 2 ^ n * 2 ^ lo =
      (w.toNat / 2 ^ (lo + n)) * 2 ^ (lo + n) + ((v % 2 ^ n) * 2 ^ lo + w.toNat % 2 ^ lo) := by
    have h1 : field w lo n = w.toNat / 2 ^ lo % 2 ^ n := rfl
    have h2 : w.toNat = 2 ^ lo * (w.toNat / 2 ^ lo) + w.toNat % 2 ^ lo := (Nat.div_add_mod _ _).symm
    have h3 : w.toNat / 2 ^ lo = 2 ^ n * (w.toNat / 2 ^ (lo + n)) + w.toNat / 2 ^ lo % 2 ^ n := by
      rw [Nat.pow_add, ← Nat.div_div_eq_div_mul]; exact (Nat.div_add_mod _ _).symm
    rw [h1]
    generalize w.toNat / 2 ^ lo % 2 ^ n = f at *
    generalize w.toNat / 2 ^ (lo + n) = q at *
    generalize w.toNat % 2 ^ lo = r at *
    rw [h3] at h2
    rw [h2, Nat.pow_add]
    have : 2 ^ lo * (2 ^ n * q + f) + r - f * 2 ^ lo = q * (2 ^ lo * 2 ^ n) + r := by
      have : 2 ^ lo * (2 ^ n * q + f) + r = (q * (2 ^ lo * 2 ^ n) + r) + f * 2 ^ lo := by ring
      omega
    rw [this]; ring
  have hlt : (v % 2 ^ n) * 2 ^ lo + w.toNat % 2 ^ lo < 2 ^ (lo + n) := by
    have a : v % 2 ^ n < 2 ^ n := Nat.mod_lt _ (Nat.two_pow_pos n)
    have b : w.toNat % 2 ^ lo < 2 ^ lo := Nat.mod_lt _ (Nat.two_pow_pos lo)
    calc _ < (v % 2 ^ n) * 2 ^ lo + 2 ^ lo := by omega
      _ = (v % 2 ^ n + 1) * 2 ^ lo := by ring
      _ ≤ 2 ^ n * 2 ^ lo := Nat.mul_le_mul_right _ a
      _ = 2 ^ (lo + n) := by rw [Nat.pow_add, Nat.mul_comm]
  have hq : (w.toNat / 2 ^ (lo + n)) * 2 ^ (lo + n) ≤ w.toNat := Nat.div_mul_le_self _ _
  unfold setField
  rw [BitVec.toNat_ofNat, key, Nat.testBit_mod_two_pow, Nat.mul_comm (w.toNat / _), Nat.testBit_two_pow_mul_add _ hlt,
    Nat.mul_comm (v % _), Nat.testBit_two_pow_mul_add _ (Nat.mod_lt _ (Nat.two_pow_pos lo))]
  by_cases hi : i < 32
  · by_cases h1 : i < lo + n
    · by_cases h2 : i < lo
      · simp [hi, h1, h2, Nat.testBit_mod_two_pow]
      · have h3 : lo ≤ i := by omega
        have h4 : i - lo < n := by omega
        simp [hi, h1, h2, h3, h4, Nat.testBit_mod_two_pow]
    · have h4 : i - (lo + n) + (lo + n) = i := by omega
      simp [hi, h1, h4, Nat.testBit_div_two_pow]
  · have : w.toNat.testBit i = false := Nat.testBit_lt_two_pow (lt_of_lt_of_le hw (Nat.pow_le_pow_right (by omega) (by omega)))
    have h4 : ¬ (lo ≤ i ∧ i < lo + n) := by omega
    simp [hi, this, h4]

/-- A field that was replaced reads the value put there. -/
theorem field_setField_same (w : Word) (lo n v : Nat) (h : lo + n ≤ 32) : field (setField w lo n v) lo n = v % 2 ^ n := by
  apply Nat.eq_of_testBit_eq
  intro i
  rw [testBit_field, testBit_setField _ _ _ _ _ h, Nat.testBit_mod_two_pow]
  by_cases hi : i < n
  · have h1 : lo ≤ lo + i ∧ lo + i < lo + n := by omega
    simp [hi, h1]
  · simp [hi]

/-- A field beside one that was replaced reads what it read. -/
theorem field_setField_ne (w : Word) (lo n v lo' n' : Nat) (h : lo + n ≤ 32) (hd : lo' + n' ≤ lo ∨ lo + n ≤ lo') :
    field (setField w lo n v) lo' n' = field w lo' n' := by
  apply Nat.eq_of_testBit_eq
  intro i
  rw [testBit_field, testBit_field, testBit_setField _ _ _ _ _ h]
  by_cases hi : i < n'
  · have h1 : ¬ (lo ≤ lo' + i ∧ lo' + i < lo + n) := by omega
    simp [hi, h1]
  · simp [hi]

@[simp] theorem flag_mod (b : Bool) : flag b % 2 = flag b := by cases b <;> rfl

@[simp] theorem flag_eq_one (b : Bool) : (flag b == 1) = b := by cases b <;> rfl

theorem satAdd_le (n a k : Nat) : satAdd n a k ≤ 2 ^ n - 1 := Nat.min_le_right _ _

end Sys2Proof
end

