-- ==== Sys2Proof/WellFormed.lean ====
section
/-! DEFINITION. Which commands are well formed: what the widths of packets, frames, addresses and observations bound, beyond what the
operand types already bound. The meanings are total and do not rely on it. -/

namespace Sys2Proof

/-- A packet as an interface delivers it (R291, R297, R298, R312): from a queue pair or the UART, 12 parameter words, SQ head of 16 bits. -/
def Packet.wf (p : Packet) : Bool := (decide (p.src ≤ 31) || p.src == 255) && decide (p.sqhead < 65536) && p.words.length == 12

/-- A Tributary frame as a port delivers it (R209): seven header bytes. -/
def TribFrame.wf (f : TribFrame) : Bool := f.hdr.length == 7

/-- An observed voltage in mV, within the 60 V that any pin may see (R415). -/
def mvOk (mv : Nat) : Bool := decide (mv ≤ 60000)

/-- The measured rails of n groups. -/
def railsOk (n : Nat) (rails : List Nat) : Bool := rails.length == n && rails.all mvOk

/-- An offset in the space that a write names: word offsets on the Fast Port (R279), bytes in the BARs (R275), none elsewhere. -/
def Space.offOk (s : Space) (off : Nat) : Bool :=
  match s with
  | .fast => decide (off < 0x8000)
  | .bar0 | .bar2 => decide (off < 0x1000000)
  | .bar4 => decide (off < 0x10000)
  | .command | .msixControl | .deviceControl | .powerState | .aerStatus => off == 0

/-- A 16-bit code with a 16-bit instance (R369). -/
def codeOk (code inst : Nat) : Bool := decide (code < 65536) && decide (inst < 65536)

/-- What the firmware of a task does (R240, R241, R255): keys of 24 bits, data of 8 bytes, shared SRAM in banks 19 to 31, 64 KB of local
memory. -/
def TaskWork.wf (w : TaskWork) : Bool :=
  w.deposits.all (fun d => decide (d.key < 2 ^ 24) && decide (d.data < 2 ^ 64)) &&
  w.shared.all (fun c => decide (0x260000 ≤ c.1) && decide (c.1 < 0x400000)) && w.scratch.all (fun c => decide (c.1 < 0x10000))

/-- What a lit interval gives (R128). -/
def LitObs.wf : LitObs → Bool
  | .volts mv => mvOk mv
  | .tooShort => true

/-- What a boot finds: the slots named are A or B, pages at most 8 GB (R260). -/
def BootObs.wf (o : BootObs) : Bool :=
  o.calLost.all (fun c => decide (c.1 < 4)) && o.mirrorBad.all (fun q => decide (q < 65536)) && o.imageBad.all (fun n => decide (n < 2)) &&
  decide (o.dramPages ≤ 131072)

/-- Well-formed commands. -/
def Instr.wf : Instr → Bool
  | .genNop p => p.wf
  | .genIdentify p => p.wf
  | .genSetState p => p.wf
  | .genQueueStats p => p.wf
  | .genAbort p => p.wf
  | .genVectorTest p => p.wf
  | .lmpCommit p => p.wf
  | .lmpCfgcmtCommit => true
  | .lmpCommitApply => true
  | .lmpCommitTimeout => true
  | .lmpStringRestore p _ => p.wf
  | .lmpEstimate p => p.wf
  | .lmpSenWrite _ _ => true
  | .aspCommit p => p.wf
  | .aspCfgcmtCommit => true
  | .aspSet p => p.wf
  | .aspLcmdGo _ _ => true
  | .aspLaneStats p => p.wf
  | .aspRcfgWrite _ _ => true
  | .fadeStep _ => true
  | .frameTransmitStart _ => true
  | .idleStrikeRefresh _ => true
  | .provingFlash _ => true
  | .returnFrame _ _ => true
  | .rankUpdate _ => true
  | .returnSyncAcquire _ => true
  | .syncLoss _ _ => true
  | .returnLos _ => true
  | .prvReadmit p => p.wf
  | .readmitComplete _ => true
  | .readmitTimeout _ => true
  | .prvLampStats p => p.wf
  | .prvTrickleNow p => p.wf
  | .trickleNowTimeout _ => true
  | .prvRetire p => p.wf
  | .litSample _ o => o.obs.wf
  | .complianceLoss _ v0 v1 v2 v3 => mvOk v0 && mvOk v1 && mvOk v2 && mvOk v3
  | .siblingDisturbanceEnd _ => true
  | .stuckLitDetect _ mv => mvOk mv
  | .trickleStart _ => true
  | .trickleJudge _ mv _ => mvOk mv
  | .trickleAbort _ => true
  | .proveStarved _ => true
  | .retirementReport => true
  | .stringRampEnd _ => true
  | .deratingUpdate => true
  | .railSlewStep _ => true
  | .railTargetReached _ r => mvOk r.mv && decide (r.stay < 2 ^ 64)
  | .railUv _ mv => mvOk mv
  | .railOv _ mv => mvOk mv
  | .railOvEnd _ mv => mvOk mv
  | .railOc _ => true
  | .railOcHoldEnd _ mv => mvOk mv
  | .railOcEnd _ => true
  | .ntcFault _ => true
  | .weirAcommit _ => true
  | .weirAcfgWrite _ _ => true
  | .weirSnapselWrite _ => true
  | .weirWrselGo _ => true
  | .weirSmtWrite p => p.wf
  | .weirSmtLoad p => p.wf
  | .weirSmtRead p => p.wf
  | .weirPin p => p.wf
  | .weirArmStats p => p.wf
  | .smtRankMove _ => true
  | .auFault _ => true
  | .auRebuildDone _ => true
  | .auRevenant _ => true
  | .tribSetRole p => p.wf
  | .tribForm p => p.wf
  | .tribAdmit p => p.wf
  | .tribAdmitTimeout => true
  | .tribExpel p => p.wf
  | .tribRing p => p.wf
  | .tribStats p => p.wf
  | .tribPortDown _ _ => true
  | .tribPortUp _ => true
  | .fsumBreak _ f => f.wf
  | .refFrame _ f => f.wf
  | .histFrame _ f => f.wf
  | .histReturn _ f => f.wf
  | .histMergeDeadline _ => true
  | .thrFrame _ f => f.wf
  | .timeSyncSend _ => true
  | .timeSyncFrame _ f _ _ => f.wf
  | .timeSyncTimeout => true
  | .pdreqSend _ _ => true
  | .pdreqFrame _ f _ _ => f.wf
  | .pdrespFrame _ f _ => f.wf
  | .fsumSend _ => true
  | .fsumFrame _ f => f.wf
  | .epnNoticeSend => true
  | .epnNoticeFrame _ f => f.wf
  | .joinReqSend => true
  | .joinReqFrame _ f => f.wf
  | .controlCycleEnd => true
  | .memberContactTimeout => true
  | .tribFrameForward _ f => f.wf
  | .fabEngineStats p => p.wf
  | .fabProducerStats p => p.wf
  | .fabMsselWrite _ => true
  | .taskDispatch => true
  | .taskComplete e => e.work.wf
  | .taskOverrun _ => true
  | .engineRestartDone _ => true
  | .deadEngineHalt _ _ => true
  | .timerExpiry _ _ key op => decide (key < 2 ^ 24) && decide (op.data < 2 ^ 64)
  | .timerRetry _ => true
  | .fabLag _ => true
  | .sramEccError off _ read => decide (off < 0x420000) && read.struck.all (fun x => decide (x.2 < 512))
  | .recArm p => p.wf
  | .recTrigger p => p.wf
  | .recTrigWrite _ => true
  | .recCtlWrite _ => true
  | .recRead p => p.wf
  | .recRelease p => p.wf
  | .recList p => p.wf
  | .recPageFull _ => true
  | .captureEnd _ => true
  | .recDrop _ => true
  | .msrCommit p => p.wf
  | .msrCvctlCommit _ _ => true
  | .msrCvctlStart _ _ => true
  | .msrCvctlRun _ _ => true
  | .msrUrgent p => p.wf
  | .msrUrgaGo _ _ => true
  | .msrAclrWrite _ => true
  | .msrCalZero p => p.wf
  | .msrCalSpan p => p.wf
  | .msrCalClear p => p.wf
  | .msrStats p => p.wf
  | .conversionDone _ _ _ => true
  | .vfCaptureTimeout _ => true
  | .houseRoundDue _ => true
  | .houseRoundStart _ => true
  | .houseRoundDone die codes => codes.length == (if die = 0 then 7 else 6)
  | .msrHouseLate _ => true
  | .msrSum => true
  | .fioDiag p => p.wf
  | .fioOutRestore p _ => p.wf
  | .fioStats p => p.wf
  | .fioKickWrite _ => true
  | .fioKcfgWrite _ => true
  | .fioFcfgWrite _ _ => true
  | .fioOcmdWrite _ => true
  | .fioFltcfgWrite _ => true
  | .filterTick _ _ => true
  | .stuck _ => true
  | .chatterWindowEnd _ => true
  | .overload _ => true
  | .overloadRetry _ _ => true
  | .demagEnd _ _ => true
  | .offstateVoltage _ => true
  | .openLoad _ => true
  | .fldLow => true
  | .fldLowEnd => true
  | .fldUv => true
  | .fldUvEnd => true
  | .hostSilent => true
  | .fltPin _ _ => true
  | .fltClear p _ => p.wf
  | .fltLogRead p => p.wf
  | .fltInject p => p.wf
  | .fltCodeStats p => p.wf
  | .fltFfclr => true
  | .fltHoldWrite _ => true
  | .faultReport wires => wires.all (fun w => codeOk w.1 w.2)
  | .faultCauseEnd code inst => codeOk code (inst % 65536) && decide (inst < 0x20000)
  | .quietExpiry code => codeOk code 0
  | .shadowClose _ => true
  | .bistSliceNow p => p.wf
  | .bistFull p => p.wf
  | .bistResults p => p.wf
  | .bistLcsChallenge p => p.wf
  | .bistLcsToken p => p.wf
  | .bistLcsSet p => p.wf
  | .lcsRetiredReset => true
  | .nonceExpiry => true
  | .challengeLockoutEnd => true
  | .riffleSlot => true
  | .riffleHandover => true
  | .riffleTestEnd _ _ => true
  | .riffleReturn => true
  | .riffleVerdict => true
  | .fullBistStart => true
  | .fullBistEnd _ _ => true
  | .updBegin p => p.wf
  | .updChunk p => p.wf
  | .updApply p => p.wf
  | .updApplyDone _ => true
  | .updVerify p => p.wf
  | .updVerifyDone => true
  | .updActivate p _ => p.wf
  | .updConfirm p => p.wf
  | .updAbort p => p.wf
  | .updSettingsSave p => p.wf
  | .updSettingsRead p => p.wf
  | .updRevert p => p.wf
  | .confirmWindowWarning => true
  | .confirmWindowEnd => true
  | .pwrWarmRestart p _ lost rails => p.wf && lost.all (fun c => decide (c.1 < 16)) && railsOk 8 rails
  | .pwrKeepRead p => p.wf
  | .pwrStats p => p.wf
  | .pwrSaveTest p _ _ => p.wf
  | .vinSagCrossing => true
  | .sagQualifyAbandon => true
  | .vinSag _ _ => true
  | .sagCut => true
  | .sagPacketDeadline => true
  | .saveComplete _ _ _ _ => true
  | .holdEnd => true
  | .vinReturnSaved => true
  | .vinok => true
  | .holdokChange _ => true
  | .holdLow => true
  | .holdLowEnd => true
  | .vinhi => true
  | .powerOnReset => true
  | .rstN => true
  | .pgLoss _ => true
  | .thermalShutdown => true
  | .seqEnableStep => true
  | .seqPgTimeout => true
  | .seqRetry => true
  | .resetRelease _ _ _ => true
  | .pllaLockRetry => true
  | .pllaLock => true
  | .runReady o => o.wf
  | .clkLoss _ => true
  | .clkWindowEnd edges => decide (edges < 65536)
  | .dramClk => true
  | .pllaRelock => true
  | .huskLineRelease rails => railsOk 8 rails
  | .dieLinkError _ _ => true
  | .dieResyncWord _ good rails => decide (good ≤ 255) && railsOk 4 rails
  | .sqFetch => true
  | .cqCompletionWrite _ => true
  | .interruptCoalesceTimeout _ => true
  | .hostSqtdbWrite _ _ => true
  | .hostCqhdbWrite _ _ => true
  | .hostQctlEnable _ _ => true
  | .hostQctlDisable _ _ => true
  | .hostLink _ => true
  | .hostDma _ => true
  | .uartFrame line => !line.contains 0x7E
  | .consoleLine line => !line.contains 0x7E
  | .hostFpclk => true
  | .tapInstruction _ => true
  | .genTimeLoRead => true
  | .genTimeHiRead => true
  | .pairLowRead _ off => Space.bar0.offOk off
  | .pairHighRead _ off => Space.bar0.offOk off
  | .accSumLoRead _ _ _ => true
  | .registerWrite space off data _ => space.offOk off && !data.isEmpty
  | .presentCurrentStep _ => true
  | .escalationWindowEnd code => codeOk code 0
  | .openLoadEnd _ => true
  | .offstateVoltageEnd _ => true
  | .thermalShutdownEnd => true
  | .pcieLinkUp _ _ => true
  | .busMasterEnable => true
  | .tribFormDone => true
  | .tribPllLoss => true
  | .pcieRefclkLoss => true
end Sys2Proof
end

