-- ==== Sys2Proof/Tests/Slice0.lean ====
section
/-! SUPPORT. The author's own tests: ill-formed commands refused, states and operands that meet the hypotheses of every statement, and small
checks of single commands against values worked out from the rules. -/

namespace Sys2Proof.Tests
set_option Elab.async false
open Sys2Proof Sys2Proof.Machine

/-- A packet of queue 0 with these parameter words. -/
def pk (ws : List Word) : Packet := ⟨0, 0, 7, 0, 48, 0, 0, ws ++ List.replicate (12 - ws.length) 0⟩

/-- A packet with PTR, of the given direction (2: towards the host). -/
def pkPtr (dir : Half) (ws : List Word) : Packet := { pk ws with flags := 1 + dir, ptr := 0x1000 }

/-- A running device: booted, clocks locked, FIELD life cycle. -/
def ready : State :=
  { State.reset with
    pwr := { Power.reset with boot := .ready, base := .run, good := 31, enabled := 31, seqNext := 5, vinok := true, holdok := true }
    clk := { Clocks.reset with running := true, time := 1000000, ticks := 2000000, wall := 3000000 } }

/-- The same in MAINT. -/
def maint : State := { ready with pwr := { ready.pwr with base := .maint } }

/-- Writes registers. -/
def regs (l : List (Nat × Word)) (s : State) : State := l.foldl (fun s e => s.setReg e.1 e.2) s

/-- Writes committed values. -/
def lives (l : List (Nat × Word)) (s : State) : State := { s with live := l.foldl (fun t e => Tab.put regReset t e.1 e.2) s.live }

/-- The state that a command leaves. -/
def aft (i : Instr) (s : State) : State :=
  match exec i s with
  | .next t => t
  | _ => s

/-- A device with a PCIe link, Bus Master Enable and MSI-X. -/
def linked : State := ready.setReg Reg.hostStat 0x57

/-- A linked device whose queue pair 3 is enabled with 16 entries. -/
def queued : State := linked.onQueue 3 (fun x => { x with enabled := true, size := 16 })

/-- A device in MAINT. -/
def inMaint (s : State) : State := { s with pwr := { s.pwr with base := .maint } }


/-- A device whose entry 0 runs the packet of `pk []`, fetched with this opcode. -/
def runs (opcode : Nat) : State :=
  { ready with fab := { ready.fab with
    store := [(0, { Entry.reset with state := .running, packet := some (pk []), opcode := opcode, order := 4 })] } }

/-- A reply to `pk []`. -/
def reply0 : Reply := ⟨0, 7, 0, 0, 0, 1, 0, [], 0, false, []⟩

theorem witness_PacketsWithoutEffect :
    (asPacket State.reset (.genNop (pk [])) = some (Op.genNop, pk []) ∧ State.reset.serving = false) ∧
    ((runs Op.genIdentify.code).mayExecute Op.genNop (pk []) = false ∧ (runs Op.genNop.code).mayExecute Op.genNop (pk []) = true ∧
      ((runs Op.genNop.code).onHost (fun h => { h with results := [(4, reply0)] })).mayExecute Op.genNop (pk []) = false) ∧
    (asPacket ready (.genNop { pk [] with len := 49 }) = some (Op.genNop, { pk [] with len := 49 }) ∧ ready.serving = true ∧
      ready.mayExecute Op.genNop { pk [] with len := 49 } = true ∧
      ready.headerFails Op.genNop { pk [] with len := 49 } = some (Status.badParam, 0x52)) ∧
    (asPacket ready (.genNop (pk [1])) = some (Op.genNop, pk [1]) ∧
      ready.headerFails Op.genNop (pk [1]) = none ∧ Op.genNop.paramsClean (pk [1]) = false) := by decide +kernel

/-- Queue 3 of a linked device with one packet fetched and not started. -/
def waiting3 : State :=
  let e := { Entry.reset with state := .ready, packet := some { pk [] with src := 3, queue := 3 }, order := 0 }
  { queued with fab := { queued.fab with store := [(0, e)], order := 1 } }

theorem witness_GenCommandsComplete :
    ready.accepts Op.genNop (pk []) ∧ ready.accepts Op.genIdentify (pk []) ∧
    (ready.accepts Op.genSetState (pk [1]) ∧ field ((pk [1]).word 0) 0 2 = 1) ∧
    (maint.accepts Op.genSetState (pk [0]) ∧ field ((pk [0]).word 0) 0 2 = 0 ∧ maint.otp.grade ≠ 0 ∧ maint.scanHusk = false) ∧
    (ready.accepts Op.genQueueStats (pk [0x1001F]) ∧ queueOk (field ((pk [0x1001F]).word 0) 0 8) = true ∧
      wbit ((pk [0x1001F]).word 0) 16 = true ∧ wbit ((pk [31]).word 0) 16 = false ∧ queueOk (field ((pk [31]).word 0) 0 8) = true) ∧
    (waiting3.accepts Op.genAbort (pk [0x703]) ∧ queueOk (field ((pk [0x703]).word 0) 0 8) = true ∧
      ((waiting3.notStarted 3).find? (fun e => e.2.carries 3 7)).isSome = true) ∧
    (linked.accepts Op.genVectorTest (pk [63]) ∧ linked.hostSel = false ∧ linked.msixEnabled = true) := by
  decide +kernel

theorem witness_GenFrames : (∃ t, exec (.genNop (pk [])) ready = .next t) ∧ (∃ t, exec (.genIdentify (pk [])) ready = .next t) ∧
    (∃ t, exec (.genQueueStats (pk [])) ready = .next t) ∧ (∃ t, exec (.genVectorTest (pk [])) linked = .next t) ∧
    (∃ t, exec (.genSetState (pk [1])) ready = .next t) := ⟨⟨_, rfl⟩, ⟨_, rfl⟩, ⟨_, rfl⟩, ⟨_, rfl⟩, ⟨_, rfl⟩⟩


/-- A queue pair with one completion due. -/
def due3 : State := queued.onQueue 3 (fun x => { x with due := [⟨3, 7, 3, 0, 0, 0, 1, [1, 2], 0, false, []⟩], cqTail := 15, cqHead := 5 })


theorem witness_QueueRowsComplete :
    (queued.serving = true ∧ (queued.queue 3).enabled = true ∧ field 15 0 10 < (queued.queue 3).size ∧
      (queued.queue 3).size ≤ field 16 0 10) ∧
    ((queued.queue 4).enabled = false ∧ wbit 65 0 = true ∧ 2 ≤ field 65 5 11 ∧ field 32769 5 11 ≤ 1024 ∧ wbit 32769 0 = true) ∧
    (let s := queued.onQueue 3 (fun x => { x with sqTail := 1 })
     s.fetching = true ∧ s.busMaster = true ∧ s.linkUp = true ∧ s.nextQueue = some 3) ∧
    (let s := (queued.onQueue 3 (fun x => { x with unsignalled := 1 })).setReg (Reg.hostQctl 3) 0x01000201
     (s.queue 3).unsignalled ≠ 0 ∧ s.fld (Reg.hostQctl 3) 24 8 ≠ 0 ∧
      s.past (s.queue 3).oldest (usTicks (s.fld (Reg.hostQctl 3) 24 8)) = true) := by decide +kernel

theorem witness_CompletionWritten :
    due3.clk.lost = false ∧ (due3.queue 3).enabled = true ∧ (due3.queue 3).err = false ∧ due3.busMaster = true ∧
    (due3.queue 3).due = ⟨3, 7, 3, 0, 0, 0, 1, [1, 2], 0, false, []⟩ :: [] ∧ (due3.queue 3).size ≠ 0 ∧
    (due3.queue 3).cqFull = false := by decide +kernel


/-- The UART enabled, and the console. -/
def uart : State := ready.setReg Reg.hostCtl 3

/-- A command frame with GEN_NOP over the UART, before byte stuffing. -/
def nopFrame : List Byte :=
  let bs : List Byte := 0x01 :: ([1, 0, 9, 255, 0, 0, 0, 0] ++ List.replicate 56 0)
  bs ++ crcBytes (crc16 bs)

theorem witness_HostEventsComplete :
    linked.linkUp = true ∧
    (let s := ready.setReg Reg.genClkstat 0x1F
     s.endpointOn = true ∧ s.clk.lost = false ∧ s.linkUp = false ∧ s.bit Reg.genClkstat 3 = true) ∧
    (linked.clk.lost = false ∧ queued.linkUp = true ∧ (queued.queue 3).enabled = true) ∧
    (let p := { pkPtr 2 [] with src := 3, queue := 3 }
     let e : Nat × Entry := (0, { Entry.reset with state := .running, packet := some p, order := 4 })
     let s := { queued with fab := { queued.fab with store := [e] } }
     s.linkUp = true ∧ s.clk.lost = false ∧ e.2.packet = some p ∧
       s.fab.store.find? (fun e => e.2.state == .running && (match e.2.packet with | some p => p.src == 3 && p.hasPtr | none => false)) =
         some e) ∧
    (uart.fetching = true ∧ uart.bit Reg.hostCtl 1 = true ∧ (framePacket nopFrame).isSome = true ∧ framePacket [] = none ∧
      uart.bit Reg.hostCtl 0 = true ∧ ([0x7C] : List Byte).any (fun b => b == 0x7E || b == 0x7D) = false) ∧
    (uart.serving = true ∧ uart.causePresent Code.hostFpclk = false) := by decide +kernel

theorem witness_ReadsComplete :
    linked.portOn .pcie = true ∧ linked.pwr.boot = .ready ∧
    (linked.setShadow .pcie Reg.genTimeHi (some 5)).shadow .pcie Reg.genTimeHi = some 5 ∧ linked.shadow .pcie Reg.genTimeHi = none ∧
    (pairLow Reg.bistLsigLo = true ∧ setWord Reg.bistLsigLo ≠ some 0 ∧ linked.shadow .pcie Reg.bistLsigLo = none) ∧
    (shadowed (Reg.bistLsigLo + 4) = true ∧
      (linked.setShadow .pcie (Reg.bistLsigLo + 4) (some 6)).shadow .pcie (Reg.bistLsigLo + 4) = some 6) := by decide +kernel

theorem witness_RegisterWritesComplete :
    linked.portOn .pcie = true ∧ linked.pwr.boot = .ready ∧ (0xFFFFFC % 4 = 0 ∧ findRow 0xFFFFFC = none) ∧
    Reg.lmpCtl % 4 = 0 ∧ (findRow Reg.lmpCtl).isSome = true ∧ (findRow Reg.lmpDrt).isSome = true ∧ (findRow Reg.prvCtl).isSome = true ∧
    (findRow Reg.msrCtl).isSome = true ∧ (findRow Reg.fioInirq).isSome = true ∧ (findRow Reg.fioOnirq).isSome = true ∧
    (findRow Reg.pwrCtl).isSome = true := by decide +kernel

theorem witness_FieldAccessCodes :
    let f : Fld := ⟨4, 3, .rw, [(0, 5)]⟩
    f.lo + f.len ≤ 32 ∧ f.acc = .rw ∧ f.lists (field 0x50 4 3) = true ∧ f.lists (field 0x60 4 3) = false ∧
      ({ f with acc := .w1c } : Fld).acc = .w1c ∧ ({ f with acc := .ro, lo := 29 } : Fld).lo + f.len ≤ 32 := by decide +kernel

/-- String 0 with CUR 480 and RAMP 10, its four positions LAMP, staged and committed; string 0 enabled. -/
def lampRegs : List (Nat × Word) :=
  [(Reg.lmpScur 0, 0x000A01E0), (Reg.lmpSpos 0, 0x55), (Reg.prvLwin 0, 60), (Reg.prvLwin 1, 60), (Reg.prvLwin 2, 60), (Reg.prvLwin 3, 60)]

/-- A running device with that string committed and STEADY on a rail at its target. -/
def lit : State :=
  let s := regs ((Reg.lmpSen 0, 1) :: lampRegs) (lives lampRegs ready)
  { s with lamps := { s.lamps with
      strs := [(0, { Str.reset with state := .steady, cur := 480 })]
      groups := [(0, { Group.reset with target := 15200, setpoint := 15200, measMv := 15000, reached := true })] } }

/-- The same with string 0 as `x` says. -/
def strAs (x : Str) : State := { lit with lamps := { lit.lamps with strs := [(0, x)] } }

/-- The string d TCLK into a ramp of 480 steps in 10 ms, at its 100th step. -/
def rising (d : Nat) : State :=
  strAs { Str.reset with state := .rampUp, cur := 100, slopeNum := 480, slopeDen := 10, rampAt := lit.mono - d, rampSteps := 100 }

/-- A running commit over the staged values, no rail awaited, or rail 0 awaited for 10 ms. -/
def committing : State := { lit with lamps := { lit.lamps with commit := some ⟨lit.lmpSnap, [], lit.mono, 0, none⟩ } }
def late : State :=
  { lit with
    lamps := { lit.lamps with
      commit := some ⟨lit.lmpSnap, [0], 0, 0, none⟩
      groups := [(0, { Group.reset with target := 15200, setpoint := 6000 })] }
    clk := { lit.clk with ticks := msTicks 10 } }

theorem witness_LmpCommitEnds :
    (committing.lamps.commit = some ⟨lit.lmpSnap, [], lit.mono, 0, none⟩ ∧ committing.served = true ∧ committing.upd.todo = [] ∧
      committing.saved = false ∧ ([] : List Nat).all committing.railReady = true ∧ Tab.wf regReset lit.lmpSnap = true ∧
      ∀ e ∈ lit.lmpSnap, lmpStaged e.1 = true) ∧
    (late.lamps.commit = some ⟨lit.lmpSnap, [0], 0, 0, none⟩ ∧ late.served = true ∧ late.upd.todo = [] ∧
      [0].find? (fun g => !late.railReady g) = some 0 ∧ late.past 0 (msTicks 10) = true) := by decide +kernel

/-- String 0 cut. -/
def cutStr : State := { lit with lamps := { lit.lamps with strs := [(0, { Str.reset with state := .cut })] } }

theorem witness_LmpCommandsComplete :
    (lit.accepts Op.lmpEstimate (pk []) ∧ lit.confFault (lit.snapConf lit.lmpSnap) = none) ∧
    (let s := regs [(Reg.lmpScur 0, 0x000A0010)] lit
     s.accepts Op.lmpEstimate (pk []) ∧ (s.confFault (s.snapConf s.lmpSnap)).isSome = true) ∧
    (cutStr.accepts Op.lmpStringRestore (pk [0]) ∧ ((pk [127]).word 0).toNat ≤ 127 ∧ (cutStr.str 0).state = .cut ∧
      lit.accepts Op.lmpStringRestore (pk [0]) ∧ (lit.str 0).state ≠ .cut ∧ cutStr.sinkHeld 0 = false ∧ cutStr.enabled 0 = true ∧
      cutStr.target 0 ≠ 0 ∧ ({ cutStr with clk := { cutStr.clk with huskLine := true } } : State).sinkHeld 0 = true) ∧
    lit.served = true ∧ wbit (lit.reg (Reg.lmpSen 0)) 0 ≠ wbit 0 0 ∧ (lit.str 0).state = .steady ∧ lit.sinkHeld 0 = false ∧
    (let s := regs [(Reg.lmpSen 0, 0)] (strAs { Str.reset with state := .rampDown, cur := 1 })
     wbit (s.reg (Reg.lmpSen 0)) 0 ≠ wbit 1 0 ∧ (s.str 0).cur < s.target 0) ∧
    wbit (lit.reg (Reg.lmpSen 3)) 31 = wbit 0 31 := by decide +kernel

theorem witness_RampsComplete :
    (let s := rising 1346667
     let x := s.str 0
     s.served = true ∧ s.sinkHeld 0 = false ∧ x.state = .rampUp ∧ x.cur < s.rampEnd 0 ∧
       (x.rampSteps + 1) * x.slopeDen * 640000 ≤ x.slopeNum * (s.mono - x.rampAt)) ∧
    (let s := rising 1346666
     let x := s.str 0
     ¬ (x.rampSteps + 1) * x.slopeDen * 640000 ≤ x.slopeNum * (s.mono - x.rampAt)) ∧
    (let s := strAs { Str.reset with state := .steady, cur := 481, rampAt := lit.mono - 6400 }
     (s.str 0).state = .steady ∧ (s.str 0).rampAt + 6400 ≤ s.mono ∧ s.rampEnd 0 < (s.str 0).cur) ∧
    (let s := strAs { Str.reset with state := .rampDown, cur := 480 }
     (s.str 0).cur = s.rampEnd 0 ∧ (s.str 0).cur ≠ 0) ∧
    (let s := regs [(Reg.lmpSen 0, 0)] (strAs { Str.reset with state := .rampDown, cur := 0 })
     (s.str 0).cur = s.rampEnd 0 ∧ (s.str 0).cur = 0 ∧ s.sinkHeld 0 = false) ∧
    lit.past lit.lamps.deratedAt (msTicks 1) = true := by decide +kernel

theorem witness_DeratingBounds : 32 ≤ (32 : Nat) ∧ ieff 32 0 = 32 ∧ ieff 31 0 = 31 ∧ ((100 : Int) ≤ 101) := by decide +kernel

/-- Rail 0 on its way up, on its way down, and at its target. -/
def slewing (sp : Nat) : State := { lit with lamps := { lit.lamps with groups := [(0, { Group.reset with target := 10000, setpoint := sp })] } }

theorem witness_RailsComplete :
    (lit.served = true ∧ (slewing 9990).drvHeld 0 = false ∧ ((slewing 9990).group 0).setpoint < ((slewing 9990).group 0).target ∧
      (slewing 9990).past ((slewing 9990).group 0).slewAt (usTicks 50) = true ∧ usTicks 50 ≤ 32000) ∧
    (((slewing 10010).group 0).target < ((slewing 10010).group 0).setpoint) ∧
    (((slewing 10000).group 0).setpoint = ((slewing 10000).group 0).target ∧
      50 * ((10250 - 10000) + (10000 - 10250)) ≤ 10000 + 2500) ∧
    ((slewing 10000).railJudged 0 = true ∧ 20 * 9399 + 2000 < 19 * 10000 ∧ ((slewing 10000).group 0).uv = false) ∧
    (11 * ((slewing 10000).group 0).setpoint + 2000 < 10 * 11201 ∧ ((slewing 10000).group 0).ov = false ∧ 21000 < 21001) ∧
    (let s := (slewing 10000).onGroup 0 (fun r => { r with ovHold := true, ov := true })
     s.railJudged 0 = true ∧ (s.group 0).ovHold = true ∧ 20 * 10499 < 21 * (s.group 0).setpoint) ∧
    ((slewing 10000).group 0).ocHold = false ∧
    (let s := (slewing 10000).onGroup 0 (fun r => { r with ocHold := true, oc := true })
     s.railJudged 0 = true ∧ (s.group 0).ocHold = true ∧
       ({ s with clk := { s.clk with ticks := msTicks 10 } } : State).past 0 (msTicks 10) = true) ∧
    (let s := (slewing 10000).onGroup 0 (fun r => { r with oc := true })
     s.railJudged 0 = true ∧ (s.group 0).oc = true ∧ (s.group 0).ocHold = false ∧ (s.group 0).setpoint = (s.group 0).target) ∧
    (let s := regs [(Reg.lmpNtccfg, 0x10000)] ready
     let s := { s.onGroup 0 (fun r => { r with ntcOut := some 0 }) with clk := { s.clk with ticks := msTicks 10 } }
     s.served = true ∧ s.bit Reg.lmpNtccfg 16 = true ∧ (s.group 0).ntcFault = false ∧
       (s.group 0).ntcOut.any (fun t => s.past t (msTicks 10)) = true) := by decide +kernel

/-- Lamp 0's lane framed at 20 Mbaud with FLASH committed, showing INSERT; the commands steady. -/
def framed : State :=
  let s := lives [(Reg.aspLcfg 0, 0x8000), (Reg.prvLcfg 0, 1)] lit
  s.onStream 0 (fun x => { x with content := ⟨.insert, false, 0, false, 0⟩ })

theorem witness_AspCommandsComplete :
    (lit.served = true ∧ lit.aspFault = none ∧ lit.accepts Op.aspCommit (pk [])) ∧
    (let s := regs [(Reg.aspLcfg 5, 0xE000)] lit
     s.served = true ∧ s.aspFault.isSome = true) ∧
    (wbit 0x80010000 31 = true ∧ (lit.writeReg (Reg.aspLcmd 0) 0x80010000).hostRefused 0 = none) ∧
    (lit.accepts Op.aspSet (pk [1, 0x4000]) ∧ ((pk [1, 0x4000]).word 0).toNat = 1 ∧
      (List.range 12).all (fun i => decide (i ≤ 1) || (pk [1, 0x4000]).word i == 0) = true ∧ field ((pk [1, 0x4000]).word 1) 9 5 = 0 ∧
      lit.hostRefused 0 = none) ∧
    (lit.accepts Op.aspLaneStats (pk [0x201FF]) ∧ wbit ((pk [0x201FF]).word 0) 16 = false ∧ wbit ((pk [0x201FF]).word 0) 17 = true ∧
      lit.accepts Op.aspLaneStats (pk [0]) ∧ wbit ((pk [0]).word 0) 17 = false) ∧
    (let p := pk [11, 0, 1, 2, 3, 3, 2, 1, 0, 0, 1, 0x200]
     lit.accepts Op.aspSet p ∧ (p.word 0).toNat = 11 ∧ field (p.word 11) 9 5 ≠ 0 ∧
       (List.range 10).all (fun i => field (p.word (i + 1)) 9 5 == 0 && (lit.hostRefused (field (p.word (i + 1)) 0 9)).isNone) = true) ∧
    (lit.onPrv 0 (fun x => { x with retired := some .host })).hostRefused 0 = some Status.badParam := by decide +kernel

/-- A framed lane with new content pending at its boundary. -/
def pendingNew (c : Content) : State := framed.onStream 0 (fun x => { x with newPend := some c })

theorem witness_ContentReachesLamp :
    (lit.mayAct .host 0 = true ∧ confFramed lit.conf 0 = false ∧ lit.fld (Reg.aspLcfg 0) 16 16 = 0) ∧
    (let s := pendingNew ⟨.bypass, false, 0, false, 0⟩
     s.served = true ∧ confFramed s.conf 0 = true ∧ (s.stream 0).content.aspect ≠ .dark ∧ (s.stream 0).lineBusy (s.boundary 0) = false ∧
      (s.stream 0).sagPend = false ∧ (s.stream 0).huskPend = false ∧ (s.stream 0).newPend = some ⟨.bypass, false, 0, false, 0⟩ ∧
      strikes (confFkind s.conf 0) ⟨.bypass, false, 0, false, 0⟩ = true ∧
      strikes (confFkind s.conf 0) ⟨.insert, true, 9, false, 0⟩ = false) := by decide +kernel

/-- That lane with its stream as `f` makes it. -/
def framedWith (f : Stream → Stream) : State := framed.onStream 0 f

theorem witness_LaneEventsComplete :
    (let s := (lit.onStream 0 (fun x => { x with fade := some ⟨0, 100, lit.mono, 50⟩ }))
     let u := { s with clk := { s.clk with time := 2 ^ 40 - lampDelay } }
     u.served = true ∧ (u.stream 0).fade = some ⟨0, 100, lit.mono, 50⟩ ∧
      counterAt (confW u.conf 0) (confPre u.conf 0) u.lampTime = confPhase u.conf 0 % 2 ^ confW u.conf 0 ∧
      (u.mono - lit.mono) / 640 < 50 ∧ 50 ≤ (lit.mono + 32000 - lit.mono) / 640) ∧
    (framed.served = true ∧ confFramed framed.conf 0 = true ∧ (framed.stream 0).content.aspect ≠ .dark ∧
      (framed.stream 0).lineBusy (framed.boundary 0) = false ∧ framed.fld Reg.aspCtl 0 8 ≠ 0 ∧
      (framed.stream 0).lineBusy framed.lampTime = false ∧
      (framed.stream 0).lastEnd + usTicks (framed.fld Reg.aspCtl 0 8) ≤ framed.lampTime) ∧
    ((framedWith (fun x => { x with sagPend := true })).stream 0).sagPend = true ∧
    (let x := (framedWith (fun x => { x with huskPend := true })).stream 0
     x.sagPend = false ∧ x.huskPend = true) ∧
    (let x := (framedWith (fun x => { x with restartPend := true })).stream 0
     x.sagPend = false ∧ x.huskPend = false ∧ x.newPend = none ∧ x.restartPend = true) ∧
    (let g : Frame := ⟨.strike, ⟨.insert, false, 0, false, 0⟩, 3, strikeSyms false 3 .insert, 0, 640⟩
     let x := (framedWith (fun x => { x with repeatPend := true, sentNew := [g] })).stream 0
     x.urgent = false ∧ x.repeatPend = true ∧ x.sentNew = g :: []) ∧
    (let x := (framedWith (fun x => { x with idlePend := true })).stream 0
     x.urgent = false ∧ x.repeatPend = false ∧ x.idlePend = true) ∧
    (framed.stream 0).idlePend = false ∧
    (let s := { framed with clk := { framed.clk with ticks := 10 ^ 9 } }
     s.edgeLamp 0 = some 0 ∧ s.proven 0 = true ∧ confFlash s.conf 0 = true ∧ (s.stream 0).urgent = false ∧ (s.stream 0).repeatPend = false ∧
      (s.stream 0).idlePend = false ∧ (s.stream 0).now = none ∧ s.past (s.prv 0).lastLitAt (confTrk s.conf / 2) = true ∧
      s.past (s.stream 0).lastFlash (confTrk s.conf) = true) := by decide +kernel

/-- Return input 0 hunting, in synchronisation. -/
def hunting : State := (lit.setReg (Reg.aspRcfg 0) 1).onRet 0 (fun r => { r with state := .hunt })
def synced : State := (lit.setReg (Reg.aspRcfg 0) 1).onRet 0 (fun r => { r with state := .sync })

theorem witness_ReturnLanesComplete :
    (hunting.served = true ∧ (hunting.ret 0).state = .hunt) ∧ (synced.ret 0).state = .sync ∧
    ((hunting.ret 0).state ≠ .disabled ∧ hunting.past (hunting.ret 0).lastEdge (32 * bitTicks (hunting.fld (Reg.aspRcfg 0) 1 2)) = true) ∧
    (countTrue (synced.ret 0).errors < 4 ∧ countTrue [true, true, true] < 4) ∧
    (crc16 [1, 2, 3, 4, 5] = 256 * (BitVec.ofNat 8 (crc16 [1, 2, 3, 4, 5] / 256)).toNat + (BitVec.ofNat 8 (crc16 [1, 2, 3, 4, 5])).toNat) ∧
    crc16 [0, 0, 0, 0, 0] ≠ 256 * (0 : Byte).toNat + (0 : Byte).toNat ∧
    (let s := lit.onSmt 4095 (fun e => { e with rankPend := some 9 })
     s.served = true ∧ (s.smt ((4095 : Fin 4096) : Nat)).rankPend = some 9) := by decide +kernel

/-- Lamp 0 retired by the host with a trickle PASS, and on its way back. -/
def retired0 : State := lit.onPrv 0 (fun x => { x with retired := some .host, lastTrk := some .pass })
def readmitting (p : Option Packet) : State := lit.onPrv 0 (fun x => { x with retired := some .host, lastTrk := some .pass, readmit := some (0, p) })

theorem witness_ProvingCommandsComplete :
    (retired0.accepts Op.prvReadmit (pk [0]) ∧ (retired0.prv 0).retired.isSome = true ∧
      retired0.weir.smt.any (fun e => e.2.valid && e.2.avail && e.2.pin == 0 && (e.2.lamp == 0 || (e.2.spv && e.2.spare == 0))) = false ∧
      (retired0.str (strOf 0)).state = .steady ∧ (retired0.prv 0).readmit = none ∧ (retired0.prv 0).lastTrk = some .pass) ∧
    (let s := readmitting (some (pk [0]))
     (s.prv 0).readmit = some (0, some (pk [0])) ∧ s.served = true ∧ s.railReady (groupOf (strOf 0)) = true) ∧
    ((readmitting none).prv 0).readmit = some (0, none) ∧
    (let s := { readmitting (some (pk [0])) with clk := { lit.clk with ticks := msTicks 10 } }
     s.past 0 (msTicks 10) = true) ∧
    (lit.accepts Op.prvLampStats (pkPtr 2 [0x101FF]) ∧ wbit ((pkPtr 2 [0x101FF]).word 0) 16 = true ∧
      lit.accepts Op.prvLampStats (pkPtr 2 [511])) ∧
    (lit.accepts Op.prvTrickleNow (pk [3]) ∧ (lit.prv 3).hostReq = none ∧ (lit.str (strOf 3)).state = .steady ∧
      confMode lit.conf 3 ≠ 0) ∧
    (let s := lit.onPrv 511 (fun x => { x with hostReq := some (0, pk [511]) })
     (s.prv 511).hostReq = some (0, pk [511]) ∧ ({ s with clk := { s.clk with ticks := 10 ^ 9 } } : State).past 0 (confTrk s.conf) = true) ∧
    (lit.accepts Op.prvRetire (pk [0]) ∧ confMode lit.conf 0 ≠ 0 ∧ (lit.prv 0).retired = none) := by decide +kernel

/-- Lamp 0 with position 4 as its spare, in SM 1. -/
def spared : State :=
  (lives [(Reg.lmpSpos 1, 0x56)] lit).setSmt 1 { Smt.reset with valid := true, lamp := 0, spv := true, spare := 4, rxl := 1 }

/-- Lamp 0 dark for long. -/
def darkLamp : State := { lit with clk := { lit.clk with ticks := 10 ^ 9 } }

/-- Lamp 0 lit for d TCLK, with an edge of lamp 1 since e. -/
def litFor (d e : Nat) : State :=
  (lit.onStream 0 (fun x => { x with level := true, edges := [lit.mono - d] })).onStream 1 (fun x => { x with edges := [lit.mono - e] })

/-- Lamp 0 lit for d TCLK, and dark now. -/
def litOnce (d : Nat) : State := lit.onStream 0 (fun x => { x with edges := [lit.mono, lit.mono - d] })

theorem witness_LitProvingCompletes :
    (let s := (litFor (confDly lit.conf) 8).onStr 0 (fun x => { x with disturbed := some 5 })
     s.served = true ∧ s.proven 0 = true ∧ s.sampleKind 0 = .judge ∧ s.disturbedNow (strOf 0) = true ∧ (s.str 0).disturbed = some 5) ∧
    (let s := litFor (confDly lit.conf) 8
     s.proven 0 = true ∧ s.sampleKind 0 = .judge ∧ s.disturbedNow (strOf 0) = false ∧ confMin s.conf 0 ≤ 3500 ∧ 3500 ≤ confVf s.conf 0 ∧
       confVf s.conf 0 < 3501 ∧ 499 < confMin s.conf 0 ∧ (s.prv 0).epoch = 0 ∧ (0 : Half).toNat = (s.prv 0).epoch ∧
         (1 : Half).toNat ≠ (s.prv 0).epoch) ∧
    (let s := (regs [(Reg.prvCtl, 0x00100000)] (litFor (confDly lit.conf) 8))
     s.fld Reg.prvCtl 20 4 ≤ (s.prv 0).shortCount + 1 ∧ (lit.prv 0).shortCount + 1 < lit.fld Reg.prvCtl 20 4) ∧
    (litFor (confDly lit.conf) 7).sampleKind 0 = .defer (lit.mono - 7 + 8) ∧
    (litOnce (confDly lit.conf)).missedSample 0 = some (lit.mono - confDly lit.conf) ∧ confFramed lit.conf (lit.streamOf 0) = false ∧
    ((lit.str 0).state = .steady ∧ lit.sinkHeld 0 = false ∧ (litFor 1 8).shuntOpen 0 lit.mono = true ∧ confVf lit.conf 0 < 3501 ∧
      ∀ i : Fin 4, lit.shuntOpen (4 * 0 + i.val) lit.mono = false) ∧
    (darkLamp.proven 0 = true ∧ (darkLamp.prv 0).retired = none ∧
      darkLamp.past (max (darkLamp.prv 0).cover (darkLamp.str (strOf 0)).steadySince) (confTrk darkLamp.conf) = true) ∧
    (let s := darkLamp.onStream 0 (fun x => { x with edges := [10 ^ 9 - 24] })
     s.stuckRun 0 = true ∧ (s.prv 0).trickle = none ∧ s.lossHere (strOf 0) = true ∧ 450 < 451) ∧
    (let s := { lit with lamps := { lit.lamps with notes := [⟨0, .openLit, 3600, 9⟩] } }
     s.served = true ∧ s.lamps.notes = ⟨0, .openLit, 3600, 9⟩ :: [] ∧ s.smOfLamp 0 = none ∧
       retireCode (confMode s.conf 0 == 2 && !(s.prv 0).active) .openLit = some Code.lampOpen) ∧
    (let s := spared
     s.smOfLamp 0 = some 1 ∧ (s.smt 1).spare ≠ 0 ∧ (s.smt 1).spv = true ∧ s.spareReady (s.smt 1).spare = true) := by decide +kernel

/-- A trickle test of lamp 0 in progress. -/
def testing (e : Nat) : State := darkLamp.onPrv 0 (fun x => { x with trickle := some ⟨10 ^ 9 - 1200, e, false, false, none⟩ })

theorem witness_TrickleProvingCompletes :
    (darkLamp.served = true ∧ darkLamp.proven 0 = true ∧ (darkLamp.prv 0).stuck = false ∧
      (lampsOf (strOf 0)).all (fun k => (darkLamp.prv k).trickle.isNone) = true ∧ darkLamp.darkEnough 0 = true) ∧
    (((testing 0).prv 0).trickle = some ⟨10 ^ 9 - 1200, 0, false, false, none⟩ ∧ (testing 0).past (10 ^ 9 - 1200) 1200 = true ∧
      (testing 0).proven 0 = true ∧ ((testing 0).prv 0).epoch = 0 ∧ confTmin (testing 0).conf 0 ≤ 3449 ∧
      3449 + 50 < confVf (testing 0).conf 0) ∧
    ((testing 0).litDuring 0 (10 ^ 9 - 1200) (10 ^ 9) = false ∧
      ((testing 0).onStream 0 (fun x => { x with level := true, edges := [10 ^ 9] })).litDuring 0 (10 ^ 9 - 1200) (10 ^ 9) = true ∧
      confVf (testing 0).conf 0 ≤ 3450 + 50 ∧ 499 < confTmin (testing 0).conf 0) ∧
    (((testing 1).prv 0).trickle = some ⟨10 ^ 9 - 1200, 1, false, false, none⟩ ∧ (1 : Nat) ≠ ((testing 1).prv 0).epoch) ∧
    ((testing 0).prv 0).trickle.isSome = true := by decide +kernel

/-- Arm 0 under WEIR with two valid available submodules, SM 1 and SM 2, lamps 0 and 1, ranked at 100 and 50. -/
def armed : State :=
  let s := regs [(Reg.weirAcfg 0, 0x00000100)] lit
  let e := { Smt.reset with valid := true, avail := true, age := 0 }
  (s.setSmt 1 { e with lamp := 0, rxl := 1, vcap := 100, ranked := some 100 }).setSmt 2 { e with lamp := 1, rxl := 2, vcap := 50, ranked := some 50 }

theorem witness_DecisionMeetsReference :
    (([⟨5, 1, false⟩, ⟨3, 2, true⟩] : List Cand).map Cand.sm).Nodup := by decide +kernel

theorem witness_ArmCommitsComplete :
    (armed.served = true ∧ (regs [(Reg.weirAref0 0, 1025)] armed).verdict 0 1025 false = .refused ∧
      (armed.onArm 0 (fun x => { x with lastTaken := some armed.mono })).verdict 0 0 false = .early) ∧
    (armed.onUnit 0 (fun x => { x with rebuild := some 0 })).verdict 0 0 false = .held ∧
    ((regs [(Reg.weirAref0 0, 1)] armed).verdict 0 1 false = .taken ∧ armed.byRound 0 = false) ∧
    (let s := { regs [(Reg.weirAcfg 0, 0x110)] armed with chain := { armed.chain with role := .head, ndev := 2, live := 3 } }
     s.verdict 0 0 false = .taken ∧ s.byRound 0 = true) := by decide +kernel

/-- The words that write entry 3 valid for lamp 2, and the same with a reserved bit set. -/
def img : List Word := [0x8000, 2, 3, 0]

theorem witness_TableCommandsComplete :
    (armed.served = true ∧ field 0xFF02 0 2 ≠ 3 ∧ field 0xFF02 8 8 ≠ 0) ∧ wbit 0x80000003 31 = true ∧
    (armed.accepts Op.weirSmtWrite (pk (3 :: img)) ∧ armed.entryRefused 3 img = none ∧
      (armed.entryRefused 3 [0x8000, 0, 3, 0]).isSome = true) ∧
    (let p := pkPtr 0 [0x00010003]
     armed.accepts Op.weirSmtLoad p ∧ smRangeOk (p.word 0) = true ∧ field (p.word 0) 16 13 = 1 ∧
       armed.opRuns Op.weirSmtLoad (fun _ => true) = false ∧
       (State.loadEntries p.ptr.toNat 1 3 0 armed).2.1 = none ∧
       (State.loadEntries p.ptr.toNat 1 3 0 { armed with hostMem := [(0x1001, 0x80)] }).2.1 = some (Status.badParam, 0x42, 3)) ∧
    (let e := { Entry.reset with state := .running, packet := some (pk [9]), opcode := Op.weirSmtLoad.code, order := 4 }
     let s := { armed with fab := { armed.fab with store := [(0, e)] }, host := { armed.host with results := [(4, reply0)] } }
     s.opRuns Op.weirSmtLoad (fun _ => true) = true ∧ s.accepts Op.weirSmtLoad (pkPtr 0 [0x00010003])) ∧
    (let p := pkPtr 2 [0x80020001]
     armed.accepts Op.weirSmtRead p ∧ smRangeOk (p.word 0) = true ∧ wbit (p.word 0) 31 = true) ∧
    (let p := pk [1, 0x1001]
     armed.accepts Op.weirPin p ∧ (p.word 0).toNat = 1 ∧ (List.range 12).all (fun i => decide (i ≤ 1) || p.word i == 0) = true ∧
      armed.pinRefused (p.word 1) = none ∧ armed.pinRefused 3 = some (Status.badParam, 0)) ∧
    (armed.accepts Op.weirArmStats (pkPtr 2 [0x10007]) ∧ wbit ((pkPtr 2 [0x10007]).word 0) 16 = true ∧
      armed.accepts Op.weirArmStats (pkPtr 2 [7])) ∧
    (let s := armed.onSmt 1 (fun e => { e with moving := some 0, avail := false })
     (s.smt 1).valid = true ∧ (s.smt 1).moving.isSome = true ∧ (s.smt 1).avail = false) := by decide +kernel

theorem witness_ArmUnitsComplete :
    (lit.serving = true ∧ lit.unitStandsIn 0 = none ∧ (lit.unit 0).role = .inService ∧ lit.bist.slice = none ∧ lit.spareUnit = some 8 ∧
      (8 : Nat) ≠ ((0 : Fin 9) : Nat) ∧ (lit.unit 0).arm < 8) ∧
    (let s := lit.onUnit 8 (fun u => { u with role := .inService, rebuild := some 0 })
     (s.unit 8).role = .inService ∧ (s.unit 8).rebuild.isSome = true) ∧
    (let s := lit.onUnit 7 (fun u => { u with epoch := 1 })
     (s.unit 7).epoch ≠ (s.arm (s.unit 7).arm).epoch) := by decide +kernel

/-- A HEAD of three devices in ring mode, and the same in linear mode with the break east of position 0, ports up for over 10 ms. -/
def up : TribPort := { TribPort.reset with up := true, los := false }
def head : State :=
  { lit with
    chain := { Chain.reset with role := .head, ndev := 3, live := 7, portE := up, portW := up, hops := 6 }
    clk := { lit.clk with ticks := 10 ^ 9 } }
def linear : State :=
  { head with chain := { head.chain with
      linear := true, brk := 0, members := [(1, { Member.reset with westUp := some 0, eastUp := some 0 })] } }

/-- A MEMBER at position 1 that has joined; arm 0 spans and is served under WEIR. -/
def member : State :=
  { regs [(Reg.weirAcfg 0, 0x110)] armed with
    chain := { Chain.reset with
      role := .member, pos := 1, ndev := 3, live := 7, mstate := .joined, knowsNdev := true, portE := up, portW := up, cyc := 100 }
    clk := { lit.clk with ticks := 10 ^ 9 } }
def memberAs (m : MState) : State := { member with chain := { member.chain with mstate := m } }

/-- A sealed frame of epoch 0. -/
def frame (type src kind : Nat) (data : List (BitVec 64)) : TribFrame := sealFrame (hdrOf type src kind false false 0 0 data.length) data false

/-- The reference of arm 0: two insertions. -/
def ref0 : ArmRef := ⟨0, 2, false, 5, 0, 0, 0, 0⟩

/-- The part of a round at the member, before and after its contribution, and a round at the HEAD. -/
def part0 (c : Bool) : Round := ⟨ref0, [⟨50, 2, false⟩, ⟨100, 1, false⟩], 0, false, c, List.replicate 64 0, List.replicate 64 0, 16, 0, 0⟩
def inRound (c : Bool) : State := { member with chain := { member.chain with parts := [(0, some (part0 c))] } }
def headRound : HeadRound := ⟨part0 true, 10 ^ 9, 6, none, none, [0], [], 0, 7, false⟩
def merging : State := { head with chain := { head.chain with rounds := [(0, some headRound)] } }
def mergingLinear : State := { linear with chain := { linear.chain with rounds := [(0, some { headRound with waiting := [0, 1] })] } }
def hist0 : HistData := ⟨2, 0, List.replicate 8 (0, 0), List.replicate 64 0, List.replicate 64 0⟩
def thr0 : Thr := ⟨1, false, 0, 0, 0, 0, 0, 0, 65535, 0, 0, 2⟩

theorem witness_SpannedPartsMeetReference :
    ∀ l ∈ ([[⟨5, 1, false⟩, ⟨7, 2, true⟩], [⟨5, 1, false⟩]] : List (List Cand)), (l.map Cand.sm).Nodup := by decide +kernel

theorem witness_FrameContentsRoundTrip :
    (255 < 256 ∧ 7 < 8 ∧ 65535 < 65536) ∧ (ref0.arm < 8 ∧ ref0.nIns < 2 ^ 11 ∧ ref0.pwmPos < 2 ^ 3) ∧
    (hist0.contrib < 2 ^ 8 ∧ hist0.tot.length = 8 ∧ hist0.nm.length = 64 ∧ hist0.s.length = 64 ∧
      (∀ x ∈ hist0.tot, x.1 < 2 ^ 11 ∧ x.2 < 2 ^ 11) ∧ (∀ x ∈ hist0.nm, x < 2 ^ 11) ∧ (∀ x ∈ hist0.s, x < 2 ^ 11)) ∧
    (thr0.mode < 4 ∧ thr0.thHi < 2 ^ 16 ∧ thr0.tot < 2 ^ 11) := by decide +kernel

theorem witness_ChainCommandsComplete_role :
    (inMaint merging).accepts Op.tribSetRole (pk [0]) ∧ merging.chain.roleWait = none ∧ merging.chain.role = .head ∧
    merging.chain.rounds.length = 1 := by decide +kernel

theorem witness_ChainCommandsComplete :
    ((inMaint lit).accepts Op.tribSetRole (pk [0]) ∧ lit.chain.roleWait = none ∧ lit.chain.rounds = [] ∧
      (inMaint lit).accepts Op.tribSetRole (pk [0x80001]) ∧ field 0x80001 0 2 = 1 ∧ field 0x80001 8 3 = 0 ∧ field 0x80001 16 4 = 8 ∧
      field 0x20001 16 4 = 2 ∧ (inMaint lit).accepts Op.tribSetRole (pk [0x102]) ∧ field 0x102 0 2 = 2 ∧ field 0x102 8 3 ≠ 0) ∧
    (head.accepts Op.tribForm (pk [6]) ∧ head.chain.role = .head ∧ head.chain.form = none ∧
      ∀ q, q < 8 → (6 : Nat).testBit q = true → q < head.chain.ndev) ∧
    (let s := { head with chain := { head.chain with form := some ⟨pk [6], 0, 6, 0⟩, admitting := some ⟨pk [2], 0, 4, 0⟩ } }
     s.chain.form = some ⟨pk [6], 0, 6, 0⟩ ∧ s.past 0 (msTicks 1) = true ∧ s.chain.admitting = some ⟨pk [2], 0, 4, 0⟩) ∧
    (let s := { head with chain := { head.chain with live := 1, members := [(2, { Member.reset with req := true })] } }
     s.accepts Op.tribAdmit (pk [2]) ∧ s.chain.role = .head ∧ 0 < field 2 0 3 ∧ field 2 0 3 < s.chain.ndev ∧
      s.chain.live.testBit 2 = false ∧ (s.member 2).req = true ∧ (s.member 1).req = false ∧ s.chain.live.testBit 1 = false ∧
      s.chain.admitting = none) ∧
    (head.accepts Op.tribExpel (pk [1]) ∧ head.chain.live.testBit 1 = true) ∧
    (linear.accepts Op.tribRing (pk []) ∧ linear.chain.linear = true ∧ linear.breakPortUp linear.chain.brk 0 = true ∧
      linear.breakPortUp ((linear.chain.brk + 1) % linear.chain.ndev) 1 = true) ∧
    lit.accepts Op.tribStats (pkPtr 2 [0x10001]) := by decide +kernel

theorem witness_ChainTimersComplete :
    ((head.port 0).up = true ∧ (lit.port 0).up = false ∧ lit.clk.running = true ∧ lit.clk.lost = false ∧
      ({ lit.clk with lost := true } : Clocks).lost = true) ∧
    (head.headSends = true ∧ head.past head.chain.syncAt (usTicks (head.fld Reg.tribCfg 8 6)) = true ∧ head.chain.linear = false ∧
      head.portUsed 0 = true ∧ head.past head.chain.noticeAt (msTicks 1) = true) ∧
    (member.chain.role = .member ∧ member.portsActive = true ∧ (member.port 1).up = true ∧
      member.past (member.port 1).reqAt (msTicks 1) = true) ∧
    (member.chain.mstate = .joined ∧ member.past member.chain.fsumAt (usTicks member.chain.cyc) = true ∧
      member.portUsed member.homePort = true ∧
      ({ member with pwr := { member.pwr with phase := .saved } } : State).fsumWatch ≠ member.chain.fsumKey) ∧
    ((memberAs .listen).saved = false ∧ (memberAs .listen).chain.mstate = .listen ∧
      (memberAs .listen).past (memberAs .listen).chain.joinAt (usTicks 100) = true) ∧
    (member.past member.chain.syncAt (usTicks 100) = true ∧ member.past member.chain.contactAt (usTicks (3 * member.chain.cyc)) = true) ∧
    (head.chain.role = .head ∧ head.past head.chain.cycleAt (usTicks (head.fld Reg.tribCfg 16 12)) = true) ∧
    (let s := { merging with clk := { merging.clk with ticks := 10 ^ 9 + 10 ^ 6 } }
     Tab.get (fun _ => none) s.chain.rounds 0 = some headRound ∧ s.behind 0 headRound = false ∧
      100 * headRound.sent + (30 * headRound.hops + 100) * 64 ≤ 100 * s.mono) ∧
    (let s := { merging with chain := { merging.chain with rounds := [(0, some headRound), (7, some headRound)] } }
     Tab.get (fun _ => none) s.chain.rounds 7 = some headRound ∧ Tab.get (fun _ => none) s.chain.rounds 0 = some headRound ∧
       headRound.waiting ≠ []) := by decide +kernel

/-- Frames as the witnesses use them. -/
def refF : TribFrame := frame 1 0 0 [refBlock ref0]
def histF : TribFrame := frame 2 0 0 (histBlocks 0 hist0)
def thrF : TribFrame := frame 3 0 0 (thrBlocks 0 thr0)
def syncF (t : Nat) : TribFrame := frame 4 0 0 [BitVec.ofNat 64 t, 0]
def noticeF (live ndev : Nat) : TribFrame := frame 6 0 0 [BitVec.ofNat 64 (live + 256 * ndev), 0]

/-- A sealed frame is good to a device that hears its port, whatever it carries (R212); the CRC-32 is not worked out. -/
theorem sealed_good (s : State) (p : Fin 2) (type src kind : Nat) (data : List (BitVec 64))
    (h : let f := frame type src kind data
         (!s.portsActive || s.chain.role == .solo || !(s.port p).up) = false ∧
         ((s.port p).wiring && !(fType f == 4 && fKind f != 0)) = false ∧ (f.data.length == fLen f) = true ∧ hcrcOk f = true ∧
         ¬ (fType f = 0 ∨ fType f > 6) ∧ (fType f != 6 && !s.epochOk f) = false ∧
         (s.chain.role == .head && fType f != 6 && !s.chain.live.testBit (fSrc f)) = false ∧ s.injected (0x40 + p) 0 = false) :
    (s.judgeFrame p (frame type src kind data)).1 = .good := by
  obtain ⟨h1, h2, h3, h4, h5, h6, h7, h8⟩ := h
  have hc : ((frame type src kind data).crc == crcOf (frame type src kind data)) = true := beq_self_eq_true _
  have h5' : (fType (frame type src kind data) = 0 || fType (frame type src kind data) > 6) = false := by simpa using h5
  have hs : s.countStray p (frame type src kind data) = s := rfl
  have hi : ((frame type src kind data).strayIn != 0) = false := rfl
  simp only [State.judgeFrame, State.judgeHeard, hs, hi, h1, h2, h3, h4, h5', h6, h7, h8, hc]
  simp

theorem witness_ChainFramesTaken_hist :
    ((inRound false).judgeFrame ((1 : Fin 2) : Nat) histF).1 = .good ∧ (merging.judgeFrame ((1 : Fin 2) : Nat) histF).1 = .good ∧
    (mergingLinear.judgeFrame ((0 : Fin 2) : Nat) histF).1 = .good :=
  ⟨sealed_good _ 1 _ _ _ _ (by decide +kernel), sealed_good _ 1 _ _ _ _ (by decide +kernel), sealed_good _ 0 _ _ _ _ (by decide +kernel)⟩

theorem witness_ChainFramesTaken_rounds :
    ((member.judgeFrame 1 refF).1 = .good ∧ member.chain.role = .member ∧ member.turnsBack refF = false ∧ member.portUsed 0 = true ∧
      ¬ (fType refF = 4 ∧ fKind refF ≠ 0)) ∧
    (member.chain.mstate = .joined ∧ fType refF = 1 ∧ fLeg refF = false ∧ fLen refF = 1 ∧ refOf (fBlock refF 0) = ref0 ∧
      member.spans ref0.arm = true ∧
      (((member.countStray 1 refF).noteRef refF).contact refF).verdict 0 2 true = .taken) ∧
    (fType histF = 2 ∧ fBr histF = false ∧ fLeg histF = false ∧ (inRound false).chain.linear = false ∧
      (part0 false).contributed = false ∧ (part0 false).serial = (inRound false).chain.refs ∧
        Tab.get (fun _ => none) (inRound false).chain.parts (fBlock histF 0 % 8) = some (part0 false)) ∧
    (((inRound true).judgeFrame 1 thrF).1 = .good ∧ fType thrF = 3 ∧ (part0 true).ref.arm = fBlock thrF 0 % 8 ∧
      (part0 true).contributed = true ∧ (part0 true).husked = false ∧ (thrOf thrF).stale.testBit 1 = false ∧
      Tab.get (fun _ => none) (inRound true).chain.parts (fBlock thrF 0 % 8) = some (part0 true)) := by decide +kernel

theorem witness_ChainFramesTaken_members :
    (let s := { member with chain := { member.chain with joining := true, mstate := .listen } }
     (s.judgeFrame 1 (syncF 0)).1 = .good ∧ fType (syncF 0) = 4 ∧ fKind (syncF 0) = 0 ∧ fLeg (syncF 0) = false ∧ s.chain.joining = true) ∧
    ((member.judgeFrame 1 (syncF (16 * member.now - 32))).1 = .good ∧ member.chain.joining = false ∧
      (signed 64 (unsigned 64 ((16 * member.now + 0 : Nat) - ((fBlock (syncF (16 * member.now - 32)) 0 : Int) +
        (bitsAt (fBlock (syncF (16 * member.now - 32)) 1) 0 32 : Nat) + (member.port 1).delay)))).natAbs ≤ 32) ∧
    ((member.judgeFrame 1 (frame 4 0 1 [0])).1 = .good ∧ fKind (frame 4 0 1 [0]) = 1 ∧
      ¬ (member.chain.role = .head ∧ member.saved = true)) ∧
    ((member.judgeFrame 1 (frame 4 0 2 [0, 5, 9])).1 = .good ∧ fKind (frame 4 0 2 [0, 5, 9]) = 2) ∧
    (((memberAs .alone).judgeFrame 1 (noticeF 7 3)).1 = .good ∧ fType (noticeF 7 3) = 6 ∧ fKind (noticeF 7 3) = 0 ∧
      fSrc (noticeF 7 3) = 0 ∧ (fEpoch (noticeF 7 3) + 65536 - (memberAs .alone).chain.epoch) % 65536 ≤ 32767) ∧
    (let s := { member with chain := { member.chain with epoch := 1 } }
     (s.judgeFrame 1 (noticeF 7 3)).1 = .good ∧ (fEpoch (noticeF 7 3) + 65536 - s.chain.epoch) % 65536 > 32767) ∧
    (let s := { memberAs .lost with chain := { (memberAs .lost).chain with live := 1, epoch := 65535 } }
     (s.judgeFrame 1 (noticeF 7 3)).1 = .good ∧ s.chain.mstate = .lost ∧ s.chain.live.testBit s.chain.pos = false ∧
       (bitsAt (fBlock (noticeF 7 3) 0) 0 8).testBit s.chain.pos = true ∧ fEpoch (noticeF 7 3) ≠ s.chain.epoch ∧
       (fEpoch (noticeF 7 3) + 65536 - s.chain.epoch) % 65536 ≤ 32767) := by decide +kernel

theorem witness_ChainFramesTaken_head :
    ((head.judgeFrame 1 (frame 5 2 0 [0, 0])).1 = .good ∧ head.chain.role = .head ∧ fType (frame 5 2 0 [0, 0]) = 5) ∧
    ((head.judgeFrame 1 (frame 5 2 2 [32, 0])).1 = .good ∧ fKind (frame 5 2 2 [32, 0]) = 2 ∧
      (fBlock (frame 5 2 2 [32, 0]) 0).testBit 5 = true ∧ (head.chain.linear && head.chain.brk == 2) = false) ∧
    ((head.judgeFrame 1 (frame 6 2 1 [0])).1 = .good ∧ fKind (frame 6 2 1 [0]) = 1 ∧ 0 < fSrc (frame 6 2 1 [0]) ∧
      fSrc (frame 6 2 1 [0]) < head.chain.ndev ∧ head.chain.live.testBit 2 = true) ∧
    (let s := { head with chain := { head.chain with live := 1 } }
     (s.judgeFrame 1 (frame 6 2 1 [0])).1 = .good ∧ s.chain.live.testBit 2 = false ∧ s.chain.admitting = none ∧ s.chain.form = none ∧
       (⟨pk [2], 0, 4, 0⟩ : Admission).want = 2 ^ fSrc (frame 6 2 1 [0])) ∧
    (Tab.get (fun _ => none) merging.chain.rounds (fBlock histF 0 % 8) = some headRound ∧
      0 ∈ headRound.waiting ∧ merging.behind 0 headRound = false ∧ Tab.wf (fun _ => none) merging.chain.rounds = true ∧
      ∀ x ∈ headRound.waiting, x = 0) ∧
    (∃ x ∈ ({ headRound with waiting := [0, 1] } : HeadRound).waiting, x ≠ 0) := by
  decide +kernel

/-- A deposit of template 0x05, and the state it leaves: one task READY in list 2. -/
def deposited : State := (lit.deposit .timer 0x05 7 0 9 none).getD lit

/-- A task that waits in entry 3 for slots 0 and 3, with the slots filled that `f` says. -/
def waitingTask (f : Nat) : State :=
  { lit with fab := { lit.fab with store := [(3, { Entry.reset with state := .waiting, template := 0x05, key := 7, need := 9, filled := f })] } }

/-- Engine 0 running entry 0 since time 0: once run or retried, with a packet or without. -/
def running (retried : Bool) (packet : Option Packet) : State :=
  { lit with fab := { lit.fab with
    engines := [(0, { Engine.reset 0 with task := some 0 })]
    store := [(0, { Entry.reset with state := .running, template := 0x05, budget := 100, retried := retried, packet := packet, order := 4 })] } }

theorem witness_TasksComplete :
    ((lit.deposit .timer 0x05 7 0 9 none).isSome = true ∧ templateNeed 0x05 = 1 ∧
      lit.fab.store.find? (fun e => e.2.state == .waiting && e.2.template == 0x05 && e.2.key == 7) = none ∧
      templateTable.find? (fun x => x.1 == 0x05) = some (0x05, 2, some 100, true)) ∧
    (let s := waitingTask 0
     (s.deposit .timer 0x05 7 3 9 none).isSome = true ∧
       (s.fab.store.find? (fun e => e.2.state == .waiting && e.2.template == 0x05 && e.2.key == 7)).map Prod.fst = some 3 ∧
       (s.entry 3).packet = none ∧ (s.entry 3).filled ||| 2 ^ 3 ≠ (s.entry 3).need) ∧
    ((waitingTask 1).deposit .timer 0x05 7 3 9 none).isSome = true ∧
      ((waitingTask 1).entry 3).filled ||| 2 ^ 3 = ((waitingTask 1).entry 3).need ∧
    (deposited.serving = true ∧ firstIdx 18 deposited.engineIdle = some 0 ∧ (∀ k, k < 2 → (deposited.rlist k).entries = []) ∧
      (deposited.rlist 2).entries = 0 :: []) ∧
    (((running false none).engine 0).task = some 0 ∧ ((running false none).entry 0).packet = none ∧
      (running false none).epochStands 0 = true ∧
      ((running false none).onEngine 0 (fun g => { g with epoch := 5 })).epochStands 0 = false ∧
      ((running false none).entry 0).template ≠ 0x01) ∧
    (let r : Reply := ⟨0, 7, 0, 0, 0, 1, 0, [], 0, false, []⟩
     let s := running false (some (pk []))
     let s := { s with host := { s.host with results := [(4, r)] } }
     (s.entry 0).packet = some (pk []) ∧ (s.entry 0).orphan = false ∧ r.queue ≠ 255 ∧
       s.host.results.find? (fun x => x.1 == (s.entry 0).order) = some (4, r)) ∧
    ((running false none).past ((running false none).engine 0).since (128 * ((running false none).entry 0).budget) = true ∧
      ((running false none).entry 0).retried = false ∧ ((running false none).engine 0).state = .inService ∧
      (running false none).bist.slice = none ∧ (running false none).freeSpare ((running false none).engine 0).role = some 16 ∧
      (running false none).clk.lost = false) ∧
    ((running true none).entry 0).retried = true ∧ ((running true none).engine 0).state ≠ .underTest ∧
    (let s := { lit with fab := { lit.fab with engines := [(0, { Engine.reset 0 with state := .restarting }), (1, { Engine.reset 1 with state := .dead })] } }
     (s.engine 0).state = .restarting ∧ (s.engine 1).state = .dead ∧ (s.engine 1).halted = false ∧
      s.past (s.engine 1).since (msTicks 1) = true) := by decide +kernel

/-- A timer that retries. -/
def retrying : State := { lit with fab := { lit.fab with timers := [(63, ⟨5, 7, 3, 9, true⟩)] } }

theorem witness_FabricWatchesComplete :
    (lit.serving = true ∧ (lit.deposit .timer (255 : Fin 256) 7 0 9 none) = none ∧
      (lit.deposit .timer (5 : Fin 256) 7 3 9 none).isSome = true) ∧
    (Tab.get (fun _ => FwTimer.reset) retrying.fab.timers 63 = ⟨5, 7, 3, 9, true⟩ ∧ (retrying.deposit .timer 5 7 3 9 none).isSome = true) ∧
    (let s := regs [(Reg.fabCtl, 0x10000)] deposited
     let s := { s with clk := { s.clk with time := s.clk.time + 641 } }
     (s.rlist 2).entries = 0 :: [] ∧ s.fld Reg.fabCtl 16 16 ≠ 0 ∧ (s.rlist 2).lagging = false ∧
      usTicks (s.fld Reg.fabCtl 16 16) < (s.now + 2 ^ 32 - (s.entry 0).rtime % 2 ^ 32) % 2 ^ 32) ∧
    (0x180000 % 0x400000 / 0x20000 = 12 ∧ 0x5FFFF % 0x400000 / 0x20000 = 2 ∧ lit.bist.slice = none ∧
      (regs [(Reg.fabCtl, 1)] lit).bit Reg.fabCtl 0 = true) ∧ lit.served = true ∧
    (lit.accepts Op.fabEngineStats (pk [0x10011]) ∧ field ((pk [0x10011]).word 0) 0 5 < 18 ∧ lit.accepts Op.fabEngineStats (pk [0])) ∧
    (lit.accepts (Op.fabProducerStats (field ((pkPtr 2 [0x10000]).word 0) 0 3 == 0)) (pkPtr 2 [0x10000]) ∧
      lit.accepts (Op.fabProducerStats (field ((pk [0x10005]).word 0) 0 3 == 0)) (pk [0x10005]) ∧
        field ((pk [0x10005]).word 0) 0 3 ≤ 5) := by
  decide +kernel

/-- The recorder on, with DRAM pages and stream 0 configured for lamp edges: ring of 4 PRE and 2 POST pages, quota 16. -/
def recOn : State :=
  let s := regs [(Reg.recCtl, 1), (Reg.recScfg 0, 0x10000100), (Reg.recSdep 0, 0x00020004), (Reg.recStrg 0, 0x4000), (Reg.recSquota 0, 16),
    (Reg.fabAquota 0, 64)] lit
  { s with fab := { s.fab with dram := { Dram.reset with total := 128 } } }
def onRec (x : Strm) : State := { recOn with fab := { recOn.fab with strms := [(0, x)] } }

/-- A page, a capture that holds it, and streams that are armed with page 5 open, in POST, and full. -/
def page0 : Page := ⟨5, 1, 0, none, none, [], true, false, false, 0, false⟩
def cap0 : Capture := ⟨1, 77, 14, [page0], false⟩
def armedStrm : Strm := { Strm.reset with state := .armed, source := 1, capmax := 1, pre := 4, post := 2, trg := 0x4000, quota := 16, opened := some page0 }
def fullPage : Page := { page0 with recs := List.replicate 2047 ⟨0, 0x80, 0, 0⟩ }

theorem witness_RecorderComplete :
    (recOn.accepts Op.recArm (pk [0]) ∧ recOn.noRecorder = false ∧ field ((pk [0]).word 0) 8 2 = 0 ∧ recOn.armRefused 0 = false ∧
      recOn.fld (Reg.recScfg 0) 0 2 = 0 ∧ (regs [(Reg.recScfg 0, 0x10000101)] recOn).armRefused 0 = false ∧
      (regs [(Reg.recScfg 0, 0x10000101)] recOn).fld (Reg.recScfg 0) 0 2 = 1 ∧ recOn.accepts Op.recArm (pk [0x100]) ∧
      field ((pk [0x100]).word 0) 8 2 = 1 ∧ recOn.accepts Op.recArm (pk [0x20F]) ∧ field ((pk [0x20F]).word 0) 8 2 = 2) ∧
    ((onRec armedStrm).accepts Op.recTrigger (pk [1]) ∧ (onRec armedStrm).noRecorder = false ∧
      (field ((pk [1]).word 0) 0 16).testBit 0 = true ∧
      wbit ((onRec armedStrm).strm 0).trg 14 = true ∧ ((onRec armedStrm).strm 0).state = .armed) ∧
    (recOn.served = true ∧ recOn.saved = false) := by decide +kernel

theorem witness_RecorderComplete_captures :
    (let s := onRec { armedStrm with caps := [cap0] }
     s.accepts Op.recRead (pkPtr 2 [0x100, 0, 1]) ∧ field ((pkPtr 2 [0x100, 0, 1]).word 0) 8 8 ≠ 0 ∧
      (s.strm 0).caps.find? (fun c => c.id == 1) = some cap0 ∧ linkPages cap0.pages none = page0 :: [] ∧
      ((pkPtr 2 [0x100, 0, 1]).word 2).toNat = 1 ∧ s.accepts Op.recRelease (pk [0x100]) ∧ s.accepts Op.recList (pkPtr 2 [0]) ∧
      s.opRuns Op.recRead (fun q => field (q.word 0) 0 4 == 0 && field (q.word 0) 8 8 == 1) = false ∧ (s.strm 0).state ≠ .held) ∧
    (let s := onRec { armedStrm with state := .post, postLeft := 2, curCap := some cap0, opened := some fullPage }
     (s.strm 0).writing = true ∧ (s.strm 0).pageFull = true ∧ s.pwr.phase ≠ .saved ∧ (s.strm 0).opened = some fullPage ∧
      (s.strm 0).curCap = some cap0 ∧ (s.strm 0).state = .post) ∧
    (let s := onRec { armedStrm with opened := some fullPage }
     (s.strm 0).curCap = none ∧ (s.strm 0).ring.length + 1 < (s.strm 0).ringMax ∧ (s.strm 0).state ≠ .post) ∧
    (let s := onRec { armedStrm with state := .post, postLeft := 0, curCap := some cap0 }
     (s.strm 0).state = .post ∧ (s.strm 0).postLeft = 0 ∧ (s.strm 0).curCap = some cap0) ∧
    (let s := onRec { armedStrm with gapDue := 1 }
     0 < (s.strm 0).gapDue ∧ s.pwr.phase ≠ .saved) := by decide +kernel

/-- Converter AD0 with a one-entry sequence of channel 0 staged and committed; `single`: SINGLE mode. -/
def seqRegs (single : Bool) : List (Nat × Word) :=
  [(Reg.msrCvctl 0, if single then 0x81 else 1), (Reg.msrSeqa 0, 0x80000000), (Reg.msrSeqb 0, 0x01061001)]
def conv (single : Bool) : State := regs (seqRegs single) (lives (seqRegs single) lit)

/-- Its run: of entry 0 ready for its last conversion, or waiting for a Vf capture. -/
def spec0 : RunSpec := ⟨0, 0, 0, 1, 1, 1, 6⟩
def run0 (w : Option Nat) : Run := ⟨spec0, some 0, 0, 0, 0, [], [], w, none, 0, false, 0, false⟩
def sampling (w : Option Nat) : State :=
  { conv false with msr := { Measure.reset with convs := [(0, { Conv.reset with pass := true, run := some (run0 w) })] }
                    clk := { lit.clk with ticks := 10 ^ 9 } }

theorem witness_AccumulatorHoldsSamples : ([(5, 1, 0, 0), (-3, 2, 1, 0)] : List (Int × Nat × Nat × Nat)).length < 2 ^ 32 := by decide +kernel

theorem witness_MeasurementCommandsComplete :
    ((conv false).accepts Op.msrCommit (pk [1]) ∧ field ((pk [1]).word 0) 0 4 = 2 ^ (0 : Fin 4).val ∧
      ((conv false).judgeSequence 0).1 = Status.ok) ∧
    ((conv false).served = true ∧ wbit 0x80000001 31 = true ∧ wbit 0x80000001 30 = false ∧
      ((conv false).writeReg (Reg.msrCvctl 0) 0x80000001).bit (Reg.msrCvctl 0) 8 = (conv false).bit (Reg.msrCvctl 0) 8 ∧
      (((conv false).writeReg (Reg.msrCvctl 0) 0x80000001).judgeSequence 0).1 = Status.ok ∧
      (((conv false).writeReg (Reg.msrCvctl 0) 0x80000000).judgeSequence 0).1 ≠ Status.ok) ∧
    (wbit 0x40000001 31 = false ∧ (conv true).convsRun = true ∧ ((conv true).conv 0).run = none ∧ ((conv true).conv 0).house = false ∧
      ((conv true).conv 0).houseDue = false ∧ ((conv true).conv 0).urgent = [] ∧ ((conv true).conv 0).startOver = false ∧
      entriesOf (conv true).conf 0 = (0, spec0) :: [] ∧ wbit 0x40000001 30 = true ∧ wbit ((conv true).liveReg (Reg.msrCvctl 0)) 7 = true ∧
      ((conv true).conv 0).pass = false ∧
      ((conv true).writeReg (Reg.msrCvctl 0) 0x40000001).bit (Reg.msrCvctl 0) 8 = (conv true).bit (Reg.msrCvctl 0) 8) ∧
    (wbit 0x101 8 = true ∧ wbit 0x101 30 = false ∧ entriesOf (conv false).conf 0 = (0, spec0) :: [] ∧
      wbit ((conv false).liveReg (Reg.msrCvctl 0)) 7 = false ∧ (conv false).bit (Reg.msrCvctl 0) 8 = false) := by decide +kernel

theorem witness_MeasurementCommandsComplete_urgent :
    (lit.accepts Op.msrUrgent (pk [0, 0, 0x01061001]) ∧ lit.judgeUrgent 0 (specOf 0 0x01061001) = (Status.ok, 0)) ∧
    (let s := regs [(Reg.msrUrgb 0, 0x01061001)] lit
     s.judgeUrgent 0 (specOf 0 (s.reg (Reg.msrUrgb 0))) = (Status.ok, 0)) ∧
    (let s := regs [(Reg.msrUrgb 0, 0)] lit
     (s.judgeUrgent 0 (specOf 0 (s.reg (Reg.msrUrgb 0)))).1 ≠ Status.ok) ∧
    (calPair (pk [0, 0x90, 0]) = (0, 0, 0x90) ∧ calChannel 0 0 0x90 = none ∧ (lit.conv 0).urgent.length < 8 ∧
      (inMaint lit).accepts Op.msrCalZero (pk [0, 0x90]) ∧ (inMaint lit).accepts Op.msrCalSpan (pk [0, 0x90, 1000]) ∧
        (inMaint lit).accepts Op.msrCalClear (pk [0, 0x90]) ∧
      wbit ((pk [0, 0x90]).word 0) 31 = false ∧
      ((lit.onConv 0 (fun c => { c with pendingZero := some (0x90, 0, 5) })).conv 0).pendingZero = some (0x90, 0, 5)) ∧
    (lit.accepts Op.msrStats (pkPtr 2 [0x10003]) ∧ lit.accepts Op.msrStats (pkPtr 2 [3])) := by decide +kernel

theorem witness_ConversionsComplete :
    ((sampling none).convsRun = true ∧ ((sampling none).conv 0).run = some (run0 none) ∧ (run0 none).entry.isSome = true ∧
      (run0 none).wait = none ∧ (run0 none).lead = 0 ∧ (run0 none).spec.ratio ≤ 1 ∧
      (sampling none).past (run0 none).since (16 * ((run0 none).spec.acq + 10)) = true) ∧
    0 < ({ run0 none with lead := 1 } : Run).lead ∧
    ((sampling (some 0)).conv 0).run = some (run0 (some 0)) ∧ (sampling (some 0)).past 0 (usTicks (sampling (some 0)).vfto) = true ∧
    (let s := sampling none
     (s.conv (houseAd 1)).houseDue = false ∧ s.past (s.conv (houseAd 1)).houseAt (usTicks 250) = true ∧
      s.past (s.conv (houseAd 1)).houseAt (msTicks 2) = true ∧ s.flt.causes.contains (Code.msrHouseLate, houseAd 1) = false) ∧
    (let s := (sampling none).onConv (houseAd 1) (fun c => { c with houseDue := true })
     (s.conv (houseAd 1)).houseDue = true ∧ (s.conv (houseAd 1)).run = none ∧ (s.conv (houseAd 1)).house = false) ∧
    (let s := (sampling none).onConv (houseAd 1) (fun c => { c with house := true })
     (s.conv (houseAd 1)).house = true ∧ (List.replicate 6 ((0 : BitVec 16), false)).length = (houseChans (1 : Fin 2)).length ∧
       s.past (s.conv (houseAd 1)).houseAt (16 * 26 * 6) = true) ∧
    (let s := regs [(Reg.msrCtl, 0x01000000)] (sampling none)
     s.served = true ∧ s.fld Reg.msrCtl 24 8 ≠ 0 ∧ s.past s.msr.summaryAt (msTicks (s.fld Reg.msrCtl 24 8)) = true) := by decide +kernel

/-- Input 0 filtering with TOP 10, ON 8, OFF 2; output 0 on by the host's command. -/
def filt : State :=
  let w : Word := 0x0A080201
  let s := regs [(Reg.fioFcfg 0, w)] lit
  { s with fio := { s.fio with ins := [(0, { FieldIn.reset with running := true, act := w, count := 7 })], drive := true } }
def outOn (x : FieldOut) : State := { lit with fio := { lit.fio with outs := [(0, x)] }, clk := { lit.clk with ticks := 10 ^ 9 } }
def on0 : FieldOut := { FieldOut.reset with on := true, value := true }

theorem witness_FieldCommandsComplete :
    (lit.accepts Op.fioDiag (pkPtr 2 [0x10000]) ∧ wbit ((pkPtr 2 [0x10000]).word 0) 16 = true ∧ lit.accepts Op.fioDiag (pkPtr 2 [0])) ∧
    (let s := outOn { FieldOut.reset with latchedOff := true }
     s.accepts Op.fioOutRestore (pk [1]) ∧ field ((pk [1]).word 0) 0 16 ≠ 0 ∧ s.fio.fldUv = false ∧
      ∀ k, k < 16 → (field ((pk [1]).word 0) 0 16).testBit k = true → (s.fout k).latchedOff = true ∧
        (0xFFFE : BitVec 16).getLsbD k = false) ∧
    (lit.accepts Op.fioStats (pk [31]) ∧ field ((pk [31]).word 0) 0 6 < 32 ∧ wbit ((pk [31]).word 0) 16 = false ∧
      lit.accepts Op.fioStats (pk [0x1002F]) ∧ field ((pk [0x1002F]).word 0) 0 6 < 48 ∧ 32 ≤ field ((pk [0x10020]).word 0) 0 6 ∧
      wbit ((pk [0x1002F]).word 0) 16 = true) ∧
    (let s := regs [(Reg.fioKcfg, 0x8000000A)] lit
     s.served = true ∧ s.bit Reg.fioKcfg 31 = true ∧ field 0x5A 0 8 = (if s.fio.nextA5 then 0xA5 else 0x5A) ∧
      field 0xA5 0 8 ≠ (if s.fio.nextA5 then 0xA5 else 0x5A) ∧ (s.writeReg Reg.fioKcfg 0x0A).bit Reg.fioKcfg 31 = false) ∧
    (lit.bit Reg.fioKcfg 31 = false ∧ (lit.writeReg Reg.fioKcfg 0x8000000A).bit Reg.fioKcfg 31 = true) ∧
    (filterTaken 0x0A080201 = true ∧ filterTaken 0x0A020801 = false ∧ filterTaken 0x0A080200 = true) ∧
    (wbit 0x1FF 8 = true ∧ (inMaint lit).inMaint = true ∧ (inMaint lit).served = true ∧ wbit 0xFF 8 = false) := by decide +kernel

theorem witness_FieldEventsComplete_inputs :
    (fcEn (filt.reg (Reg.fioFcfg 0)) = true ∧ (filt.fin 0).running = true ∧ (filt.fin 0).act = filt.reg (Reg.fioFcfg 0) ∧
      fcClkB (filt.reg (Reg.fioFcfg 0)) = false ∧ (filt.fin 0).state = false ∧ (filt.fin 1).running = false) ∧
    (let s := regs [(Reg.fioMcfg 0, 1)] { filt with fio := { filt.fio with ins := [(0, { FieldIn.reset with running := true, state := true })] }
                                                    clk := { lit.clk with ticks := msTicks 10 + 1 } }
     (s.fin 0).running = true ∧ (s.fin 0).state = true ∧ (s.fin 0).stuck = false ∧ s.fld (Reg.fioMcfg 0) 0 16 ≠ 0 ∧
      (s.fin 0).since + msTicks (10 * s.fld (Reg.fioMcfg 0) 0 16) < s.mono) ∧
    (let s := regs [(Reg.fioMcfg 0, 0x01010000)] filt
     (s.fin 0).running = true ∧ s.past (s.fin 0).winStart (msTicks (s.fld (Reg.fioMcfg 0) 24 8)) = true) := by decide +kernel

theorem witness_FieldEventsComplete_outputs :
    ((outOn on0).fout 0).on = true ∧
    (let s := regs [(Reg.fioOcmd, 1)] (outOn { FieldOut.reset with overload := true })
     (s.fout 0).overload = true ∧ (s.fout 0).latchedOff = false ∧ (s.fout 0).clamping = false ∧ s.fio.fldUv = false ∧ s.lowRanks 0 = true ∧
      s.past (s.fout 0).offAt (msTicks 10) = true) ∧
    (let s := outOn { FieldOut.reset with due := some 0 }
     (s.fout 0).on = false ∧ (s.fout 0).due = some 0 ∧ s.past 0 (msTicks 20) = true) ∧
    (let s := regs [(Reg.fioOcfg 0, 0x10)] (outOn .reset)
     s.bit (Reg.fioOcfg 0) 4 = true ∧ (s.fout 0).on = false ∧ (s.fout 0).shortSup = false ∧ (s.fout 0).extVolt = false ∧
      s.pwr.boot = .ready ∧ ∀ j, j < 16 → (s.fout j).onTimes = []) ∧
    (let s := { outOn .reset with fio := { (outOn .reset).fio with outs := [(1, { on0 with onTimes := [10 ^ 9 - msTicks 10] })] } }
     (s.fout 1).on = true ∧ (10 ^ 9 - msTicks 10) ∈ (s.fout 1).onTimes ∧ 10 ^ 9 - msTicks 10 + msTicks 10 ≤ s.mono) ∧
    ((outOn { FieldOut.reset with shortSup := true }).fout 0).shortSup = true ∧
    (let s := regs [(Reg.fioOcfg 0, 0x20)] (outOn on0)
     s.bit (Reg.fioOcfg 0) 5 = true ∧ (s.fout 0).on = true ∧ (s.fout 0).openLoad = false) ∧
    ((outOn { on0 with openLoad := true }).fout 0).openLoad = true ∧
    (lit.fio.fldLow = false ∧ lit.fio.fldUv = false ∧ ({ lit.fio with fldLow := true, fldUv := true } : FieldIf).fldLow = true) ∧
    (let s := regs [(Reg.fioKcfg, 0x8000000A)] (outOn .reset)
     s.bit Reg.fioKcfg 31 = true ∧ s.fio.silent = false ∧ s.past s.fio.kickAt (msTicks (s.fld Reg.fioKcfg 0 14)) = true) ∧
    (filt.pwr.boot = .ready ∧ filt.fio.drive = true) := by decide +kernel

/-- A report waiting for the collector: DIE_LINK of die 1 (device class), COMPLIANCE of string 3. -/
def rep (code inst : Nat) : Report := ⟨code, inst, none, none, 1, 2, 900000, false, false⟩
def asserting (r : Report) : State := { lit with flt := { lit.flt with asserted := [r] } }
def withCode (code : Nat) (c : CodeSt) : State := { lit with flt := { lit.flt with codes := [(code, c)] }, clk := { lit.clk with ticks := 10 ^ 11 } }
def entry0 (seq : Nat) : LogEntry := ⟨5, Code.railUv, 2, false, false, false, false, false, 1, false, false, seq, 3, none, none, 0, 0, 0⟩

theorem witness_CollectorComplete :
    ((asserting (rep Code.dieLink 1)).collects = true ∧ (asserting (rep Code.dieLink 1)).flt.asserted = [rep Code.dieLink 1] ∧
      (asserting (rep Code.dieLink 1)).flt.inj = none ∧ ((asserting (rep Code.dieLink 1)).reactionOf (rep Code.dieLink 1)).2 ≠ 0 ∧
      deviceClass Code.dieLink = true ∧ (asserting (rep Code.compliance 3)).flt.shadows = [] ∧
      ((asserting (rep Code.compliance 3)).reactionOf (rep Code.compliance 3)).2 ≠ 0) ∧
    (let s := asserting (rep Code.compliance 3)
     let s := { s with flt := { s.flt with shadows := [.stringCut 3] } }
     deviceClass Code.compliance = false ∧ s.flt.shadows.any (fun k => s.shadowCovers k (s.sampledArm (rep Code.compliance 3))) = true) ∧
    (let s := { lit with flt := { lit.flt with causes := [(Code.railUv, 0)] } }
     s.collects = true ∧ (Code.railUv, 0) ∈ s.flt.causes ∧ endsAlone Code.railUv = true ∧ (0x10000 : Nat) ≤ wireInst 0) ∧
    (let s := lit.onFlt (fun f => { f with suspects := [(Code.railUv, 5)], suspectAt := lit.cclk - 1 })
     s.collects = true ∧ s.flt.asserted = [] ∧ s.flt.inj = none ∧ s.flt.shadows = [] ∧ (codeRow Code.railUv).isSome = true ∧
       s.cclk = s.flt.suspectAt + 1 ∧ (Code.railUv, 5) ∈ s.flt.suspects ∧ (Code.railUv, wireInst 5) ∉ s.flt.causes ∧
       (s.reactionOf ⟨Code.railUv, 0xFFFF, none, none, word 5, 0, s.now, true, false⟩).2 ≠ 0) ∧
    (lit.flt.asserted = [] ∧ lit.cclk ≠ lit.flt.suspectAt + 1) ∧
    (let s := withCode Code.railUv { CodeSt.reset with state := .quiet }
     s.collects = true ∧ (codeRow Code.railUv).isSome = true ∧ (s.code Code.railUv).state = .quiet ∧
      s.past (s.code Code.railUv).quietAt (msTicks (s.fld (Reg.fltCcfg1 (idxOfCode Code.railUv)) 0 16)) = true ∧
      (∀ r ∈ s.flt.asserted, r.code ≠ Code.railUv) ∧ s.windowRuns Code.railUv = false) ∧
    (let s := withCode Code.railUv { CodeSt.reset with state := .quiet, escStart := some (10 ^ 11), escCount := 200 }
     s.fld (Reg.fltCcfg1 (idxOfCode Code.railUv)) 16 8 ≠ 0 ∧ s.windowRuns Code.railUv = true ∧
      s.fld (Reg.fltCcfg1 (idxOfCode Code.railUv)) 16 8 ≤ (s.code Code.railUv).escCount) ∧
    (let s := withCode Code.railUv { CodeSt.reset with escStart := some 0 }
     (s.code Code.railUv).escStart.isSome = true ∧ s.windowRuns Code.railUv = false) ∧
    (let s := { lit with flt := { lit.flt with shadows := [.retirement 0], reinit := [(.retirement 0, 0)] } }
     s.flt.shadows[0]? = some (.retirement 0) ∧ s.collects = true ∧ s.shadowOver (.retirement 0) = true) := by decide +kernel

/-- A device in MAINT and SERVICE. -/
def service : State := { inMaint lit with bist := { lit.bist with lcs := 3 } }

theorem witness_FaultCommandsComplete_clears :
    (let s := { withCode Code.fltPin { CodeSt.reset with state := .latched } with fio := { lit.fio with pinBad := true } }
     s.accepts Op.fltClear (pk [word Code.fltPin]) ∧ wbit ((pk [word Code.fltPin]).word 0) 16 = false ∧
       field ((pk [word Code.fltPin]).word 0) 0 16 = Code.fltPin ∧ s.fio.pinBad = true ∧ s.held Code.fltPin = true ∧ s.flt.causes = [] ∧
       s.flt.asserted = []) ∧
    (lit.accepts Op.fltClear (pk [0x10000]) ∧ wbit ((pk [0x10000]).word 0) 16 = true ∧ lit.fio.pinBad = false ∧ lit.flt.causes = [] ∧
      lit.flt.asserted = []) ∧
    (let p := pkPtr 2 [0, 1, 1]
     lit.accepts Op.fltLogRead p ∧ 1 ≤ (p.word 2).toNat ∧ (logFrom (lit.flt.log.reverse) (field (p.word 1) 0 16)).length = 0) := by decide +kernel

theorem witness_FaultCommandsComplete :
    (let s := withCode Code.railUv { CodeSt.reset with state := .latched }
     let u := { s with flt := { s.flt with causes := [(Code.railUv, 0)] } }
     s.accepts Op.fltClear (pk [0x4001]) ∧ wbit ((pk [0x4001]).word 0) 16 = false ∧ field ((pk [0x4001]).word 0) 0 16 = Code.railUv ∧
      (codeRow Code.railUv).isSome = true ∧ Code.railUv ≠ Code.fltPin ∧ s.held Code.railUv = true ∧ s.causeNow Code.railUv = false ∧
      u.accepts Op.fltClear (pk [0x4001]) ∧ u.held Code.railUv = true ∧ u.causeNow Code.railUv = true) ∧
    (let s := { lit with flt := { lit.flt with log := [entry0 2, entry0 1] } }
     let p := pkPtr 2 [0, 1, 256]
     s.accepts Op.fltLogRead p ∧ 1 ≤ (p.word 2).toNat ∧ (p.word 2).toNat ≤ 256 ∧
      ((logFrom (s.flt.log.reverse) (field (p.word 1) 0 16)).take 256).head? = some (entry0 1) ∧
      ((logFrom (s.flt.log.reverse) (field (p.word 1) 0 16)).take 256).getLast? = some (entry0 2)) ∧
    (service.accepts Op.fltInject (pk [0x10000, 0]) ∧ service.inMaint = true ∧ service.lcs = 3 ∧ service.flt.inj = none ∧
      injectable 0 0 0 = true ∧ field 0x10000 16 8 ≠ 0) ∧
    (lit.accepts Op.fltCodeStats (pkPtr 2 [0x14001]) ∧ (codeRow (field ((pkPtr 2 [0x14001]).word 0) 0 16)).isSome = true) ∧
    (lit.served = true ∧ lit.saved = false ∧ wbit 0x100 8 = true) := by decide +kernel

/-- Riffle running in MAINT, its slot long past. -/
def riffle : State := { inMaint (regs [(Reg.bistCtl, 0x00010F01)] lit) with clk := { lit.clk with ticks := 10 ^ 10 } }
def slice0 (ph : RifPhase) : Slice := ⟨0, ph, false, some 16, none, false, false, false, false, 0, 0, true, true, 0⟩
def slicing (x : Slice) : State := { riffle with bist := { riffle.bist with slice := some x } }
def judged (x : Slice) : State := { riffle with bist := { riffle.bist with judging := [x] } }

theorem witness_RiffleSlicesComplete :
    (riffle.accepts Op.bistSliceNow (pk [0x1FF]) ∧ (blkOf (field ((pk [0x1FF]).word 0) 0 9)).any Blk.sliced = true ∧
      riffle.bist.now = none ∧
      riffle.lcs = 2 ∧ riffle.canSlice 0x1FF = true ∧ riffle.bist.full = .off) ∧
    (let s := { riffle with bist := { riffle.bist with now := some (0, pk [0]) } }
     s.riffleRuns = true ∧ s.past s.bist.slotAt s.slotTicks = true ∧ s.bist.slice = none ∧ s.bist.now = some (0, pk [0]) ∧
      s.canSlice 0 = true) ∧
    ((slicing (slice0 .prepare)).served = true ∧ (slicing (slice0 .prepare)).bist.slice = some (slice0 .prepare) ∧
      (slice0 .prepare).direct = false ∧ blkOf 0 = some (.engine 0) ∧ (slice0 .prepare).standIn = some 16 ∧ (16 : Nat) ≠ 0 ∧
      (slicing (slice0 .prepare)).mayMove (slice0 .prepare) 16 = true) ∧
    ((slicing (slice0 .test)).tested (slice0 .test) = true ∧ (slicing (slice0 .reinit)).bist.slice = some (slice0 .reinit) ∧
      (slice0 .reinit).aborted = false ∧ ((slicing (slice0 .reinit)).engine 16).task = none ∧
      (((slicing (slice0 .reinit)).onEngine 16 (fun g => { g with state := .standin })).engine 16).state = .standin) ∧
    ((judged (slice0 .reinit)).served = true ∧ (judged (slice0 .reinit)).bist.judging = slice0 .reinit :: [] ∧
      (slice0 .reinit).round1 = true ∧ (slice0 .reinit).round3 = true ∧ (slice0 .reinit).block < 512) ∧
    ({ slice0 .reinit with isVoid := true } : Slice).verdict = .void ∧ (slice0 .reinit).unusable = false := by decide +kernel

theorem witness_RiffleSlicesComplete_pass :
    ({ slice0 .reinit with count := Config.goldenCount 0, misr := Config.goldenMisr 0 } : Slice).verdict = .pass := by
  simp [Slice.verdict, slice0, blkOf, Blk.cls]

/-- Life-cycle states in MAINT: MANUFACTURE and SERVICE; a challenge open. -/
def lcsState (n : Nat) : State := { inMaint ready with bist := { ready.bist with lcs := n } }
def challenged : State := { lcsState 2 with bist := { (lcsState 2).bist with nonce := some 99 }, clk := { lit.clk with ticks := 10 ^ 12 } }

theorem witness_LifeCycleComplete :
    ((lcsState 3).accepts Op.bistFull (pk [0xB157]) ∧ (lcsState 3).lcs = 3 ∧ (lcsState 3).chain.role = .solo ∧
      (∀ i, i < 128 → ((lcsState 3).str i).state = .disabled) ∧ field ((pk [0xB157]).word 0) 0 16 = 0xB157) ∧
    (({ ready.bist with full := .accepted } : Bist).full = .accepted ∧ ready.replyDue Op.bistFull = false ∧
      ({ ready.bist with full := .running } : Bist).full = .running) ∧
    (ready.accepts Op.bistResults (pkPtr 2 [0x10000]) ∧ wbit ((pkPtr 2 [0x10000]).word 0) 16 = true ∧
      ready.accepts Op.bistResults (pkPtr 2 [0])) ∧
    (lit.accepts Op.bistLcsChallenge (pk []) ∧ lit.bist.lockAt = none) ∧
    (challenged.accepts Op.bistLcsToken (pk [1]) ∧ challenged.bist.nonce.isSome = true) ∧
    ((lcsState 1).accepts (Op.bistLcsSet ((lcsState 1).lcs == 3 && field ((pk [2]).word 0) 0 3 == 2)) (pk [2]) ∧
      field ((pk [2]).word 0) 0 3 ≤ 4 ∧ lcsPair (lcsState 1).lcs 2 = some false ∧ ¬ ((lcsState 1).lcs = 0 ∧
        (lcsState 1).unprogrammed = true)) ∧
    (challenged.accepts (Op.bistLcsSet (challenged.lcs == 3 && field ((pk [3]).word 0) 0 3 == 2)) (pk [3]) ∧
      lcsPair challenged.lcs 3 = some true ∧ challenged.tokenOk 3 = false) ∧
    (({ ready.bist with retireDue := true } : Bist).retireDue = true) ∧
    challenged.past challenged.bist.nonceAt (msTicks 600000) = true ∧
    (let s := { challenged with bist := { challenged.bist with lockAt := some 0 } }
     s.bist.lockAt = some 0 ∧ s.past 0 (msTicks 60000) = true) := by decide +kernel

/-- A package of four one-byte parts of types 1, 2, 3 and 5, with SVN 0 for stepping A0: manifest of 512 bytes, deltas every 32 bytes. -/
def partEntry (i type : Nat) : List Byte :=
  [BitVec.ofNat 8 type, 0, 0, 0] ++ leBytes 4 1 ++ leBytes 4 (512 + 32 * i) ++ leBytes 4 21 ++ List.replicate 80 0
def delta1 (b : Byte) : List Byte := leBytes 4 0x444D4C52 ++ leBytes 4 1 ++ leBytes 4 0 ++ leBytes 4 0 ++ [0x02, 1, 0, b, 0x00]
def manifest1 : List Byte :=
  leBytes 4 0x46534D5A ++ leBytes 2 1 ++ leBytes 2 0 ++ leBytes 4 7 ++ leBytes 2 0 ++ leBytes 2 4 ++ leBytes 2 2 ++ leBytes 2 1 ++
    leBytes 2 2 ++ leBytes 2 2 ++ List.replicate 40 0 ++ partEntry 0 1 ++ partEntry 1 2 ++ partEntry 2 3 ++ partEntry 3 5 ++ List.replicate 64 0
def package1 : List Byte := manifest1 ++ (([0, 1, 2, 3] : List Byte).flatMap (fun b => delta1 b ++ List.replicate 11 0))

/-- An image with no parts whose manifest names stepping A0 only, unsigned. -/
def image0 : Image := ⟨List.replicate 22 0 ++ [2, 0], []⟩

/-- A device in MAINT that runs image A, in MANUFACTURE with no update key, with DRAM, at a stage of the update. -/
def upd (g : Stage) (f : Update → Update) : State :=
  let s := inMaint ready
  { s with
    upd := f { Update.reset with stage := g }
    fab := { s.fab with dram := { Dram.reset with total := 8192 } }
    regs := (regs [(Reg.fabAquota 1, 4096)] s).regs
    bist := { s.bist with lcs := 0 }
    otp := { s.otp with updateKey := none }
    clk := { s.clk with ticks := 10 ^ 13 } }
def downloaded : State := upd .downloaded (fun u => { u with plen := package1.length, chunks := [(0, package1)] })
def bootRec1 : BootRec := { BootRec.default with b := ⟨.previous, true, 0, 0⟩ }

theorem witness_DeltasAndSettingsRoundTrip :
    applyDelta false (delta1 9) [] 1 = some [9] ∧ (0 < ([9] : List Byte).length ∧ 65535 < 65536) ∧
    ∀ r ∈ ([(65535, [5])] : List (Nat × List Word)), r.1 < 65536 ∧ 4 * r.2.length < 65536 := by decide +kernel

theorem witness_UpdateCommandsComplete_download :
    (let s := upd .idle id
     s.inSeed = false ∧ s.accepts Op.updBegin (pk [64]) ∧ s.upd.stage = .idle ∧ s.fab.dram.total ≠ 0 ∧ 64 ≤ ((pk [64]).word 0).toNat ∧
      ((pk [268435456]).word 0).toNat ≤ 268435456 ∧ ceilDiv ((pk [64]).word 0).toNat 65536 ≤ s.fld (Reg.fabAquota 1) 0 17 ∧
      (s.takeStaging (ceilDiv ((pk [64]).word 0).toNat 65536)).isSome = true) ∧
    (let s := upd .download (fun u => { u with plen := 4097 })
     let p := pkPtr 0 [1, 1, word (crc32 [0])]
     s.accepts Op.updChunk p ∧ s.upd.stage = .download ∧ p.hasPtr = true ∧ field (p.word 0) 0 16 < chunkCount s.upd.plen ∧
      field (p.word 1) 0 13 = chunkLen s.upd.plen (field (p.word 0) 0 16) ∧
      crc32 (s.dmaRead p.ptr.toNat (field (p.word 1) 0 13)) = (p.word 2).toNat) ∧
    (let s := upd .idle id
     let s := { s with pwr := { s.pwr with boot := .seed } }
     s.inSeed = true ∧ s.accepts Op.updBegin (pk [64, 1]) ∧ s.upd.stage = .idle ∧ field ((pk [64, 1]).word 1) 0 1 = 1) ∧
    (let s := upd .downloaded (fun u => { u with plen := 64, chunks := [(0, List.replicate 64 0)] })
     s.accepts Op.updApply (pk []) ∧ s.upd.stage = .downloaded ∧
      (s.applyFault s.upd.package s.upd.plen s.inactive s.activeImage false).isSome = true) := by decide +kernel

/-- A chunk of 64 zero bytes in two pieces: the packet of the piece at `off`. -/
def piece (off : Word) : Packet := pk [0, 64, word (crc32 (List.replicate 64 0)), off]

theorem witness_UpdateCommandsComplete_pieces :
    let s := upd .download (fun u => { u with plen := 64 })
    let x (u : Update) (p : Packet) := u.piecesWith 0 64 (p.word 2).toNat (field (p.word 3) 0 12) ((p.params.drop 16).take (p.len.toNat - 16))
    s.accepts Op.updChunk (piece 0) ∧ s.upd.stage = .download ∧ (piece 0).hasPtr = false ∧ field ((piece 0).word 0) 0 16 < chunkCount 64 ∧
    field ((piece 0).word 1) 0 13 = chunkLen 64 0 ∧ 16 < (piece 0).len.toNat ∧ 32 + ((piece 32).len.toNat - 16) ≤ 64 ∧
    (x s.upd (piece 0)).whole = false ∧
    (let u := { s.upd with pieces := [x s.upd (piece 0)] }
     (x u (piece 32)).whole = true ∧ crc32 (x u (piece 32)).bytes = ((piece 32).word 2).toNat) := by decide +kernel

theorem witness_UpdateCommandsComplete_apply :
    downloaded.accepts Op.updApply (pk []) ∧ downloaded.upd.stage = .downloaded ∧
    downloaded.applyFault downloaded.upd.package downloaded.upd.plen downloaded.inactive downloaded.activeImage false = none := by
  refine ⟨by decide +kernel, by decide +kernel, ?_⟩
  have h1 : manifestOk downloaded.upd.package downloaded.upd.plen false = true := by decide +kernel
  have h2 : (mfSteps downloaded.upd.package).testBit downloaded.otp.step = true := by decide +kernel
  have h3 : ¬ mfSvn downloaded.upd.package < downloaded.bootRec.svnMin := by decide +kernel
  have hs : ((mfEntries downloaded.upd.package).map (fun e => 4096 * ceilDiv (ptTlen e) 4096)).sum = 16384 := by decide +kernel
  have h4 : partsFit downloaded.upd.package downloaded.inactive = true := by
    simp only [partsFit, hs, decide_eq_true_eq]
    omega
  have h5 : basesOk downloaded.upd.package downloaded.activeImage = true := by decide +kernel
  simp [State.applyFault, h1, h2, h3, h4, h5]

theorem witness_UpdateCommandsComplete_applyDone :
    (let s := { downloaded with upd := { downloaded.upd with stage := .apply, op := some (pk []) } }
     s.upd.stage = .apply ∧ s.serving = true ∧ s.upd.op = some (pk []) ∧ (buildImage s.upd.package s.activeImage).isSome = true) ∧
    (let bad := manifest1 ++ (([0, 1, 2, 3] : List Byte).flatMap (fun b => (delta1 b).map (fun x => if x = 2 then 7 else x) ++ List.replicate 11 0))
     let s := upd .apply (fun u => { u with plen := bad.length, chunks := [(0, bad)], op := some (pk []) })
     s.serving = true ∧ (buildImage s.upd.package s.activeImage).isNone = true) := by decide +kernel

theorem witness_UpdateCommandsComplete_activate :
    ((upd .applied id).accepts Op.updVerify (pk []) ∧ (upd .applied id).upd.stage = .applied) ∧
    (let s := upd .verify (fun u => { u with op := some (pk []), devB := ⟨some image0, none, none⟩ })
     s.upd.stage = .verify ∧ s.serving = true ∧ s.upd.op = some (pk []) ∧ (s.dev s.inactive).image = some image0 ∧
       s.verifyFault image0 = none) ∧
    (let s := upd .verify (fun u => { u with op := some (pk []), devB := ⟨some image0, none, none⟩, mram := some { bootRec1 with svnMin := 1 } })
     (s.dev s.inactive).image = some image0 ∧ (s.verifyFault image0).isSome = true) := by decide +kernel

theorem witness_UpdateCommandsComplete_confirm :
    ((upd .verified id).accepts Op.updActivate (pk []) ∧ (upd .verified id).upd.stage = .verified) ∧
    (let s := upd .trial (fun u => { u with window := some (10 ^ 13), mram := some { bootRec1 with trial := true, window := 10 } })
     s.accepts Op.updConfirm (pk []) ∧ s.upd.stage = .trial ∧ s.windowEnded = false ∧ s.upd.migr ≠ 4 ∧ s.upd.run < 2) ∧
    ((upd .download id).accepts Op.updAbort (pk []) ∧ (upd .applied id).accepts Op.updAbort (pk []) ∧
      (upd .activated id).accepts Op.updAbort (pk [])) ∧
    (let s := upd .idle (fun u => { u with mram := some bootRec1, devB := ⟨some image0, none, none⟩ })
     s.accepts Op.updRevert (pk []) ∧ s.upd.run < 2 ∧ (s.bootRec.slot (1 - s.upd.run)).state = .previous ∧
       s.imageOk (1 - s.upd.run) = true) ∧
    ((upd .idle id).accepts Op.updSettingsSave (pk [1]) ∧ (upd .idle id).updRuns = false ∧ (upd .idle id).upd.run < 2 ∧
      (upd .idle id).accepts Op.updSettingsRead (pkPtr 2 [0]) ∧ ((upd .idle id).dev 0).settings = none) ∧
    (let s := upd .idle (fun u => { u with devA := ⟨none, some ⟨1, false, 1, 0, []⟩, none⟩ })
     s.accepts Op.updSettingsRead (pkPtr 2 [0]) ∧ (s.dev s.upd.run).settings = some ⟨1, false, 1, 0, []⟩) ∧
    (let s := upd .trial (fun u => { u with window := some 0, mram := some { bootRec1 with trial := true, window := 10 } })
     s.upd.window = some 0 ∧ s.served = true ∧ s.upd.warned = false ∧ s.past 0 (secTicks (60 * (s.bootRec.window - 1))) = true ∧
      s.past 0 (secTicks (60 * s.bootRec.window)) = true ∧ s.upd.nofb = false) := by decide +kernel

/-- A device in the phases of a sag: just crossed, saving since t0 long ago, saved with VIN back. -/
def phase (ph : Phase) (f : Power → Power) : State :=
  { lit with pwr := f { lit.pwr with phase := ph }, clk := { lit.clk with ticks := 10 ^ 9, wall := 10 ^ 9 } }

theorem witness_SagSequenceComplete_save :
    (lit.bist.full ≠ .running ∧ lit.pwr.boot = .ready ∧ lit.pwr.phase = .normal) ∧ (phase .qualify id).pwr.phase = .qualify ∧
    ((phase .qualify id).pastWall (phase .qualify id).pwr.vinAt (usTicks 10) = true ∧
      (phase .qualify (fun p => { p with vinAt := 10 ^ 9 - 6399 })).pastWall (10 ^ 9 - 6399) (usTicks 10) = false) ∧ lit.upd.todo = [] ∧
    ((phase .save id).pwr.phase = .save ∧ (phase .save id).pastWall (phase .save id).pwr.sagMono (usTicks 100) = true ∧
      (phase .save id).pastWall (phase .save id).pwr.sagMono (usTicks 5) = true ∧ (phase .save id).pwr.saveTest = none) ∧
    (let s := phase .save (fun p => { p with railsHeld := true, swept := true })
     s.pwr.phase = .save ∧ s.pwr.railsHeld = true ∧ s.pwr.swept = true ∧ (s.onFlt (fun f => { f with unposted := [entry0 7] })).flt.unposted ≠ []) ∧
    (let s := phase .saved (fun p => { p with vinok := false, boost := false })
     s.saved = true ∧ s.pwr.vinok = false ∧ s.pwr.boost = false ∧ s.pwr.phase = .saved) ∧
    (let s := phase .saved (fun p => { p with railsHeld := true })
     s.accepts Op.pwrWarmRestart (pk []) ∧ s.pwr.phase = .saved ∧ s.pwr.vinok = true ∧ s.pwr.good = 31) ∧
    ((inMaint ready).accepts Op.pwrSaveTest (pk [0x5A7E]) ∧ field ((pk [0x5A7E]).word 0) 0 16 = 0x5A7E ∧
      ∀ i, i < 128 → ((inMaint ready).str i).state = .disabled) ∧
    (ready.accepts Op.pwrKeepRead (pkPtr 2 []) ∧ ready.accepts Op.pwrStats (pkPtr 2 [0x10000]) ∧
      wbit ((pkPtr 2 [0x10000]).word 0) 16 = true ∧ ready.accepts Op.pwrStats (pkPtr 2 [0])) := by decide +kernel

theorem witness_SagSequenceComplete_hold :
    ((phase .normal id).pwr.phase ≠ .qualify ∧ (phase .normal id).pastWall (phase .normal id).pwr.vinAt (msTicks 10) = true ∧
      (phase .normal id).pwr.holdok ≠ false ∧ (phase .normal id).pwr.boot ≠ .inReset) ∧
    (let s := phase .normal (fun p => { p with holdArmed := true })
     s.pwr.boot ≠ .inReset ∧ s.pwr.holdArmed = true ∧ ({ s.pwr with holdok := false } : Power).holdok = false ∧ s.pwr.holdLow = false ∧
       s.saved = false) ∧
    (phase .normal (fun p => { p with holdLow := true })).pwr.holdLow = true := by decide +kernel

/-- A device in the enable sequence, and one whose clocks have just locked. -/
def seq (n : Nat) : State := { State.reset with pwr := { Power.reset with seqNext := n }, clk := { Clocks.reset with wall := 10 ^ 9 } }
def booting (f : Otp → Otp) : State :=
  { State.reset with
    pwr := { Power.reset with boot := .booting, seqNext := 5, good := 31 }
    clk := { Clocks.reset with running := true }
    otp := f Otp.reset
    bist := { State.reset.bist with lcs := (f Otp.reset).lcs } }
def obs : BootObs := ⟨[], false, [], false, [], [], 16384⟩

theorem witness_SagSequenceComplete_boot : (booting id).pwr.boot = .booting ∧ (booting id).bist.full ≠ .running := by decide +kernel

theorem witness_ResetsAndBootComplete :
    ((seq 5).pwr.seqNext = 5 ∧ (lit.pwr.seqNext = 5 ∧ lit.pwr.boot ≠ .inReset ∧ lit.causePresent Code.pgFault = false)) ∧
    ((seq 4).pwr.boot = .inReset ∧ (seq 4).pwr.seqNext ≤ 4 ∧ (seq 4).pwr.hotDown = false ∧ (seq 4).pastWall (seq 4).pwr.seqFrom 0 = true ∧
      (seq 4).fld Reg.pwrReset 8 3 ≠ ResetCause.holdEnd.code) ∧
    (1 ≤ (seq 5).pwr.seqNext ∧ (seq 5).pwr.seqNext ≤ 5 ∧ (seq 5).pwr.good ≠ 31 ∧
      (seq 5).pastWall (seq 5).pwr.seqFrom (usTicks 9800) = true) ∧
    ((seq 6).pwr.seqNext = 6 ∧ (seq 6).pastWall (seq 6).pwr.seqFrom 0 = true) ∧
    ((seq 5).pwr.boot = .inReset ∧ (seq 5).pwr.hotDown = false ∧ (seq 5).bist.full ≠ .running) ∧
    ((booting (fun o => { o with lcs := 4 })).pwr.boot = .booting ∧ (booting id).clk.running = true ∧ (booting id).clk.lost = false ∧
      (booting (fun o => { o with lcs := 4 })).lcs = 4) ∧
    (let s := booting (fun o => { o with grade := 0 })
     s.lcs ≠ 4 ∧ ((s.readStores obs).trainDram obs.dramPages).seedOnly = true) ∧
    (let s := booting (fun o => { o with lcs := 0 })
     let s := { s with upd := { s.upd with mram := some { bootRec1 with a := ⟨.active, true, 0, 0⟩ }, devA := ⟨some image0, none, none⟩ } }
     let u := (s.readStores obs).trainDram obs.dramPages
     s.lcs ≠ 4 ∧ u.seedOnly = false ∧ (u.chooseImage (u.fld Reg.pwrReset 4 2 == 1)).2 = some 0) := by decide +kernel

/-- A device that lost PLL-A and has re-locked since, its husk line still asserted. -/
def relocked : State := { lit with clk := { lit.clk with huskLine := true, relockAt := 0 } }
def lost : State := { lit with clk := { lit.clk with lost := true, running := false, huskLine := true } }
def dieHusked (parity : Nat) : State := { lit with clk := { lit.clk with die1 := ⟨true, parity⟩ } }
def locked : State := regs [(Reg.genClkstat, 0x1F), (Reg.hostStat, 0x57)] lit

theorem witness_ClocksComplete :
    (let s := { booting id with clk := Clocks.reset }
     s.pwr.boot = .booting ∧ s.clk.running = false) ∧
    (lit.clk.running = true ∧ lit.clk.lost = false) ∧ lost.clk.lost = true ∧
    (relocked.clk.huskLine = true ∧ relocked.clk.lost = false ∧ relocked.past relocked.clk.relockAt (usTicks 1) = true) ∧
    (204 < (41165 - 40960) + (40960 - 41165) ∧ (40756 - 40960) + (40960 - 40756) ≤ 204) ∧
    (locked.bit Reg.genClkstat 1 = true ∧ locked.linkUp = true ∧ (regs [(Reg.genClkstat, 0x1F)] lost).bit Reg.genClkstat 1 = true) ∧
    (((dieHusked 0).die 1).ownHusk = true ∧ 64 ≤ 64 ∧ 2 ≤ ((dieHusked 2).die 1).parity ∧
      ¬ 2 ≤ ((dieHusked 1).die 1).parity) := by decide +kernel

theorem witness_EmptyQueueTicks : ready.pending = [] ∧ step ready = .next ready.tick := ⟨by decide +kernel, rfl⟩

theorem witness_QueueUntouched : ∃ t : State, exec (.genNop (pk [])) ready = .next t := ⟨_, rfl⟩

theorem witness_HostMemoryCanonical : Memory.wf ready.hostMem ∧ step ready = .next ready.tick := ⟨by simp [Memory.wf]; decide +kernel, rfl⟩

/-! Ill-formed commands, one for each check of `Instr.wf`, and well-formed ones beside them. -/

theorem wf_packets :
    (Instr.genNop (pk [])).wf = true ∧ (Instr.genNop { pk [] with src := 255 }).wf = true ∧
    (Instr.genNop { pk [] with src := 32 }).wf = false ∧ (Instr.genNop { pk [] with sqhead := 65536 }).wf = false ∧
    (Instr.genNop { pk [] with words := [] }).wf = false := by decide

theorem wf_frames :
    (Instr.refFrame 0 ⟨List.replicate 7 0, [], 0, 0, 0⟩).wf = true ∧
    (Instr.refFrame 0 ⟨List.replicate 6 0, [], 0, 0, 0⟩).wf = false := by decide

theorem wf_voltages :
    (Instr.railUv 0 60000).wf = true ∧ (Instr.railUv 0 60001).wf = false ∧ (Instr.litSample 0 ⟨0, .volts 60001⟩).wf = false ∧
    (Instr.complianceLoss 0 0 0 0 60001).wf = false ∧ (Instr.huskLineRelease (List.replicate 8 0)).wf = true ∧
    (Instr.huskLineRelease (List.replicate 7 0)).wf = false ∧ (Instr.huskLineRelease (60001 :: List.replicate 7 0)).wf = false ∧
    (Instr.dieResyncWord 0 256 [0, 0, 0, 0]).wf = false ∧ (Instr.dieResyncWord 0 64 [0, 0, 0]).wf = false := by decide

theorem wf_offsets :
    (Instr.registerWrite .fast 0x7FFF [0] true).wf = true ∧ (Instr.registerWrite .fast 0x8000 [0] true).wf = false ∧
    (Instr.registerWrite .fast 0 [] true).wf = false ∧ (Instr.registerWrite .bar0 0x1000000 [0] true).wf = false ∧
    (Instr.registerWrite .bar2 0x1000000 [0] true).wf = false ∧ (Instr.registerWrite .bar4 0x10000 [0] true).wf = false ∧
    (Instr.registerWrite .command 4 [0] true).wf = false ∧ (Instr.registerWrite .msixControl 4 [0] true).wf = false ∧
    (Instr.pairLowRead .pcie 0x1000000).wf = false ∧ (Instr.pairHighRead .pcie 0x1000000).wf = false := by decide

theorem wf_codes :
    (Instr.faultReport [(65536, 0)]).wf = false ∧ (Instr.faultCauseEnd 0 0x1FFFF).wf = true ∧ (Instr.faultCauseEnd 0 0x20000).wf = false ∧
      (Instr.quietExpiry 65536).wf = false ∧
    (Instr.escalationWindowEnd 65536).wf = false ∧ (Instr.timerExpiry 0 0 (2 ^ 24) ⟨0, 0⟩).wf = false ∧
    (Instr.timerExpiry 0 0 0 ⟨0, 2 ^ 64⟩).wf = false ∧ (Instr.sramEccError 0x420000 true ⟨.scrubber, []⟩).wf = false ∧
      (Instr.sramEccError 0x41FFFF true ⟨.scrubber, [(0, 512)]⟩).wf = false ∧
    (Instr.houseRoundDone 0 []).wf = false ∧ (Instr.clkWindowEnd 65536).wf = false ∧ (Instr.uartFrame [0x7E]).wf = false ∧
    (Instr.consoleLine [0x7E]).wf = false := by decide

theorem wf_tasks :
    (Instr.taskComplete ⟨0, [⟨5, 2 ^ 24 - 1, 3, 0⟩], [(0x260000, 1), (0x3FFFFF, 1)], [(0xFFFF, 1)], 0, 0, false⟩).wf = true ∧
    (Instr.taskComplete ⟨0, [⟨5, 2 ^ 24, 3, 0⟩], [], [], 0, 0, false⟩).wf = false ∧
    (Instr.taskComplete ⟨0, [], [(0x25FFFF, 1)], [], 0, 0, false⟩).wf = false ∧
    (Instr.taskComplete ⟨0, [], [], [(0x10000, 1)], 0, 0, false⟩).wf = false ∧
    (Instr.railTargetReached 0 ⟨0, 2 ^ 64⟩).wf = false := by decide

theorem wf_boots :
    (Instr.runReady ⟨[(4, 0, 0)], false, [], false, [], [], 0⟩).wf = false ∧
    (Instr.runReady ⟨[], false, [65536], false, [], [], 0⟩).wf = false ∧
    (Instr.runReady ⟨[], false, [], false, [], [2], 0⟩).wf = false ∧
    (Instr.runReady ⟨[], false, [], false, [], [], 131073⟩).wf = false ∧
    (Instr.pwrWarmRestart (pk []) false [(16, 0)] (List.replicate 8 0)).wf = false := by decide

/-! The spec's worked examples. -/

/-- 00, example after the field conventions: LMP_SCUR of string 37 lies at 0x4_0194. -/
theorem test_scur_address : Reg.lmpScur 37 = 0x40194 := by decide

/-- 02, example after R60: four lamps of 4.70 V with 1.10 V headroom give 19.90 V. -/
theorem test_target_manual_bound : autoTarget false 1100 [(18800, 0)] = 19900 := by decide
/-- 02, sizing example: 10.20 V, code 84. -/
theorem test_target_sizing : autoTarget false 1200 [(9000, 0), (6750, 2250)] = 10200 ∧ railMv 84 = 10200 := by decide

/-- 03, example after R105: a BYPASS strike with sequence 9 has check byte 0x98. -/
theorem test_strike_check : checkByte 9 2 = 0x98 := by decide
/-- 03, example after R107: INSERT with DUTY 0x4CCD, CYCLE 0x37, sequence 9. -/
theorem test_command_frame :
    commandSyms 9 { Content.reset with aspect := .insert, pwm := true, duty := 0x4CCD, cyc := 0x37 } =
      k28 0 :: [0x15, 0x4C, 0xCD, 0x79, 0x39].map dsym := by decide +kernel
/-- 03, example after R120: the CRC-16 of a return frame. -/
theorem test_return_crc : crc16 [0x80, 0x73, 0x74, 0x29, 0x96] = 0xB1BC := by decide +kernel
/-- 03, example after R98: W = 12 and FRAC = 0x4CCD give d_ins 0x4CC. -/
theorem test_d_ins : dInsOf 12 { Content.reset with aspect := .insert, pwm := true, duty := 0x4CCD } = 0x4CC := by decide

/-- 05, worked arm example: SM 203 added, SM 205 swapped for SM 209, SM 200 the PWM submodule. -/
theorem test_worked_arm :
    let p := localPlan 5 0 4 32 0x8000 [⟨28848, 200, false⟩, ⟨28760, 201, true⟩, ⟨28980, 202, false⟩, ⟨28704, 203, false⟩,
      ⟨28784, 204, true⟩, ⟨28904, 205, true⟩, ⟨28808, 207, true⟩, ⟨28928, 208, false⟩, ⟨28748, 209, false⟩]
    (p.cands.filter Cand.ins).map Cand.sm = [203, 209, 201, 204, 207] ∧ p.theta = some 28808 ∧ p.mandatory = 1 ∧ p.pwm = some 200 := by
  decide +kernel

/-- 06, ring example after R226: position 1 takes 28,778 of bucket 5. -/
theorem test_ring :
    let c0 : List Cand := [⟨28720, 1, true⟩, ⟨28760, 2, true⟩, ⟨28790, 3, false⟩]
    let c1 : List Cand := [⟨28725, 1, true⟩, ⟨28778, 2, false⟩, ⟨28805, 3, false⟩]
    let c2 : List Cand := [⟨28735, 1, true⟩, ⟨28780, 2, true⟩, ⟨28772, 3, false⟩]
    let nm := bucketCounts 28700 4 false
    let sc := bucketCounts 28700 4 true
    let t := mergeOf 6 0 0 0 28700 4 (addBuckets (nm c0) (addBuckets (nm c1) (nm c2))) (addBuckets (sc c0) (addBuckets (sc c1) (sc c2)))
      (nm c0) (sc c0) (nm c1) (sc c1) 0
    t.mode = 1 ∧ t.jb = 5 ∧ t.rr = 1 ∧ t.jt = 5 ∧ t.thLo = 28764 ∧ t.thHi = 28779 ∧ t.offE = 0 ∧
      ((spannedPlan t 28700 4 0 0 16 c1).cands.filter Cand.ins).map Cand.key = [28725, 28778] ∧
      ((spannedPlan t 28700 4 1 0 16 c2).cands.filter Cand.ins).map Cand.key = [28735, 28780] := by decide +kernel

/-- 10, example after R357: with OFF 37 and GAIN_CAL 33,116 a code 11,911 reads 12,000. -/
theorem test_calibrated : (ready.storeCal 0 0x82 0 (37, 33116)).correct 0 0x82 0 11911 = 12000 := by decide +kernel

/-- 14, the form of the example after R441, on a base of eight bytes: four bytes kept, one replaced by two, the rest kept. -/
theorem test_delta :
    applyDelta false (leBytes 4 0x444D4C52 ++ leBytes 4 9 ++ leBytes 4 8 ++ leBytes 4 0 ++
        [1, 0, 0, 0, 0, 4, 0, 0, 0, 2, 2, 0, 0xAA, 0xBB, 1, 5, 0, 0, 0, 3, 0, 0, 0, 0]) [1, 2, 3, 4, 5, 6, 7, 8] 9 =
      some [1, 2, 3, 4, 0xAA, 0xBB, 6, 7, 8] := by decide +kernel

/-- FI7 of the example of 09 after R320 (TOP 40, THR_ON 30, THR_OFF 10, clock B) with counter c and state st. -/
def fi7 (c : Nat) (st : Bool) : State :=
  let w : Word := 0x281E0A81
  let s := regs [(Reg.fioFcfg 7, w)] lit
  { s with fio := { s.fio with ins := [(7, { FieldIn.reset with running := true, act := w, count := c, state := st, raw := st })] } }

/-- 09, example after R320: a high tick takes c from 29 to 30 = THR_ON, state 1; one from 40 = TOP leaves 40; a low one from 11 gives
10 = THR_OFF, state 0. -/
theorem test_filter :
    (let x := (aft (.filterTick true 0x80) (fi7 29 false)).fin 7; x.count = 30 ∧ x.state = true) ∧
    (let x := (aft (.filterTick true 0x80) (fi7 28 false)).fin 7; x.count = 29 ∧ x.state = false) ∧
    (let x := (aft (.filterTick true 0x80) (fi7 40 true)).fin 7; x.count = 40 ∧ x.state = true) ∧
    (let x := (aft (.filterTick true 0) (fi7 11 true)).fin 7; x.count = 10 ∧ x.state = false) := by decide +kernel

/-- The staged values of `lit`, which every check takes; and a CUR below the smallest current (R47), which they do not. -/
theorem witness_LmpCommitChecked :
    (lit.lamps.commit = none ∧ lit.lmpFault (lit.snapConf lit.lmpSnap) = none ∧ lit.accepts Op.lmpCommit (pk []) ∧ lit.served = true) ∧
    (let s := regs [(Reg.lmpScur 0, 0x000A0010)] lit
     s.lamps.commit = none ∧ (s.lmpFault (s.snapConf s.lmpSnap)).isSome = true ∧ s.served = true ∧
       ∀ f ∈ s.lmpFault (s.snapConf s.lmpSnap), f.1 < 256 ∧ f.2.1 < 256 ∧ f.2.2 < 512) := by decide +kernel

theorem witness_AnswerIsOneReply :
    (ready.runningEntry (pk []) = none ∧ (pk []).src ≠ 255 ∧ ([] : List Word).length ≤ 5 ∧
      (pkPtr 2 []).uart = false ∧ (List.replicate 6 (0 : Word)).length > 5) ∧
    (ready.runningEntry { pk [] with src := 255 } = none ∧ ({ pk [] with src := 255 } : Packet).uart = true) ∧
    ((running false (some (pk []))).runningEntry (pk [])).isSome = true ∧
    (let s := (running false (some (pk []))).onHost (fun h => { h with results := [(4, reply0)] })
     s.host.results.any (fun x => x.1 == (s.entry 0).order) = true) ∧
    (ready.onHost (fun h => { h with ended := [pk []] })).host.ended.contains (pk []) = true := by decide +kernel

theorem witness_StrikeFrameLayout :
    Aspect.bypass ≠ .dark ∧
    (let s := framed.onStream 0 (fun x => { x with idlePend := true })
     s.served = true ∧ confFramed s.conf 0 = true ∧ (s.stream 0).content.aspect ≠ .dark ∧ (s.stream 0).lineBusy (s.boundary 0) = false ∧
      (s.stream 0).urgent = false ∧ (s.stream 0).repeatPend = false ∧ (s.stream 0).idlePend = true) := by decide +kernel

theorem witness_NewEntriesStart :
    (∃ p, Instr.weirSmtWrite (pk (3 :: img)) = .weirSmtWrite p) ∧ (armed.smt 3).valid = false ∧
    ((aft (.weirSmtWrite (pk (3 :: img))) armed).smt 3).valid = true := ⟨⟨_, rfl⟩, by decide +kernel⟩

theorem witness_SettledFollowsSamples : lit.served = true ∧ wbit (0x80000003 : Word) 31 = true ∧
  (3 : Nat) = field 3 0 7 := by decide +kernel

end Sys2Proof.Tests
end

section
/-! Strike frames (R105): the layout of the check character, and the IDLE strike that a free lane with nothing else pending starts. -/

namespace Sys2Proof.Machine

/-! What the recorder and the shunt line leave of the streams. -/

theorem State.each_lamps {α : Type} (s : State) (l : List α) (f : State → α → State) (h : ∀ s a, (f s a).lamps = s.lamps) :
    (s.each l f).lamps = s.lamps := by
  unfold State.each
  induction l generalizing s with
  | nil => rfl
  | cons a l ih => exact (ih _).trans (h s a)

theorem State.when_lamps (s : State) (c : Bool) (f : State → State) (h : ∀ s, (f s).lamps = s.lamps) :
    (s.when c f).lamps = s.lamps := by
  cases c
  · rfl
  · exact h s

theorem State.record_lamps (s : State) (source : Nat) (pass : Word → Bool) (r : Rec) : (s.record source pass r).lamps = s.lamps := by
  unfold State.record
  split
  · rfl
  · refine State.each_lamps _ _ _ fun u i => ?_
    dsimp only
    split
    · exact State.when_lamps _ _ _ fun v => State.setBit_lamps v _ _ _
    · rfl

@[simp] theorem State.recEdge_stream (s : State) (lamp time : Nat) (lit own : Bool) (j : Nat) :
    (s.recEdge lamp time lit own).stream j = s.stream j :=
  congrArg (fun u : Lamps => Tab.get (fun _ => Stream.reset) u.streams j) (State.record_lamps s _ _ _)

theorem State.setStream_stream_same (s : State) (i : Nat) (v : Stream) : (s.setStream i v).stream i = v :=
  (State.setStream_stream ..).trans (if_pos rfl)

/-- Driving the line of stream `l` (R20) changes nothing of that stream but the line's level and its edges. -/
theorem State.follow_stream_same (s : State) (l : Nat) :
    ∃ v es, (s.follow l).stream l = { s.stream l with level := v, edges := es } := by
  unfold State.follow
  dsimp only
  split
  · exact ⟨_, _, rfl⟩
  · split
    · split
      · exact ⟨_, _, State.setStream_stream_same ..⟩
      · exact ⟨_, _, (State.recEdge_stream ..).trans (State.setStream_stream_same ..)⟩
    · exact ⟨_, _, State.setStream_stream_same ..⟩

/-! The two symbols of a strike. -/

/-- The check character (R105) of a sequence number and an aspect code: its fields, and its odd parity. -/
theorem checkByte_layout : ∀ (seq : Fin 16) (code : Fin 4),
    (BitVec.ofNat 8 (checkByte seq code)).toNat / 16 = seq ∧ (BitVec.ofNat 8 (checkByte seq code)).toNat / 4 % 4 = code ∧
      (BitVec.ofNat 8 (checkByte seq code)).getLsbD 1 = false ∧
      countTrue (byteBits (BitVec.ofNat 8 (checkByte seq code))) % 2 = 1 := by
  decide

theorem Aspect.code_lt (a : Aspect) : a.code < 4 := by cases a <;> decide

/-! The start of an IDLE strike. -/

/-- The IDLE strike of a stream (R105, R111) that starts at `start` with symbols of length `sym`. -/
def Stream.idleFrame (st : Stream) (start sym : Nat) : Frame :=
  ⟨.idle, st.content, st.seq, strikeSyms true st.seq st.content.aspect, start,
    start + sym * (strikeSyms true st.seq st.content.aspect).length⟩

/-- With nothing of priority 1 to 4 pending the serialiser starts the IDLE strike that waits (R110). -/
theorem Stream.startItem_idle (st : Stream) (fkind : Bool) (husk : Aspect) (t0 start sym : Nat) (hu : st.urgent = false)
    (hr : st.repeatPend = false) (hi : st.idlePend = true) :
    st.startItem fkind husk t0 start sym =
      { st.putFrame (st.idleFrame start sym) sym with
        idlePend := false, idles := satAdd 32 (st.putFrame (st.idleFrame start sym) sym).idles 1 } := by
  simp only [Stream.urgent, Bool.or_eq_false_iff, Option.isSome_eq_false_iff, Option.isNone_iff_eq_none] at hu
  obtain ⟨⟨⟨hsag, hhusk⟩, hnew⟩, hrestart⟩ := hu
  simp [Stream.startItem, Stream.idleFrame, hsag, hhusk, hnew, hrestart, hr, hi]

/-- FRAME_TRANSMIT_START on a served framed lane with content and a free line (R108 to R110). -/
theorem exec_frameTransmitStart_of_free (s : State) (l : Fin 512) (hs : s.served = true) (hf : confFramed s.conf l = true)
    (hd : (s.stream l).content.aspect ≠ .dark) (hb : (s.stream l).lineBusy (s.boundary l) = false) :
    exec (.frameTransmitStart l) s = .next ((s.setStream l ((s.stream l).startItem (confFkind s.conf l)
      (huskAspect (confHusk s.conf l)) s.pwr.sagTime (s.boundary l) (symTicks (confRate s.conf l)))).follow l) := by
  change execFrameTransmitStart l s = _
  simp [execFrameTransmitStart, hs, hf, hd, hb]

/-- Settles O27: the check characters by their finite layout, the IDLE strike by the serialiser's last branch. -/
theorem strikeFrameLayout : Obligations.StrikeFrameLayout := by
  unfold Obligations.StrikeFrameLayout
  constructor
  · intro idle seq a ha
    refine ⟨BitVec.ofNat 8 (checkByte seq a.code), ?_, ?_⟩
    · cases a with
      | dark => exact absurd rfl ha
      | insert | bypass | block => cases idle <;> rfl
    · obtain ⟨hseq, hcode, hzero, hodd⟩ := checkByte_layout seq ⟨a.code, a.code_lt⟩
      refine ⟨hseq, hcode.trans ?_, hzero, hodd⟩
      cases a with
      | dark => exact absurd rfl ha
      | insert | bypass | block => rfl
  · intro s l hs hf hd hb hu hr hi
    have hexec := exec_frameTransmitStart_of_free s l hs hf hd hb
    rw [Stream.startItem_idle _ _ _ _ _ _ hu hr hi] at hexec
    obtain ⟨v, es, ht⟩ := State.follow_stream_same (s.setStream l _) l
    rw [State.setStream_stream_same] at ht
    exact ⟨_, (s.stream l).idleFrame (s.boundary l) (symTicks (confRate s.conf l)), hexec, by rw [ht]; rfl, rfl, rfl, by rw [ht]; rfl⟩

end Sys2Proof.Machine
end

section
/-! The start of a table entry (R171): what a command writes into an invalid entry, and that nothing else of a command undoes it. -/

namespace Sys2Proof.Machine

/-! The fields that R171 fixes. -/

/-- An entry that is invalid, or still stands as R171 has it start. -/
def Smt.Starting (e : Smt) : Prop :=
  e.valid = true → e.vcap = 0 ∧ e.age = 255 ∧ e.fresh = 0 ∧ e.uStale = true

theorem Smt.starting_of_invalid {e : Smt} (h : e.valid = false) : e.Starting := fun hv => absurd hv (by simp [h])

/-- Settling keeps a start: U_STALE is a cause, and a cause holds FRESH at 0 (R181, R182). -/
theorem Smt.settle_starting {e : Smt} (old : Smt) (h : e.Starting) : (e.settle old).Starting := by
  intro hv
  obtain ⟨hvcap, hage, -, hstale⟩ := h hv
  have hcause : e.otherCause = true := by simp [Smt.otherCause, hstale]
  exact ⟨hvcap, hage, by simp [Smt.settle, hcause], hstale⟩

/-- An entry write gives a valid image its start where the entry was invalid, and leaves the fields of R171 of a valid one. -/
theorem State.rewritten_starting (s : State) {old : Smt} (w : List Word) (h : old.Starting) :
    (s.rewritten old (old.withCfg w)).Starting := by
  intro hv
  unfold State.rewritten at hv ⊢
  dsimp only at hv ⊢
  split at hv
  case isTrue hinvalid => exact absurd hv (by simpa using hinvalid)
  case isFalse hvalid =>
    rw [if_neg hvalid]
    cases hold : old.valid with
    | false => exact ⟨rfl, rfl, rfl, rfl⟩
    | true =>
      rw [if_neg (by decide)]
      split <;> exact h hold

/-! What keeps the starts of the whole table. -/

/-- Every entry that is invalid or stands as R171 has it start in `s` does so in `t`. -/
def State.KeepsStarts (s t : State) : Prop := ∀ j, (s.smt j).Starting → (t.smt j).Starting

theorem State.KeepsStarts.rfl {s : State} : s.KeepsStarts s := fun _ h => h

theorem State.KeepsStarts.trans {s t u : State} (h : s.KeepsStarts t) (h' : t.KeepsStarts u) : s.KeepsStarts u :=
  fun j hj => h' j (h j hj)

/-- What leaves the submodule table alone keeps its starts. -/
theorem State.KeepsStarts.of_smt {s t : State} (h : t.weir.smt = s.weir.smt) : s.KeepsStarts t := fun j hj => by
  unfold State.smt at hj ⊢
  rwa [h]

theorem State.keepsStarts_when {s : State} (c : Bool) {f : State → State} (h : s.KeepsStarts (f s)) :
    s.KeepsStarts (s.when c f) := by
  cases c with
  | false => exact .rfl
  | true => exact h

theorem State.keepsStarts_each {α : Type} (s : State) (l : List α) {f : State → α → State}
    (h : ∀ (t : State) a, t.KeepsStarts (f t a)) :
    s.KeepsStarts (s.each l f) := by
  unfold State.each
  induction l generalizing s with
  | nil => exact .rfl
  | cons a l ih => exact (h s a).trans (ih _)

theorem State.keepsStarts_setSmt {s : State} {i : Nat} {v : Smt} (h : (s.smt i).Starting → v.Starting) :
    s.KeepsStarts (s.setSmt i v) := by
  intro j hj
  rw [State.setSmt_smt]
  split
  case isTrue heq => exact h (heq ▸ hj)
  case isFalse => exact hj

theorem State.keepsStarts_onSmt {s : State} {i : Nat} {f : Smt → Smt} (h : (s.smt i).Starting → (f (s.smt i)).Starting) :
    s.KeepsStarts (s.onSmt i f) := by
  unfold State.onSmt
  split
  · exact .rfl
  · exact State.keepsStarts_setSmt h

/-! Operations that leave the table alone. -/

theorem State.keepsStarts_setBit (s : State) (off b : Nat) (v : Bool) : s.KeepsStarts (s.setBit off b v) := .of_smt rfl

theorem State.keepsStarts_triggerVector (s : State) (v : Nat) : s.KeepsStarts (s.triggerVector v) := by
  unfold State.triggerVector
  split
  · split
    · exact .rfl
    · exact .of_smt rfl
  · exact .of_smt rfl

theorem State.keepsStarts_irq (s : State) (src : Nat) : s.KeepsStarts (s.irq src) := by
  have hvector : ∀ t : State, t.KeepsStarts
      (if t.bit (Reg.hostSrccfg src) 12 then t.triggerVector (t.fld (Reg.hostSrccfg src) 0 6) else t) := fun t => by
    split
    · exact t.keepsStarts_triggerVector _
    · exact .rfl
  refine State.KeepsStarts.trans ?_ (hvector _)
  split <;> exact s.keepsStarts_setBit _ _ _

theorem State.keepsStarts_record (s : State) (source : Nat) (pass : Word → Bool) (r : Rec) :
    s.KeepsStarts (s.record source pass r) := by
  unfold State.record
  split
  · exact .rfl
  · refine s.keepsStarts_each _ fun u i => ?_
    dsimp only
    split
    · exact State.KeepsStarts.trans (t := u.setStrm i _) (.of_smt rfl) (State.keepsStarts_when _ (State.keepsStarts_setBit _ _ _ _))
    · exact .rfl

theorem State.keepsStarts_follow (s : State) (l : Nat) : s.KeepsStarts (s.follow l) := by
  unfold State.follow
  dsimp only
  split
  · exact .rfl
  · split
    · split
      · exact .of_smt rfl
      · exact State.KeepsStarts.trans (t := s.setStream l _) (.of_smt rfl) (State.keepsStarts_record _ _ _ _)
    · exact .of_smt rfl

theorem State.keepsStarts_setTarget (s : State) (g mv : Nat) : s.KeepsStarts (s.setTarget g mv) := .of_smt rfl

theorem State.keepsStarts_retarget (s : State) (gs : List Nat) : s.KeepsStarts (s.retarget gs) := by
  refine s.keepsStarts_each gs fun t g => ?_
  split
  · exact .rfl
  · exact t.keepsStarts_setTarget _ _

theorem State.keepsStarts_writeReg (s : State) (off : Nat) (v : Word) : s.KeepsStarts (s.writeReg off v) := by
  unfold State.writeReg
  split
  · exact .of_smt rfl
  · exact .rfl

/-! The change of a stream, and a husk (R114, R381). -/

/-- A content shown touches ASPECT, PWMSM, SWCNT and CTIME of the entry that names the lamp (R172), and no field of R171. -/
theorem State.keepsStarts_show (s : State) (src : AspSrc) (l : Nat) (c : Content) (fadeUs : Nat) :
    s.KeepsStarts (s.show src l c fadeUs) := by
  unfold State.show
  dsimp only
  refine State.KeepsStarts.trans ?_ (State.keepsStarts_follow _ l)
  split
  · exact State.KeepsStarts.trans (t := s.setStream l _) (.of_smt rfl) (State.keepsStarts_onSmt fun h => h)
  · exact .of_smt rfl

theorem State.keepsStarts_commandStream (s : State) (src : AspSrc) (l : Nat) (c : Content) :
    s.KeepsStarts (s.commandStream src l c) := by
  unfold State.commandStream
  dsimp only
  split
  · exact s.keepsStarts_show _ _ _ _
  · split
    · exact s.keepsStarts_setBit _ _ _
    · exact .rfl

theorem State.keepsStarts_huskEntry (before s : State) : s.KeepsStarts (State.huskEntry before s) := by
  have heach : ∀ (t : State) (ls : List Nat), t.KeepsStarts (t.each ls fun u l => u.commandStream .husk l (u.huskContent l)) :=
    fun t ls => t.keepsStarts_each ls fun u l => u.keepsStarts_commandStream _ _ _
  unfold State.huskEntry
  dsimp only
  split
  · exact .rfl
  · split
    · exact (heach s _).trans (heach _ _)
    · exact heach s _

theorem State.keepsStarts_huskFlags (s : State) : s.KeepsStarts s.huskFlags := by
  refine s.keepsStarts_each _ fun t a => ?_
  have hnote : t.KeepsStarts (t.when (t.devHusk || t.armHusk a)
      (fun s => if (s.arm a).fromHusk then s else s.onArm a (fun x => { x with fromHusk := true }))) :=
    State.keepsStarts_when _ (by
      split
      · exact .rfl
      · exact .of_smt rfl)
  dsimp only
  split
  · exact hnote
  · exact hnote.trans ((State.keepsStarts_setBit _ _ _ _).trans (State.keepsStarts_irq _ 34))

theorem State.keepsStarts_withHusk {s : State} {f : State → State} (h : s.KeepsStarts (f s)) : s.KeepsStarts (s.withHusk f) :=
  (h.trans (State.keepsStarts_huskEntry s _)).trans (State.keepsStarts_huskFlags _)

/-! Entry writes (R173). -/

theorem State.keepsStarts_dropSpare (s : State) (old new : Smt) : s.KeepsStarts (s.dropSpare old new) := by
  unfold State.dropSpare
  split
  · exact State.KeepsStarts.trans (t := s.onPrv old.spare _) (.of_smt rfl) (State.keepsStarts_retarget _ _)
  · exact .rfl

/-- Causes changed without a BYPASS keep the starts if the change does. -/
theorem State.keepsStarts_causeSmt_quiet {s : State} {sm : Nat} {f : Smt → Smt}
    (h : (s.smt sm).Starting → (f (s.smt sm)).Starting) : s.KeepsStarts (s.causeSmt sm true f) := by
  have hset : s.KeepsStarts (s.onSmt sm fun e => (f e).settle e) :=
    State.keepsStarts_onSmt fun hs => Smt.settle_starting (s.smt sm) (h hs)
  simpa [State.causeSmt, State.when] using hset

theorem State.keepsStarts_oneGen (s before : State) (sm : Nat) : s.KeepsStarts (s.oneGen before sm) := by
  unfold State.oneGen
  split
  · exact .rfl
  · exact State.keepsStarts_setSmt fun h => h

theorem State.keepsStarts_reranked (s before : State) (a : Nat) : s.KeepsStarts (s.reranked before a) :=
  s.keepsStarts_each _ fun _ _ => State.keepsStarts_setSmt fun h => h

theorem State.keepsStarts_writeEntry (s : State) (sm : Nat) (w : List Word) : s.KeepsStarts (s.writeEntry sm w) := by
  refine State.keepsStarts_withHusk ?_
  have hcause : s.KeepsStarts ((s.dropSpare (s.smt sm) ((s.smt sm).withCfg w)).causeSmt sm true
      (fun e => s.rewritten e (e.withCfg w))) :=
    (s.keepsStarts_dropSpare _ _).trans (State.keepsStarts_causeSmt_quiet (s.rewritten_starting w))
  dsimp only
  refine State.KeepsStarts.trans ?_ (State.keepsStarts_reranked _ _ _)
  refine State.KeepsStarts.trans ?_ (State.keepsStarts_reranked _ _ _)
  refine State.KeepsStarts.trans ?_ (State.keepsStarts_oneGen _ _ _)
  split
  · exact hcause.trans (State.keepsStarts_commandStream _ _ _ _)
  · exact hcause

theorem State.keepsStarts_tryEntry (s : State) (sm : Nat) (w : List Word) : s.KeepsStarts (s.tryEntry sm w).2 := by
  unfold State.tryEntry
  split
  · exact .rfl
  · exact s.keepsStarts_writeEntry sm w

theorem State.keepsStarts_loadEntries (at_ k sm n : Nat) (s : State) : s.KeepsStarts (State.loadEntries at_ k sm n s).2.2 := by
  induction k generalizing sm n s with
  | zero => exact .rfl
  | succ k ih =>
    unfold State.loadEntries
    dsimp only
    split
    · exact .rfl
    · exact (s.keepsStarts_tryEntry _ _).trans (ih _ _ _)

/-! Command packets (R299, R301). -/

theorem State.keepsStarts_dmaWrite (s : State) (a : Nat) (bs : List Byte) : s.KeepsStarts (s.dmaWrite a bs) := by
  rw [State.dmaWrite_eq]
  exact .of_smt rfl

theorem State.keepsStarts_complete (s : State) (r : Reply) : s.KeepsStarts (s.complete r) := by
  unfold State.complete
  dsimp only
  split <;> exact .of_smt rfl

theorem State.keepsStarts_answer (s : State) (op : Op) (p : Packet) (status detail : Nat) (data : List Word) :
    s.KeepsStarts (s.answer op p status detail data) := by
  have hdata : ∀ long : Bool, s.KeepsStarts (if long then s.dmaWrite p.ptr.toNat (bytesOf data) else s) := fun long => by
    split
    · exact s.keepsStarts_dmaWrite _ _
    · exact .rfl
  unfold State.answer
  dsimp only
  split
  · split
    · exact .rfl
    · exact (hdata _).trans (.of_smt rfl)
  · split
    · exact .of_smt rfl
    · exact (hdata _).trans (State.keepsStarts_complete _ _)

theorem State.keepsStarts_begin (s : State) (p : Packet) : s.KeepsStarts (s.begin p) := by
  unfold State.begin
  split
  · exact .of_smt rfl
  · exact .rfl

/-- A command packet keeps the starts if the opcode's own effect does. -/
theorem State.keepsStarts_command {s : State} (op : Op) (p : Packet) {own : State → Result} (h : s.KeepsStarts (own s).state) :
    s.KeepsStarts (s.command op p own) := by
  unfold State.command
  split
  · exact .rfl
  · split
    · exact State.KeepsStarts.trans (t := s.onQueue p.src _) (.of_smt rfl) (State.keepsStarts_answer _ _ _ _ _ _)
    · split
      · exact s.keepsStarts_answer _ _ _ _ _
      · split
        · exact h.trans (State.keepsStarts_answer _ _ _ _ _ _)
        · exact h.trans (State.keepsStarts_begin _ p)

/-! The commands that write the table (R173, R200). -/

theorem State.keepsStarts_writeWrsel (s : State) (v : Word) : s.KeepsStarts (s.writeWrsel v) := by
  have hreg := s.keepsStarts_writeReg Reg.weirWrsel v
  unfold State.writeWrsel
  dsimp only
  split
  · split
    · exact hreg.trans (State.KeepsStarts.trans (State.keepsStarts_tryEntry _ _ _) (.of_smt rfl))
    · exact hreg
  · exact .rfl

theorem exec_weirWrselGo_keepsStarts {v : Word} {s t : State} (h : exec (.weirWrselGo v) s = .next t) : s.KeepsStarts t := by
  obtain rfl : s.writeWrsel v = t := Host.Outcome.next.inj h
  exact s.keepsStarts_writeWrsel v

theorem exec_weirSmtWrite_keepsStarts {p : Packet} {s t : State} (h : exec (.weirSmtWrite p) s = .next t) : s.KeepsStarts t := by
  obtain rfl := Host.Outcome.next.inj h
  refine State.keepsStarts_command _ p ?_
  dsimp only
  split
  · exact .rfl
  · exact s.keepsStarts_tryEntry _ _

theorem exec_weirSmtLoad_keepsStarts {p : Packet} {s t : State} (h : exec (.weirSmtLoad p) s = .next t) : s.KeepsStarts t := by
  obtain rfl := Host.Outcome.next.inj h
  refine State.keepsStarts_command _ p ?_
  dsimp only
  split
  · exact .rfl
  · split
    · exact .rfl
    · split
      · exact State.keepsStarts_loadEntries _ _ _ _ _
      · exact (State.keepsStarts_loadEntries _ _ _ _ _).trans (.of_smt rfl)

theorem exec_weirPin_keepsStarts {p : Packet} {s t : State} (h : exec (.weirPin p) s = .next t) : s.KeepsStarts t := by
  obtain rfl := Host.Outcome.next.inj h
  refine State.keepsStarts_command _ p ?_
  dsimp only
  split
  · exact .rfl
  · split
    · exact .rfl
    · split
      · exact .rfl
      · exact s.keepsStarts_each _ fun u w => (u.keepsStarts_writeEntry _ _).trans (State.keepsStarts_oneGen _ _ _)

/-! The table at reset. -/

theorem State.reset_smt (sm : Nat) : State.reset.smt sm = Smt.reset := rfl

theorem State.rank_of_invalid {s : State} {sm : Nat} (h : (s.smt sm).valid = false) : s.rank sm = 0x3FF := by
  simp [State.rank, h]

theorem State.reset_smtWords (sm : Nat) :
    State.reset.smtWords sm = [word sm, 0, 0, 0, 0, 0xFF00, 0, 0, 0x3FF0, 0, 0, 0, 0, 0, 0, 0] := by
  have hrank : State.reset.rank sm = 0x3FF := State.rank_of_invalid (by rw [State.reset_smt]; rfl)
  have hcfg0 : pack [(0, sm), (12, 0), (15, flag false), (16, 0), (20, 0)] = word sm := by simp [pack, flag, word]
  unfold State.smtWords
  rw [hrank, State.reset_smt]
  exact congrArg (· :: _) hcfg0

/-- Settles O36: the reset words by evaluation; and every command that writes the table keeps each entry invalid or as R171 has it start,
by the one place that makes an entry valid, `State.rewritten`. -/
theorem newEntriesStart : Obligations.NewEntriesStart := by
  unfold Obligations.NewEntriesStart
  refine ⟨fun sm _ => State.reset_smtWords sm, fun c s t hc h sm hold hnew => ?_⟩
  have hkeeps : s.KeepsStarts t := by
    obtain ⟨p, rfl | rfl | rfl⟩ | ⟨v, rfl⟩ := hc
    · exact exec_weirSmtWrite_keepsStarts h
    · exact exec_weirSmtLoad_keepsStarts h
    · exact exec_weirPin_keepsStarts h
    · exact exec_weirWrselGo_keepsStarts h
  exact hkeeps sm (Smt.starting_of_invalid hold) hnew

end Sys2Proof.Machine
end

section
/-! SETTLED of an accumulator set (R351): where it is read, what an offered sample makes of it, and that a clear takes it away. -/

namespace Sys2Proof

/-- Fields above bit 0 leave the parity of a packed sum alone. -/
theorem foldl_pack_mod_two (fs : List (Nat × Nat)) (a : Nat) (h : ∀ f ∈ fs, 0 < f.1) :
    (fs.foldl (fun a f => a + f.2 * 2 ^ f.1) a) % 2 = a % 2 := by
  induction fs generalizing a with
  | nil => rfl
  | cons f fs ih =>
    obtain ⟨hf, hfs⟩ := List.forall_mem_cons.mp h
    have heven : 2 ∣ f.2 * 2 ^ f.1 := (dvd_pow_self 2 hf.ne').mul_left _
    rw [List.foldl_cons, ih _ hfs]
    omega

/-- Bit 0 of a packed word whose first field is a flag there and whose other fields stand above it. -/
theorem wbit_pack_flag_zero (b : Bool) (fs : List (Nat × Nat)) (h : ∀ f ∈ fs, 0 < f.1) :
    wbit (pack ((0, flag b) :: fs)) 0 = b := by
  have hparity := foldl_pack_mod_two fs (0 + flag b * 2 ^ 0) h
  have hbit : field (pack ((0, flag b) :: fs)) 0 1 = flag b % 2 := by
    simp only [field, pack, List.foldl_cons, BitVec.toNat_ofNat]
    omega
  rw [wbit, hbit, flag_mod, flag_eq_one]

end Sys2Proof

namespace Sys2Proof.Machine

@[simp] theorem AccSet.add_settled (a : AccSet) (r : Int) (t chan gain : Nat) : (a.add r t chan gain).settled = true := by
  unfold AccSet.add
  split <;> rfl

@[simp] theorem AccSet.clear_settled (a : AccSet) : a.clear.settled = false := rfl

theorem AccSet.wbit_words_settled (a : AccSet) : wbit (a.words.getD 3 0) 0 = a.settled :=
  wbit_pack_flag_zero a.settled _ (by simp)

theorem State.onAcc_acc (s : State) (i j : Nat) (f : AccSet → AccSet) :
    (s.onAcc i f).acc j = if j = i then f (s.acc i) else s.acc j :=
  State.setAcc_acc ..

theorem State.onAcc_acc_same (s : State) (i : Nat) (f : AccSet → AccSet) : (s.onAcc i f).acc i = f (s.acc i) :=
  (s.onAcc_acc i i f).trans (if_pos rfl)

theorem State.offer_settled (s : State) (ad set : Nat) (valid : Bool) (r : Int) (t chan gain : Nat) :
    ((s.offer ad set valid r t chan gain).acc (128 * ad + set)).settled = valid := by
  rw [State.offer, State.onAcc_acc_same]
  cases valid with
  | true => exact AccSet.add_settled ..
  | false => rfl

/-- Clearing the sets of a list from `base` on leaves SETTLED 0 in each of them, and in each set where it was 0 before. -/
theorem State.each_clear_settled (s : State) (base k : Nat) (ks : List Nat)
    (h : k ∈ ks ∨ (s.acc (base + k)).settled = false) :
    ((s.each ks fun s k => s.onAcc (base + k) AccSet.clear).acc (base + k)).settled = false := by
  unfold State.each
  induction ks generalizing s with
  | nil => exact h.resolve_left List.not_mem_nil
  | cons i is ih =>
    refine ih _ ?_
    rw [State.onAcc_acc]
    split
    case isTrue => exact .inr (AccSet.clear_settled _)
    case isFalse hne =>
      refine h.imp_left fun hk => (List.mem_cons.mp hk).resolve_left ?_
      rintro rfl
      exact hne rfl

/-- MSR_ACLR on a served device: the set its low bits name, or with bit 31 all 128 of the converter. -/
theorem State.writeAclr_of_served {s : State} (v : Word) (hs : s.served = true) :
    s.writeAclr v = s.each (if wbit v 31 then List.range 128 else [field v 0 7])
      (fun s k => s.onAcc (128 * field v 7 2 + k) AccSet.clear) := by
  simp [State.writeAclr, hs]

theorem State.writeAclr_settled {s : State} {v : Word} {k : Nat} (hs : s.served = true) (hk : k < 128)
    (hv : wbit v 31 = true ∨ k = field v 0 7) : ((s.writeAclr v).acc (128 * field v 7 2 + k)).settled = false := by
  rw [State.writeAclr_of_served v hs]
  refine State.each_clear_settled _ _ _ _ (.inl ?_)
  split
  case isTrue => exact List.mem_range.mpr hk
  case isFalse hone => exact List.mem_singleton.mpr (hv.resolve_left hone)

theorem exec_msrAclrWrite (v : Word) (s : State) : exec (.msrAclrWrite v) s = .next (s.writeAclr v) := rfl

/-- Settles O46: the read word by its packing, the offer by its two kinds of sample, the clears by the sets that MSR_ACLR goes through. -/
theorem settledFollowsSamples : Obligations.SettledFollowsSamples := by
  unfold Obligations.SettledFollowsSamples
  exact ⟨AccSet.wbit_words_settled, State.offer_settled, rfl, fun s v hs =>
    ⟨s.writeAclr v, exec_msrAclrWrite v s, fun _ hk hv => State.writeAclr_settled hs hk hv⟩⟩

end Sys2Proof.Machine
end
